-- ==== Sys2Proof/Word.lean ====
section
/-! DEFINITION. The plainest types of the model: octets and octet strings (R324), as they stand in frames,
messages and records. -/

namespace Sys2Proof

/-- One octet. -/
abbrev Byte := BitVec 8

/-- An octet string, lowest offset first. -/
abbrev Bytes := List Byte

end Sys2Proof
end

