-- ==== Sys2Proof/Syntax.lean ====
section
/-! DEFINITION. The commands of the block: one constructor per row of spec/opcode_table.json, in the table's order.
The operands are what the world outside the block supplies with the command: the frame, the written value, the instant.
Times `t` are in ns of running time (R454) unless said otherwise. -/

namespace Sys2Proof

/-- The session a host write comes from (R17, R353, R463): its role (0 Viewer, 1 Operator, 2 Engineer, 3 Safety Officer,
4 Administrator), its number (0xFF none), the peer's IPv4 address, and the password the write carries. -/
structure Who where
  role : Fin 5
  session : Fin 256
  peer : BitVec 32
  pw : Option Bytes
  deriving DecidableEq, Repr

/-- The areas of shared SRAM (R337) with what the word belongs to: an axis, a task, a point, a port, a wheel entry, the
number of a kept acquisition row and a channel, an axis and the place of a row in its trace. -/
inductive SramArea where
  | axisState (axis : Fin 128)
  | segmentPool (axis : Fin 128)
  | taskStore (id : Nat)
  | pointImage (point : Fin 262144)
  | portBuffer (port : Fin 48)
  | eventWheel (entry : Fin 4096)
  | configImage
  | acquisition (row : Nat) (channel : Fin 16)
  | trace (axis : Fin 128) (row : Nat)
  | supervisor
  deriving DecidableEq, Repr

/-- A result of the ageing monitors (R499): a domain's degradation in 0.01 %; the worst row's wear in 0.01 % of the
endurance and how many rows not yet re-mapped exceed 80 % or have 3 or more corrected errors; the eye opening of a port
(48 the strait link) in 0.01 UI; the offset of REFCLK in 0.01 ppm. -/
inductive AgeingResult where
  | degradation (domain : Fin 16) (d : Fin 65536)
  | mram (worst : Fin 65536) (rows : Nat)
  | eye (port : Fin 49) (opening : Fin 256)
  | drift (v : Int)
  deriving DecidableEq, Repr

/-- The commands (rows of the table). -/
inductive Instr where
  /-- CYCLE_START (R32). Core/Timebase starts a new network cycle, captures on-chip encoder channels and begins the static segment. -/
  | cycleStart (t : Nat)
  /-- CYCLE_MARK (R54). A cycle mark reaches its offset and releases its bound tasks, raises CYCLE_MARK and pulses its EVT_OUT pin. -/
  | cycleMark (mark : Fin 16) (t : Nat)
  /-- FEEDBACK_RECEIVED (R81). A FEEDBACK frame arrives on a port, is judged by the guardian and frame checks, and the first valid copy is kept and turned into reconcile tasks. -/
  | feedbackReceived (port : Fin 48) (mac : Nat) (envOk : Bool) (f : Bytes)
  /-- CHANNEL_LOST (R81). CHANNEL_LOSS_CYCLES consecutive misses on one channel raise CHANNEL_LOST and hand the loss to the Lighthouse. -/
  | channelLost (port : Fin 48)
  /-- SYNC_RECEIVED (R68). A SYNC frame arrives in upstream slot 1 on an integrating port and yields one link-delay and deviation exchange. -/
  | syncReceived (port : Fin 48) (mac : Nat) (envOk : Bool) (f : Bytes)
  /-- ISLAND_COLDSTART (R63). A STARTUP frame arriving from an island is discarded and counted. -/
  | islandColdstart (port : Fin 48)
  /-- POINTS_RECEIVED (R112). A POINTS frame or part arrives and its values are written into the receive copy of the image. -/
  | pointsReceived (port : Fin 48) (mac : Nat) (envOk : Bool) (f : Bytes)
  /-- MAILBOX_RECEIVED (R125). A MAILBOX RESPONSE arrives and completes, continues or is discarded as stale for its tag and generation. -/
  | mailboxReceived (port : Fin 48) (mac : Nat) (envOk : Bool) (f : Bytes)
  /-- RELAY_RECEIVED (R47). An upstream RELAY frame is queued per destination or discarded into RELAY_DROPS or RELAY_NO_SLOT. -/
  | relayReceived (port : Fin 48) (mac : Nat) (envOk : Bool) (f : Bytes)
  /-- FEEDBACK_DEADLINE (R204). At instant L or the agreement instant, reconcile tasks are submitted for islands whose FEEDBACK is missing on both channels. -/
  | feedbackDeadline
  /-- FEEDBACK_AGREEMENT (R85). At the agreement instant the two heads exchange which FEEDBACK frames each received. -/
  | feedbackAgreement (peerHas : BitVec 24)
  /-- RECONCILE_QUIET_START (R140). RECONCILE_QUIET before cycle start the Ferry stops dispatching speculate and background tasks. -/
  | reconcileQuietStart
  /-- ASSEMBLY_INSTANT (R150). At L + a_dn - 300 ns the collector settles which axis records go out with APPLY_AT. -/
  | assemblyInstant (island : Fin 24)
  /-- FILL_INSTANT (R150). At an axis record's fill instant Egress writes it with APPLY_AT, LATE_APPLY or HOLD and counts missed deadlines. -/
  | fillInstant (island : Fin 24) (localAxis : Fin 16)
  /-- COMMAND_SEND (R23). Network/Egress sends each integrated island its COMMAND frame with the Lighthouse container, corrections and timed output. -/
  | commandSend (island : Fin 24) (late : Nat)
  /-- STARTUP_SEND (R526). A STARTUP frame with schedule, time, corrections and an ICB chunk is sent in downstream slot 0 on an integrating port. -/
  | startupSend (port : Fin 48) (late : Nat)
  /-- RELAY_SEND (R46). Queued relay payloads are sent to each destination in the first downstream RELAY slot. -/
  | relaySend (island : Fin 24) (late : Nat)
  /-- DYNAMIC_FRAME_SEND (R42). A pending mailbox or POINTS frame is sent in an owned mini-slot if it fits before dyn_end. -/
  | dynamicFrameSend (island : Fin 24) (id : Fin 1024) (late : Nat)
  /-- SNAPSHOT (R286). At dyn_end the received inputs and accepted outputs are published as the snapshot of the cycle. -/
  | snapshot (t : Nat)
  /-- GUARDIAN_END_OF_CYCLE (R51). At the end of a cycle each port updates its violation and clean runs. -/
  | guardianEndOfCycle
  /-- PORT_SYNC_EXCLUDED (R52). A port's violation run reaches 3 and its deviation is excluded from clock averaging. -/
  | portSyncExcluded (port : Fin 48)
  /-- PORT_ISOLATED (R52). A port's violation run reaches 8 and the port is closed in both directions. -/
  | portIsolated (port : Fin 48)
  /-- PORT_READMITTED (R52). A SYNC_EXCLUDED port's clean run reaches 8 and it returns to OPEN. -/
  | portReadmitted (port : Fin 48)
  /-- SYNC_CORRECTION (R77). Network/Sync averages the sync set fault-tolerantly and computes the head step and each island's correction. -/
  | syncCorrection (peer : List (Nat × Int))
  /-- CLOCK_CORRECTION_APPLY (R77). In the network idle time the head applies its step and external step to its idle time length. -/
  | clockCorrectionApply
  /-- RATE_ROUND_END (R78). After RATE_ROUND cycles the head adjusts its rate and publishes rate adjustments. -/
  | rateRoundEnd
  /-- NETWORK_START (R64). NETWORK_CONTROL START moves the head from OFF to LISTEN or is refused. -/
  | networkStart
  /-- NETWORK_STOP (R64). NETWORK_CONTROL STOP ceases island-port transmission and returns the head to OFF. -/
  | networkStop
  /-- LISTEN_TIMEOUT (R65). The listen timer expires with no running network and the head enters COLDSTART. -/
  | listenTimeout (t : Nat)
  /-- COLDSTART_COMPLETE (R64). Eight consecutive cycles pass without collision and the head enters OPERATE. -/
  | coldstartComplete
  /-- STRAIT_HEAD_SEEN (R64). A listening head sees a running head on the strait link and enters INTEGRATE. -/
  | straitHeadSeen (rank : Fin 2) (count : Fin 128) (cyc : Nat)
  /-- DH_NO_STRAIT (R64). A listening dual head sees a running network's island frame with the strait link down and restarts its listen timer. -/
  | dhNoStrait (port : Fin 48)
  /-- INTEGRATE_COMPLETE (R64). The head stays within precision of the other head for 8 cycles and takes the junior role, or stops on a digest mismatch. -/
  | integrateComplete (cycles peerDigest : Nat)
  /-- PORT_ENABLE_WRITE (R67). A write of a port's ENABLE starts link acquisition or closes the port at the next cycle start. -/
  | portEnableWrite (port : Fin 48) (v : Bool)
  /-- PCS_LINK_UP (R67). A port's PCS link comes up and the port starts integrating. -/
  | pcsLinkUp (port : Fin 48) (alignment : Fin 8)
  /-- PORT_LINK_LOST (R52). A port's link is lost and the port enters LINK_DOWN. -/
  | portLinkLost (port : Fin 48)
  /-- SYNC_MEASUREMENT_COMPLETE (R67). Sixteen SYNC exchanges complete and the measured delay is checked against the plan. -/
  | syncMeasurementComplete (port : Fin 48)
  /-- PORT_REMEASURE_TIMEOUT (R67). 1,024 cycles after a failed plan check the port begins a new measurement. -/
  | portRemeasureTimeout (port : Fin 48)
  /-- SYNC_ABSENT_TIMEOUT (R67). No SYNC for 64 cycles restarts a port's count of exchanges. -/
  | syncAbsentTimeout (port : Fin 48)
  /-- PORT_OPEN (R67). Eight consecutive cycles within precision with no mismatch open the port for COMMAND. -/
  | portOpen (port : Fin 48)
  /-- ISOLATION_HOLD_EXPIRY (R67). ISOLATION_HOLD cycles after isolation an isolated port resumes STARTUP. -/
  | isolationHoldExpiry (port : Fin 48)
  /-- SCHED_COMMIT (R59). A write of the key to SCHED_COMMIT checks the pending schedule and accepts or refuses it. -/
  | schedCommit
  /-- STRAIT_LINK_LOST (R89). The strait link is lost and the dual-head state moves to ALONE or STANDBY. -/
  | straitLinkLost
  /-- STRAIT_LINK_RETURN (R89). The strait link returns and the heads verify or restart resynchronisation. -/
  | straitLinkReturn (delay : Nat) (peerOperates : Bool)
  /-- PEER_INTEGRATED (R89). The peer head integrates over the strait link and this head takes or keeps the senior role. -/
  | peerIntegrated
  /-- STRAIT_FEEDBACK_RECEIVED (R85). A FEEDBACK frame or capture forwarded over the strait link is received for use by this head. -/
  | straitFeedbackReceived (src : Fin 32) (f : Bytes) (n : Int) (age : Option Nat) (sign : Int) (q : Nat)
  /-- DIGEST_EXCHANGE (R87). The heads exchange and compare per-axis state digests of the previous cycle. -/
  | digestExchange (peer : List (Nat × Nat))
  /-- DH_DIVERGENCE (R87). DIVERGE_LIMIT consecutive digest mismatches make the junior head record the axis and begin resynchronisation. -/
  | dhDivergence (axis : Fin 128)
  /-- RESYNC_REQUEST (R89). A write of RESYNC_REQUEST makes an active junior head resynchronise. -/
  | resyncRequest
  /-- RESYNC_COMPLETE (R90). The snapshot and replay log are complete and the junior head moves to VERIFY. -/
  | resyncComplete (t : Nat)
  /-- DH_RESYNC_DONE (R89). Digests equal for VERIFY_CYCLES make the junior head ACTIVE and clear STANDBY_HEAD. -/
  | dhResyncDone (t : Nat)
  /-- MBX_TIMEOUT (R125). A mailbox transaction without complete response after MBX_TIMEOUT cycles fails and is aborted. -/
  | mbxTimeout (island : Fin 24)
  /-- TASK_SUBMIT (R131). A source submits a task to a Ferry entry in its ordering stream. -/
  | taskSubmit (level : Fin 4) (stream : Option (Fin 264)) (tag release deadline : Nat) (deps : List Nat) (tt : Bool)
  /-- ENTRY_FREED (R148). Freed Ferry entries return to their group and a waiting non-time-triggered source submits. -/
  | entryFreed
  /-- TASK_DISPATCH (R136). The Ferry dispatches up to 4 ready tasks by level, release and stream and places them on skerries. -/
  | taskDispatch (t : Nat) (skerries : List (Fin 64))
  /-- TASK_LOAD_COMPLETE (R129). A task's input packet and program finish loading into a skerry slot. -/
  | taskLoadComplete (id : Nat)
  /-- TASK_COMPLETE (R129). A task finishes executing and its result enters the result buffer when free. -/
  | taskComplete (id cycles : Nat)
  /-- RESULT_ACCEPT (R149). The collector accepts up to 4 results per fabric clock in round-robin order. -/
  | resultAccept
  /-- RESULT_COMMIT (R149). The last word of a result is written and the result is committed. -/
  | resultCommit
  /-- TASK_CANCEL (R146). A task or a stream from a cycle tag is cancelled with its dependents for that cycle. -/
  | taskCancel (id : Option Nat) (stream : Nat) (fromTag : Nat) (same : Bool)
  /-- SKERRY_PARITY_ERROR (R152). A parity error in skerry memory or found by the collector fences the skerry and re-dispatches its tasks. -/
  | skerryParityError (skerry : Fin 64) (collector : Bool)
  /-- TASK_WATCHDOG (R152). A system-class task exceeding TASK_WATCHDOG fences its skerry, or is aborted on its second overrun. -/
  | taskWatchdog (id : Nat)
  /-- CLUSTER_SUPPLY_LOSS (R154). Loss of a cluster's domain or supply fences its skerries, marks it LOST and reassigns home clusters. -/
  | clusterSupplyLoss (cluster : Fin 8)
  /-- SKERRY_FENCE (R155). A host write of FENCE to SKERRY_CONTROL fences a skerry or ends its self-test. -/
  | skerryFence (skerry : Fin 64)
  /-- TEST_AND_RETURN (R155). A host write of TEST_AND_RETURN starts the self-test of a fenced skerry or is refused. -/
  | testAndReturn (skerry : Fin 64)
  /-- SELF_TEST_COMPLETE (R155). A skerry self-test ends and the skerry returns to ACTIVE or stays FENCED. -/
  | selfTestComplete (skerry : Fin 64) (pass : Bool)
  /-- CLUSTER_DRAIN_COMPLETE (R154). The last result of a draining cluster is accepted and its domain switches off. -/
  | clusterDrainComplete (cluster : Fin 8)
  /-- GRAPH_FIRING (R158). A graph node with tokens on all inputs fires as a reconcile-level task. -/
  | graphFiring (axis : Fin 128) (node : Nat) (feedback inputs outputs : List Nat) (isOut : Bool)
  /-- SPECULATE (R195). A speculate task computes the chain of the next cycle from committed state and predicted inputs into pending words. -/
  | speculate (axis : Fin 128)
  /-- RECONCILE (R200). A reconcile task runs the front end, evaluates the squash tests, corrects or recomputes the chain and runs the back end. -/
  | reconcile (axis : Fin 128)
  /-- RA_SQUASH_RUN (R205). Squashes in SQUASH_RUN_LIMIT consecutive cycles raise RA_SQUASH_RUN once per run. -/
  | raSquashRun (axis : Fin 128)
  /-- FULL_COMPUTE (R208). With run-ahead off the whole cycle of an axis is computed at level reconcile after feedback. -/
  | fullCompute (axis : Fin 128)
  /-- FOLLOWING_ERROR (R182). The position error exceeds FE_WINDOW for FE_TIME executions and the fault reaction starts. -/
  | followingError (axis : Fin 128)
  /-- AXIS_ENABLE (R192). ENABLE := 1 in CONTROL_WORD enables a disabled axis or is refused with a cause. -/
  | axisEnable (axis : Fin 128) (w : BitVec 16)
  /-- AXIS_DISABLE (R192). ENABLE := 0 in CONTROL_WORD stops the axis on the stop ramp or requests brake application. -/
  | axisDisable (axis : Fin 128) (w : BitVec 16)
  /-- QUICK_STOP (R192). QUICK_STOP := 1 stops the axis on the quick-stop ramp. -/
  | quickStop (axis : Fin 128) (w : BitVec 16)
  /-- QUICK_STOP_RELEASE (R192). QUICK_STOP := 0 returns a halted axis to OPERATION. -/
  | quickStopRelease (axis : Fin 128) (w : BitVec 16)
  /-- FAULT_RESET (R192). A rising FAULT_RESET clears the fault latch of an axis in FAULT or is refused. -/
  | faultReset (axis : Fin 128) (w : BitVec 16)
  /-- CLOSE_LEVEL_WRITE (R187). A change of CLOSE_LEVEL opens or closes stages under the closure checks. -/
  | closeLevelWrite (axis : Fin 128) (w : BitVec 16)
  /-- COEFFICIENT_WRITE (R187). A write to a stage coefficient takes effect while the stage is open or is refused as LOOP_CLOSED. -/
  | coefficientWrite (axis : Fin 128) (obj : Fin 32) (sub : Fin 256) (v : Int)
  /-- LIMIT_WRITE (R181). A write of I_MAX, V_MAX or VEL_MAX takes effect at the next cycle start or is refused as EXP_TOO_SMALL. -/
  | limitWrite (axis : Fin 128) (sub : Fin 256) (v : Int)
  /-- RA_ENABLE_WRITE (R209). A write to RA_ENABLE takes effect at the next cycle start or is refused while the current stage is closed. -/
  | raEnableWrite (axis : Fin 128) (v : Bool)
  /-- BRAKE_OPEN_TIMEOUT (R192). BRAKE_OPEN_TIME elapses in ENABLING and the stages close or BRAKE_FEEDBACK is latched. -/
  | brakeOpenTimeout (axis : Fin 128) (t : Nat)
  /-- BRAKE_CLOSE_TIMEOUT (R192). BRAKE_CLOSE_TIME elapses in DISABLING and the axis becomes DISABLED. -/
  | brakeCloseTimeout (axis : Fin 128) (t : Nat)
  /-- STANDSTILL (R192). The speed stays below STANDSTILL_SPEED for STANDSTILL_TIME and a stopping axis halts or disables. -/
  | standstill (axis : Fin 128) (t : Nat)
  /-- ALIGNMENT_COMPLETE (R220). ALIGN_TIME ends, COMM_OFFSET is written and the stages close. -/
  | alignmentComplete (axis : Fin 128) (t : Nat)
  /-- OBSERVER_CONVERGED (R225). The observer angle error stays within OBS_CONV_ERR for OBS_CONV_TIME and the observer is CONVERGED. -/
  | observerConverged (axis : Fin 128) (t : Nat)
  /-- STALL (R226). A stall criterion holds for its cycles and STALL is raised as an axis fault. -/
  | stall (axis : Fin 128)
  /-- HOLD_DELAY_EXPIRY (R221). The set-point stays unchanged for HOLD_DELAY and the stepper current drops to I_HOLD. -/
  | holdDelayExpiry (axis : Fin 128) (t : Nat)
  /-- DEG_TIME_EXPIRY (R228). DEG_TIME expires in degraded mode and the axis takes STO with outcome TIME_LIMIT. -/
  | degTimeExpiry (axis : Fin 128) (t : Nat)
  /-- FEEDBACK_LOST (R275). N_LOST consecutive missing cycles raise FEEDBACK_LOST and start the feedback-loss reaction. -/
  | feedbackLost (axis : Fin 128)
  /-- FEEDBACK_FROZEN (R276). The count stays still for N_FREEZE cycles while the observer runs and FEEDBACK_FROZEN is raised. -/
  | feedbackFrozen (axis : Fin 128)
  /-- QUADRATURE_EDGE (R265). A filtered A or B change counts plus or minus one on an on-chip channel. -/
  | quadratureEdge (ch : Fin 8) (t : Nat) (lineB : Bool)
  /-- QUADRATURE_ERROR (R265). A and B change in the same sample; QERR increments and POS_UNCERTAIN is set. -/
  | quadratureError (ch : Fin 8) (t : Nat)
  /-- INDEX_EDGE (R267). A rising Z edge latches the count, corrects it to WRAP and clears POS_UNCERTAIN. -/
  | indexEdge (ch : Fin 8) (t : Nat) (illegal : Bool)
  /-- STEP_EDGE (R268). A rising step edge counts one step in the direction input's sense. -/
  | stepEdge (ch : Fin 8) (t : Nat) (dirHigh : Bool)
  /-- SEG_APPEND (R234). A segment record is appended to the axis queue or rejected with SEG_REJECT. -/
  | segAppend (axis : Fin 128) (record : Bytes)
  /-- SEGMENT_PREFETCH (R239). The prefetch task moves newly appended segments into the axis window and checks them. -/
  | segmentPrefetch
  /-- TABLE_START (R240). A write of TABLE_START starts a table from the queue head in MOVE_MODE after two cycles. -/
  | tableStart (axis : Fin 128)
  /-- TABLE_STOP (R243). A write of TABLE_STOP aborts the table and ramps to 0 at PROFILE_DEC. -/
  | tableStop (axis : Fin 128)
  /-- QUEUE_CLEAR (R243). A write of QUEUE_CLEAR empties the segment queue or is refused as BUSY. -/
  | queueClear (axis : Fin 128)
  /-- MOVE_ABS (R244). MOVE_COMMAND MOVE_ABS starts a position-mode ramp to TARGET_POS. -/
  | moveAbs (axis : Fin 128)
  /-- MOVE_REL (R244). MOVE_COMMAND MOVE_REL starts a position-mode ramp by TARGET_POS. -/
  | moveRel (axis : Fin 128)
  /-- JOG (R247). MOVE_COMMAND JOG starts a velocity ramp to JOG_VEL, or a ramp toward a soft limit. -/
  | jog (axis : Fin 128)
  /-- HALT_PROFILE (R260). MOVE_COMMAND HALT_PROFILE stops the source at PROFILE_DEC. -/
  | haltProfile (axis : Fin 128)
  /-- JOG_VEL_WRITE (R247). A write of JOG_VEL during a jog retargets the jog at the next tick. -/
  | jogVelWrite (axis : Fin 128) (v : Int)
  /-- PROFILE_DEC_WRITE (R245). A write of PROFILE_DEC takes effect at the next tick or is kept with DECEL_KEPT. -/
  | profileDecWrite (axis : Fin 128) (pat : BitVec 32)
  /-- HOMING_START (R253). A write of HOMING_START begins the homing method or is refused. -/
  | homingStart (axis : Fin 128)
  /-- GEAR_ENGAGE (R249). GEAR_ENGAGE 1 starts gearing to the master from the present position. -/
  | gearEngage (axis : Fin 128)
  /-- GEAR_DISENGAGE (R249). GEAR_ENGAGE 2 ends gearing in STOP at PROFILE_DEC. -/
  | gearDisengage (axis : Fin 128)
  /-- STEP_ENGAGE (R255). STEP_ENGAGE 1 starts step/direction following from the present position or is refused. -/
  | stepEngage (axis : Fin 128)
  /-- STEP_DISENGAGE (R255). STEP_ENGAGE 2 ends step/direction following in STOP at PROFILE_DEC. -/
  | stepDisengage (axis : Fin 128)
  /-- PROFILE_TICK (R231). At each position-stage cycle the profile source produces the set-point, velocity and acceleration. -/
  | profileTick (axis : Fin 128)
  /-- SWITCH_DEBOUNCED (R252). A switch's raw value differs for SWITCH_DEBOUNCE and its debounced state changes. -/
  | switchDebounced (axis : Fin 128) (which : Fin 3)
  /-- MASTER_UPDATE (R291). A master's task computes its position, speed and acceleration for the next cycle. -/
  | masterUpdate (master : Fin 8)
  /-- POINT_WRITE (R289). A host write to an output point is accepted into the image for the next snapshot. -/
  | pointWrite (point : Fin 262144) (v : Int)
  /-- WHEEL_ENTRY_WRITE (R292). A wheel entry record is written and armed, flagged late, passed or refused. -/
  | wheelEntryWrite (entry : Fin 4096) (record : Bytes)
  /-- WHEEL_PLAN (R296). The plan task predicts crossing instants of ready ANGLE entries over the horizon. -/
  | wheelPlan
  /-- WHEEL_ACTION (R302). A head action START_TABLE, TRIGGER_ACQ, ADC_START or RAISE_EVENT executes at its instant. -/
  | wheelAction (entry : Fin 4096) (edge : Fin 15626) (t : Nat)
  /-- FP_LOAD (R317). FP_LOAD LOAD checks a filter-program image and loads or rejects it. -/
  | fpLoad (prog : Fin 64)
  /-- FP_UNLOAD (R318). FP_LOAD UNLOAD empties a program not in use. -/
  | fpUnload (prog : Fin 64)
  /-- FP_INVOCATION (R306). A filter program is invoked with its machine set up from state and input. -/
  | fpInvocation (prog : Fin 64) (use : Nat) (x : Int)
  /-- NOP (R309). No operation. -/
  | fpNop
  /-- END (R314). Ends the invocation and delivers Y with the new state. -/
  | fpEnd
  /-- REP (R311). Repeats the following body a fixed number of times. -/
  | fpRep (len : Fin 64) (count : Fin 4096)
  /-- REPR (R311). Repeats the following body a register-given number of times. -/
  | fpRepr (len : Fin 64) (gC : Fin 16)
  /-- LDI (R309). Loads a sign-extended immediate into a register. -/
  | fpLdi (gD : Fin 16) (imm : BitVec 22)
  /-- MOV (R309). Copies one register to another. -/
  | fpMov (gD gS : Fin 16)
  /-- LD (R309). Loads a data memory word into a register. -/
  | fpLd (gD : Fin 16) (addr : Fin 2048)
  /-- ST (R309). Stores a register to a data memory word. -/
  | fpSt (gS : Fin 16) (addr : Fin 2048)
  /-- CBLD (R309). Loads through a circular buffer and steps its index. -/
  | fpCbld (gD : Fin 16) (cb : Fin 4) (step : BitVec 4)
  /-- CBST (R309). Stores through a circular buffer and steps its index. -/
  | fpCbst (gS : Fin 16) (cb : Fin 4) (step : BitVec 4)
  /-- CBPUSH (R309). Advances a circular buffer index and stores a register there. -/
  | fpCbpush (gS : Fin 16) (cb : Fin 4)
  /-- CBIDX (R309). Sets a circular buffer index. -/
  | fpCbidx (cb : Fin 4) (idx : Fin 1024)
  /-- ADD (R308). Saturating 24-bit addition. -/
  | fpAdd (gD gA gB : Fin 16)
  /-- SUB (R308). Saturating 24-bit subtraction. -/
  | fpSub (gD gA gB : Fin 16)
  /-- NEG (R308). Saturating negation. -/
  | fpNeg (gD gS : Fin 16)
  /-- SHL (R308). Saturating left shift. -/
  | fpShl (gD gS : Fin 16) (n : Fin 32)
  /-- SHR (R308). Right shift with half-up rounding. -/
  | fpShr (gD gS : Fin 16) (n : Fin 32)
  /-- ABS (R309). Saturating absolute value. -/
  | fpAbs (gD gS : Fin 16)
  /-- MIN (R309). Minimum of two registers. -/
  | fpMin (gD gA gB : Fin 16)
  /-- MAX (R309). Maximum of two registers. -/
  | fpMax (gD gA gB : Fin 16)
  /-- SEL (R309). Selects one of two registers by the sign of a third. -/
  | fpSel (gD gC gA gB : Fin 16)
  /-- CLR (R309). Clears an accumulator. -/
  | fpClr (acc : Fin 4)
  /-- MAC (R308). Adds an exact product to an accumulator with saturation. -/
  | fpMac (acc : Fin 4) (gA gB : Fin 16)
  /-- MSU (R308). Subtracts an exact product from an accumulator with saturation. -/
  | fpMsu (acc : Fin 4) (gA gB : Fin 16)
  /-- FTAP (R310). Computes one or two filter taps through two circular buffers. -/
  | fpFtap (acc cbD cbC : Fin 4) (two : Bool)
  /-- ACCADD (R309). Adds a shifted register to an accumulator. -/
  | fpAccadd (acc : Fin 4) (gS : Fin 16) (sh : BitVec 6)
  /-- RND (R308). Rounds an accumulator into a register with saturation. -/
  | fpRnd (acc : Fin 4) (gD : Fin 16) (sh : BitVec 6)
  /-- EXP (R309). Reads the stage exponent into a register. -/
  | fpExp (gD : Fin 16)
  /-- RDCNT (R312). Reads a performance counter, or returns 0 and sets RDCNT_DENIED. -/
  | fpRdcnt (gD : Fin 16) (counter : Fin 64) (high : Bool)
  /-- CYCLE_FENCE (R313). The instruction cycle count would exceed 2,000 and the invocation ends as an overrun. -/
  | cycleFence
  /-- OD_WRITE (R326). A write to an entry without its own row passes arrival checks, is sequenced and takes effect at a cycle start. -/
  | odWrite (w : Who) (index : Fin 65536) (sub : Fin 256) (value : Bytes) (t : Nat)
  /-- CONFIG_COMMIT (R331). A write of the key to CONFIG_COMMIT checks the pending configuration and activates or refuses it. -/
  | configCommit
  /-- CONFIG_DISCARD (R330). CONFIG_DISCARD returns every pending configuration value to its active value. -/
  | configDiscard
  /-- STORE (R332). A write of the key to STORE starts writing the stored image or is refused as BUSY or RATE. -/
  | store (t : Nat)
  /-- RESTORE_DEFAULTS (R336). A write of the key to RESTORE_DEFAULTS starts writing a stored image of defaults. -/
  | restoreDefaults (t : Nat)
  /-- STORE_COMPLETE (R333). The image write and read-back finish and the pointer word is written, or the store fails with VERIFY_FAIL. -/
  | storeComplete (verified : Bool) (t : Nat)
  /-- SRAM_SCRUB (R337). The scrubber reads shared SRAM words over each SCRUB_PERIOD. -/
  | sramScrub (singles : List (BitVec 24))
  /-- SRAM_UNCORRECTABLE (R337). A double-bit error is counted, raised and handled by the area it lies in. -/
  | sramUncorrectable (address : BitVec 24) (area : SramArea) (t : Nat)
  /-- EVENT_PLACE (R340). A raised event instance is counted and placed in its group's channel with the next CHANNEL_SEQ. -/
  | eventPlace
  /-- NOTIFY_OVERFLOW (R342). When queue space returns after drops, one NOTIFY_OVERFLOW instance is placed in the channel. -/
  | notifyOverflow (channel : Fin 16)
  /-- UPLINK_LINK_CHANGE (R344). An uplink port's SGMII link comes up or goes down. -/
  | uplinkLinkChange (port : Fin 2) (speed : Fin 3) (alignment : Fin 8)
  /-- SWITCH_FORWARD (R345). The internal switch forwards or floods a frame by learned address. -/
  | switchForward (port : Fin 3) (f : Bytes) (good full0 full1 : Bool) (t : Nat)
  /-- MAC_AGE_OUT (R345). A learned address is aged out after MAC_AGE_TIME. -/
  | macAgeOut (t : Nat)
  /-- ARP_PROBE_RESULT (R346). An address probe completes and the address is bound or IP_CONFLICT is raised. -/
  | arpProbeResult (answered : Bool)
  /-- ARP_REQUEST (R347). The KL4128 answers an ARP request for its address. -/
  | arpRequest (sender target : BitVec 32) (t : Nat)
  /-- ICMP_ECHO (R347). The KL4128 answers an ICMP echo request. -/
  | icmpEcho (peer dst : BitVec 32) (data : Bytes)
  /-- TC_CORRECTION (R351). A Sync or Delay_Req passing between uplink ports has its residence added to correctionField. -/
  | tcCorrection (port : Fin 2) (domain : Fin 256) (udp : Bool) (tIn tOut : Rat) (correction : Int) (bytes : Nat)
  /-- PTP_ANNOUNCE (R352). An Announce message is received and the best master is selected. -/
  | ptpAnnounce (port : Fin 2) (domain : Fin 256) (rank : List Nat) (identity : BitVec 64) (utc : Int) (interval : Nat) (t : Nat)
  /-- PTP_SYNC (R352). A Sync with offset computed moves the slave toward or out of SLAVE. -/
  | ptpSync (port : Fin 2) (domain : Fin 256) (identity : BitVec 64) (t1 t2 : Rat) (t : Nat)
  /-- PTP_DELAY_REQ_SEND (R352). The slave sends Delay_Req at its interval through the master's port. -/
  | ptpDelayReqSend (t3 : Rat) (t : Nat)
  /-- PTP_DELAY_RESP (R352). A Delay_Resp is received and the mean path delay updated. -/
  | ptpDelayResp (port : Fin 2) (identity : BitVec 64) (t4 : Rat)
  /-- ANNOUNCE_RECEIPT_TIMEOUT (R352). No Announce within the timeout returns the slave to LISTENING. -/
  | announceReceiptTimeout (t : Nat)
  /-- CLIENT_HELLO (R354). A DTLS ClientHello starts a handshake or is refused. -/
  | clientHello (peer : BitVec 32) (t : Nat)
  /-- HANDSHAKE_COMPLETE (R354). A handshake completes and the session gets a number and role. -/
  | handshakeComplete (session : Fin 8) (chain : Option (Fin 4)) (selfSigned : Bool) (notBefore notAfter : Nat) (ou : Bytes) (t : Nat)
  /-- HANDSHAKE_TIMEOUT (R354). A handshake fails or 10 s elapse and the session closes. -/
  | handshakeTimeout (session : Fin 8) (failed : Bool) (t : Nat)
  /-- SESSION_IDLE_TIMEOUT (R354). No message for SESSION_IDLE closes the session. -/
  | sessionIdleTimeout (session : Fin 8) (t : Nat)
  /-- SESSION_CLOSE (R354). close_notify or a SESSION_CLOSE write closes the session and ends its subscriptions. -/
  | sessionClose (session : Fin 8) (write : Bool)
  /-- TOA_PART_RECEIVED (R357). A TOA part is received and reassembled; a complete request is handled. -/
  | toaPartReceived (session : Fin 8) (good : Bool) (b : Bytes) (t : Nat)
  /-- TOA_REASSEMBLY_TIMEOUT (R357). A message incomplete 1 s after its first part is discarded. -/
  | toaReassemblyTimeout (session : Fin 10) (t : Nat)
  /-- HELLO (R361). HELLO returns session and identity data and makes the session ACTIVE. -/
  | hello (session : Fin 10) (t : Nat)
  /-- READ (R361). READ returns one entry's value. -/
  | read (session : Fin 10) (t : Nat)
  /-- WRITE (R361). WRITE writes one entry and answers once it has taken effect. -/
  | write (session : Fin 10) (t : Nat)
  /-- READ_MULTI (R362). READ_MULTI returns several entries from one cycle start. -/
  | readMulti (session : Fin 10) (t : Nat)
  /-- WRITE_GROUP (R328). WRITE_GROUP sequences up to 64 writes as one all-or-nothing unit. -/
  | writeGroup (session : Fin 10) (t : Nat)
  /-- READ_POINTS (R362). READ_POINTS returns a range of points from one snapshot. -/
  | readPoints (session : Fin 10) (t : Nat)
  /-- SUBSCRIBE (R364). SUBSCRIBE replaces the session's channel subscription. -/
  | subscribe (session : Fin 10) (t : Nat)
  /-- ISLAND (R363). ISLAND carries one island mailbox transaction. -/
  | island (session : Fin 10) (t : Nat)
  /-- PING (R361). PING is answered empty. -/
  | ping (session : Fin 10) (t : Nat)
  /-- ABORT (R359). ABORT ends a request not yet sequenced or waiting on a mailbox. -/
  | abort (session : Fin 10) (tag : Fin 256) (gen : Fin 4)
  /-- NOTIFICATION_SEND (R364). After 50 instances or NOTIFY_HOLDOFF a NOTIFICATION is sent to a subscribed session. -/
  | notificationSend (session : Fin 8) (t : Nat)
  /-- CAN_MODE_WRITE (R369). A write of CAN_MODE checks timing and starts, stops or refuses the controller. -/
  | canModeWrite (c : Fin 2) (v : Fin 3)
  /-- CAN_INTEGRATED (R379). Eleven consecutive recessive bits make an integrating controller ERROR_ACTIVE. -/
  | canIntegrated (c : Fin 2)
  /-- CAN_FRAME_RECEIVED (R372). A received frame is routed to TOA, the FIFO, the HP buffer or discarded. -/
  | canFrameReceived (c : Fin 2) (id : BitVec 32) (dlc : Fin 16) (rtr esi : Bool) (data : Bytes) (time wire : Nat) (t : Nat)
  /-- TX_FRAME (R375). A TX_FRAME write loads buffer 2 or is refused. -/
  | txFrame (c : Fin 2) (b : Bytes)
  /-- TX_CANCEL (R377). TX_CANCEL cancels buffer 2 or is remembered until its frame ends. -/
  | txCancel (c : Fin 2)
  /-- CAN_TX_SELECT (R376). At a new SOF a pending buffer is selected and arbitration starts. -/
  | canTxSelect (c : Fin 2)
  /-- CAN_ARBITRATION_LOST (R377). An active buffer loses arbitration and returns to PENDING, CANCELLED or FAILED. -/
  | canArbitrationLost (c : Fin 2)
  /-- CAN_TX_COMPLETE (R377). A frame completes without error to EOF and its buffer is TRANSMITTED. -/
  | canTxComplete (c : Fin 2) (wire : Nat) (delay : Fin 127)
  /-- CAN_ERROR (R379). An error is detected, counters change and the controller state may change. -/
  | canError (c : Fin 2) (error : Fin 7) (tecUp recUp : Fin 256)
  /-- RECOVER (R379). A write of RECOVER starts bus-off recovery. -/
  | recover (c : Fin 2)
  /-- CAN_RECOVERY_COMPLETE (R379). 128 sequences of 11 recessive bits end recovery. -/
  | canRecoveryComplete (c : Fin 2)
  /-- RX_FIFO_READ (R373). A read of RX_FIFO_READ returns and removes the oldest FIFO entry. -/
  | rxFifoRead (c : Fin 2)
  /-- HP_READ (R374). A read of HP_READ returns the buffered frame and clears HP_FULL. -/
  | hpRead (c : Fin 2)
  /-- CAN_TOA_PART_TIMEOUT (R381). A TOA part incomplete 100 ms after its first frame is discarded. -/
  | canToaPartTimeout (c : Fin 2) (t : Nat)
  /-- ADC_SCAN_START (R391). A start instant of the modulator's START_SOURCE starts a scan or counts an overrun. -/
  | adcScanStart (modulator : Fin 2) (edge : Fin 15626) (t : Nat)
  /-- INJ_REQUEST (R393). An injected request converts INJ_CHANNEL once or is dropped. -/
  | injRequest (modulator : Fin 2) (edge : Fin 15626) (t : Nat)
  /-- ADC_OUTPUT (R398). The filter delivers an output into the FIFO and latest result with its flags. -/
  | adcOutput (modulator : Fin 2) (vdiff vref : Rat) (overload : Bool) (t : Nat)
  /-- ADC_STEP_COMPLETE (R390). A channel's scan step ends and the scan moves to the next channel or completes. -/
  | adcStepComplete (modulator : Fin 2)
  /-- RESULT_READ (R398). A read of RESULT_READ returns and removes the oldest ADC result. -/
  | resultRead (modulator : Fin 2)
  /-- ACQ_START (R407). ACQ_CONTROL START begins an acquisition or is refused. -/
  | acqStart
  /-- ACQ_STOP (R408). ACQ_CONTROL STOP aborts the acquisition. -/
  | acqStop
  /-- FORCE_TRIGGER (R409). ACQ_CONTROL FORCE_TRIGGER triggers the acquisition at the cycle start it takes effect. -/
  | forceTrigger
  /-- ACQ_PROCESS (R406). The processing task runs filter programs and evaluates triggers over new rows. -/
  | acqProcess
  /-- AUTO_TIMEOUT_EXPIRY (R408). AUTO_TIMEOUT expires while ARMED and the acquisition triggers automatically. -/
  | autoTimeoutExpiry (t : Nat)
  /-- PRETRIGGER_FILLED (R408). PRETRIGGER rows are stored and the acquisition becomes ARMED. -/
  | pretriggerFilled
  /-- ACQ_DONE (R408). LENGTH rows are kept and the acquisition is DONE. -/
  | acqDone
  /-- ACQ_OVERRUN (R408). An unprocessed row would be overwritten and the acquisition aborts. -/
  | acqOverrun
  /-- TRIG_IO_EDGE (R412). A rising edge on an IN cascade line is captured and triggers an armed acquisition. -/
  | trigIoEdge (pin : Fin 4) (t : Nat)
  /-- CASCADE_PULSE (R412). A 100 ns pulse is launched on OUT cascade lines at t_trig plus CASCADE_LATENCY. -/
  | cascadePulse (pin : Fin 4) (t : Nat)
  /-- TRACE_ROW (R413). An axis trace stores one row in a selected cycle. -/
  | traceRow (axis : Fin 128)
  /-- TRACE_FREEZE_CAUSE (R414). A fault, STO or squash run moves a running trace to STOPPING. -/
  | traceFreezeCause (axis : Fin 128) (cause : Fin 4)
  /-- TRACE_FROZEN (R414). POST_FAULT_ROWS further rows are stored and the trace is FROZEN. -/
  | traceFrozen (axis : Fin 128)
  /-- FREEZE (R414). TRACE_CONTROL FREEZE stops a running trace. -/
  | freeze (axis : Fin 128)
  /-- RELEASE (R414). TRACE_CONTROL RELEASE empties the buffer and returns it to RUNNING. -/
  | release (axis : Fin 128)
  /-- FREEZE_ALL (R414). FREEZE_ALL freezes every running trace. -/
  | freezeAll
  /-- RELEASE_ALL (R414). RELEASE_ALL releases every trace. -/
  | releaseAll
  /-- COUNTER_RUN (R415). COUNTER_CONTROL RUN starts all counters at a cycle start. -/
  | counterRun
  /-- COUNTER_STOP (R415). COUNTER_CONTROL STOP stops all counters. -/
  | counterStop
  /-- COUNTER_CLEAR (R415). COUNTER_CONTROL CLEAR zeroes counters, flags and peak utilisation. -/
  | counterClear
  /-- COUNTER_OVERFLOW (R415). An unchained counter wraps, sets its flag and raises COUNTER_OVERFLOW. -/
  | counterOverflow (counter : Fin 64)
  /-- WINDOW_END (R417). A bandwidth window ends and its bytes and utilisation are published. -/
  | windowEnd (t : Nat)
  /-- COUNTER_RESET (R62). A write of 1 to a COUNTER_RESET object zeroes the counters it names. -/
  | counterReset (index : Fin 65536)
  /-- LIGHTHOUSE_CYCLE (R424). Every 250 µs the Lighthouse evaluates inputs and containers and updates demands and outputs. -/
  | lighthouseCycle (t : Nat)
  /-- LH_POWERED (R425). LH powers up, demands STO everywhere and runs its self-test. -/
  | lhPowered (t : Nat)
  /-- LH_SELF_TEST_COMPLETE (R425). The self-test ends and the Lighthouse enters RUN or SAFE_FAULT. -/
  | lhSelfTestComplete (pass : Bool) (t : Nat)
  /-- LH_FAULT (R422). A comparator mismatch or clock deviation de-energises outputs and forces STO_ALL. -/
  | lhFault (cause : Fin 4) (t : Nat)
  /-- SI_CHANNEL_CHANGE (R426). A safe input channel's raw level holds for SI_FILTER and its filtered level changes. -/
  | siChannelChange (input : Fin 16) (chB level : Bool) (t : Nat)
  /-- SI_TEST_PULSE (R427). A test-pulse window ends and a channel that stayed high is counted toward a channel fault. -/
  | siTestPulse (input : Fin 16) (chB stayedHigh : Bool) (t : Nat)
  /-- SI_DISCREPANCY (R428). Channels disagree for SI_DISCREPANCY and the input enters FAULT. -/
  | siDiscrepancy (input : Fin 16) (t : Nat)
  /-- SAFETY_RESET_PRESS (R429). A RESET input released after a 0.1 to 5 s press acts as a reset. -/
  | safetyResetPress (input : Fin 16)
  /-- SO_TEST_PULSE (R431). An output switch is pulsed off and read back, detecting a failed or stuck switch. -/
  | soTestPulse (output : Fin 8) (low : Bool) (result : Fin 4) (t : Nat)
  /-- SLS_RAMP_EXPIRY (R433). SLS_RAMP_TIME ends and safe speed monitoring against SLS_LIMIT begins. -/
  | slsRampExpiry (axis : Fin 128) (t : Nat)
  /-- SS1_TIMEOUT (R433). SS1_TIME elapses in SS1-t and the axis enters STO. -/
  | ss1Timeout (axis : Fin 128) (t : Nat)
  /-- SC_LOSS_TIMEOUT (R437). No container accepted for SC_LOSS_TIME demands STO with CONTAINER_LOSS. -/
  | scLossTimeout (island : Fin 24) (t : Nat)
  /-- XCHK_MISMATCH (R438). Safe speed and head estimate differ beyond XCHK_TOL for XCHK_CYCLES and STO is demanded. -/
  | xchkMismatch (axis : Fin 128)
  /-- XCHK_MISSING (R438). More than XCHK_MISS_MAX cycles without an estimate put the axis in degraded mode. -/
  | xchkMissing (axis : Fin 128)
  /-- SBC_DELAY_EXPIRY (R436). SBC_DELAY after STO the brake release is withdrawn. -/
  | sbcDelayExpiry (axis : Fin 128) (t : Nat)
  /-- STO_READBACK_FAIL (R439). The island read-back bit stays clear 10 ms after STO and STO_READBACK_FAIL is raised. -/
  | stoReadbackFail (axis : Fin 128) (t : Nat)
  /-- SAFETY_RESET (R435). A write of SAFETY_RESET withdraws STO from locked axes without demand. -/
  | safetyReset
  /-- SAFETY_SIG_ACK (R447). A write of the pending signature activates the pending safety set or is refused. -/
  | safetySigAck (w : Who) (v : BitVec 32) (t : Nat)
  /-- SAFETY_DISCARD (R447). SAFETY_DISCARD returns the pending safety set to the active set. -/
  | safetyDiscard (w : Who)
  /-- PASSWORD_NEW (R448). A write of PASSWORD_NEW sets or changes the Safety Officer password. -/
  | passwordNew (w : Who) (new : Bytes) (t : Nat)
  /-- PASSWORD_LOCKOUT_END (R448). 300 s after a lockout PASSWORD_STATE leaves LOCKED_OUT. -/
  | passwordLockoutEnd (t : Nat)
  /-- SAFETY_CLEAR (R449). SAFETY_CLEAR resets safety parameters and password to defaults. -/
  | safetyClear (w : Who) (key : BitVec 32) (t : Nat)
  /-- SAFETY_ACK (R443). SAFETY_ACK clears degraded scopes when every cause is gone. -/
  | safetyAck
  /-- DEGRADED_TIME_EXPIRY (R443). DEGRADED_TIME expires and SS1 or STO is demanded on every degraded scope. -/
  | degradedTimeExpiry (t : Nat)
  /-- SAFETY_SIG_COMPARE (R445). The heads compare active safety signatures over the strait link. -/
  | safetySigCompare (peer : BitVec 32)
  /-- RECORD_WRITE (R458). The recorder writes the next FIFO entry as a committed record, at most one per 500 µs. -/
  | recordWrite (t : Nat)
  /-- RECORDER_OVERFLOW (R459). When the FIFO is below full after losses an OVERFLOW record is written. -/
  | recorderOverflow
  /-- RIDE_THROUGH (R460). Two cycles without interrupted cycles after a fault queue a RIDE_THROUGH record. -/
  | rideThrough
  /-- TIME_SET (R455). A wall-time step of more than 1 µs writes a TIME_SET record. -/
  | timeSet
  /-- RECORD_READ (R461). A read of RECORD_READ returns valid records from READ_SEQ and advances it. -/
  | recordRead (session : Fin 10)
  /-- CLEAR (R462). A write of the key to CLEAR queues a CLEARED record and hides earlier records. -/
  | clear (w : Who) (t : Nat)
  /-- FEED_UNHEALTHY (R467). A rail feed becomes unhealthy by undervoltage, overvoltage or ripple. -/
  | feedUnhealthy (feed : Fin 2) (rail : Fin 6) (cause : Fin 3) (mv : Fin 65536) (t : Nat)
  /-- FEED_HEALTHY (R467). A feed becomes healthy again and the revert hold time starts. -/
  | feedHealthy (feed : Fin 2) (rail : Fin 6) (mv : Fin 65536) (t : Nat)
  /-- FEED_REVERT (R470). The preferred feed stays healthy for REVERT_HOLD and the domain returns to it. -/
  | feedRevert (t : Nat)
  /-- FEED_FORCE_CHANGE (R471). A filtered change of FEED_FORCE_A or FEED_FORCE_B moves domains to the forced feed. -/
  | feedForceChange (a b : Bool) (t : Nat)
  /-- POWER_CMD_STANDBY (R474). POWER_CMD STANDBY powers the device down to STANDBY or is refused. -/
  | powerCmdStandby
  /-- POWER_CMD_CONFIG (R474). POWER_CMD CONFIG powers up or down to CONFIG or is refused. -/
  | powerCmdConfig
  /-- POWER_CMD_RUN (R474). POWER_CMD RUN powers up the selected clusters and ACQ or is refused. -/
  | powerCmdRun
  /-- CLUSTER_SELECT_WRITE (R474). A CLUSTER_SELECT write in RUN powers clusters up or drains them off, or is refused. -/
  | clusterSelectWrite (v : Fin 256)
  /-- ACQ_SELECT_WRITE (R474). An ACQ_SELECT write in RUN powers ACQ up or switches it off. -/
  | acqSelectWrite (v : Bool)
  /-- DOMAIN_STATE_CHANGE (R474). A domain finishes powering up or down and the transition may complete. -/
  | domainStateChange (t : Nat)
  /-- TRIP_CLEAR (R474). TRIP_CLEAR clears TRIP_LATCHED when Tj is at or below 120 °C. -/
  | tripClear
  /-- THERMAL_TRIP (R476). Tj reaches 140 °C and every domain outside STANDBY is switched off at once. -/
  | thermalTrip (tj : BitVec 16) (t : Nat)
  /-- THERMAL_WARNING (R476). TJ_NOW reaches THERMAL_WARN and THERMAL_WARNING is raised. -/
  | thermalWarning (tj : BitVec 16) (t : Nat)
  /-- REFCLK_LOSS (R480). The clock monitor detects REFCLK loss and holds a reset until it returns for 1 ms. -/
  | refclkLoss (t : Nat)
  /-- PLL_UNLOCK (R481). A PLL loses lock for more than 2 µs, with a reset or unit stop by PLL. -/
  | pllUnlock (pll : Fin 6) (t : Nat)
  /-- POWER_ON_RESET (R483). AON powers up after both VDD_IO feeds were absent and the device resets. -/
  | powerOnReset
  /-- NRESET_PIN (R483). nRESET held low for at least 1 µs resets the device. -/
  | nresetPin (t : Nat)
  /-- BROWNOUT (R483). A rail below its operating range resets the device. -/
  | brownout (t : Nat)
  /-- SUPERVISOR_WATCHDOG (R483). The Supervisor watchdog not served for 250 ms resets the device. -/
  | supervisorWatchdog (t : Nat)
  /-- RESET_CMD (R485). A write of the key to RESET_CMD resets the device or is refused. -/
  | resetCmd (t : Nat)
  /-- RESET_RELEASE (R489). Reset is released and the ROM reads SFDP and both image headers. -/
  | resetRelease (header0 header1 : Bytes) (ddr : Bool) (t : Nat)
  /-- IMAGE_HASH_CHECK (R489). The loaded payload's hash is checked and the image runs, the other slot loads, or boot fails. -/
  | imageHashCheck (payload : Bytes)
  /-- BOOT_COMPLETE (R335). The image runs, restores stored settings and schedule and enters STANDBY. -/
  | bootComplete (aOk bOk : Bool) (t : Nat)
  /-- WALL_TIME_SET (R486). A host write of WALL_TIME_SET sets wall time or is refused while PTP is locked. -/
  | wallTimeSet (v : BitVec 64) (t : Nat)
  /-- ROLLBACK_ADVANCE (R490). A write of ROLLBACK_ADVANCE blows anti-rollback fuses up to n. -/
  | rollbackAdvance (w : Who) (n : Fin 256)
  /-- KEY_REVOKE (R490). A write of KEY_REVOKE permanently revokes ROM keys. -/
  | keyRevoke (w : Who) (keys : Fin 256)
  /-- BOOT_PREFER_WRITE (R491). A write of BOOT_PREFER is stored at once in MRAM for the next boot. -/
  | bootPreferWrite (v : Fin 2)
  /-- FW_UPDATE_BEGIN (R491). FW_UPDATE_CONTROL BEGIN erases the inactive slot. -/
  | fwUpdateBegin
  /-- FW_ERASE_COMPLETE (R491). The slot erase completes and the update is RECEIVING. -/
  | fwEraseComplete
  /-- FW_UPDATE_DATA (R491). FW_UPDATE_DATA programs the next bytes of the image or is refused. -/
  | fwUpdateData (b : Bytes)
  /-- FW_UPDATE_COMMIT (R491). FW_UPDATE_CONTROL COMMIT starts verification of the written slot. -/
  | fwUpdateCommit
  /-- FW_VERIFY_COMPLETE (R491). Verification ends with the slot READY and preferred, or FAILED. -/
  | fwVerifyComplete (header payload : Bytes)
  /-- FW_UPDATE_ABORT (R491). FW_UPDATE_CONTROL ABORT stops the update and leaves the slot invalid. -/
  | fwUpdateAbort
  /-- TRUST_ANCHOR_WRITE (R494). A TRUST_ANCHOR write installs an anchor, ends commissioning and raises CERT_CHANGE. -/
  | trustAnchorWrite (w : Who) (anchor : Fin 4) (der : Bytes)
  /-- DEBUG_LOCK (R495). A write of the key to DEBUG_LOCK blows the fuse and locks debug access permanently. -/
  | debugLock (w : Who)
  /-- TAP_INSTRUCTION (R496). A boundary-scan instruction is loaded; EXTEST, CLAMP or HIGHZ holds a reset until replaced. -/
  | tapInstruction (instruction : Fin 7) (t : Nat)
  /-- AGEING_MEASUREMENT (R499). An hourly ring-oscillator, daily eye-scan or hourly drift measurement completes. -/
  | ageingMeasurement (result : AgeingResult) (t : Nat)
  /-- PLAN_INTERVAL_EXPIRY (R500). PLAN_INTERVAL elapses and a margin plan is computed and proposed if changed. -/
  | planIntervalExpiry (busy : Rat) (t : Nat)
  /-- PLAN_COMPUTE (R500). A write of PLAN_COMPUTE computes a margin plan at once. -/
  | planCompute (busy : Rat)
  /-- PLAN_ACCEPT (R503). PLAN_ACCEPT with the proposed number applies the plan or is refused. -/
  | planAccept (n : BitVec 32)
  /-- PLAN_REJECT (R503). PLAN_REJECT discards the proposal. -/
  | planReject
  /-- VID_STEP (R504). The VDD_CORE trim code steps by one at least 1 ms after the previous step. -/
  | vidStep (t : Nat)
  /-- MRAM_SPARE_USED (R504). A worn row is copied, verified and remapped to a spare row. -/
  | mramSpareUsed
  /-- POINTS_SEND (R36). At the downstream action point of a static slot of role POINTS, Network/Egress sends each masked island its POINTS frame, or none when no point is due. -/
  | pointsSend (island : Fin 24) (slot : Fin 64) (late : Nat)
  /-- PLL_RELOCK (R481). A PLL that had lost lock relocks by itself, and the encoder, CAN and ADC units stopped by an IO unlock resume. -/
  | pllRelock (pll : Fin 6) (t : Nat)
  /-- STRAIT_STARTUP (R66). A STARTUP frame of another network reaching a head in COLDSTART over the strait link is a collision, resolved by coldstart rank. -/
  | straitStartup (rank : Fin 2) (count : Fin 128)
  /-- ENTRY_DONE (R299). At the instant of a sent timed point action, its wheel entry becomes DONE, or ARMED again when periodic. -/
  | entryDone (entry : Fin 4096) (t : Nat)
  deriving DecidableEq, Repr

end Sys2Proof
end

