-- ==== Sys2Proof/Decode.lean ====
section
/-! DEFINITION. Commands by the bits of the opcode table. -/

namespace Sys2Proof

/-- The command a word spells. No row of the table carries bits: every command comes with its operands from outside
(log 72). -/
def decodeTableWord (_nbits _w : Nat) : Option Instr := none

end Sys2Proof
end

