-- ==== Sys2Proof/Config.lean ====
section
/-! DEFINITION. What an implementation fixes and the spec leaves open, and the free values: constants without a
body, so that nothing can be proved of their values. Each is named in a row of notes/assumptions. -/

namespace Sys2Proof

/-- A free value: the `n`-th one the machine draws (log 3). -/
opaque Config.freeValue : Nat → Nat

/-- What a status counter of the dictionary reads after the count past the largest value of its type, where the
object's table says neither that it wraps nor that it saturates (log 4). -/
opaque Config.counterPastEnd : Nat → Int

/-- SILICON_REV (R338: per die). -/
opaque Config.siliconRev : Nat
/-- SERIAL_NUMBER (R338: per device). -/
opaque Config.serialNumber : Nat
/-- UPLINK_MAC (R365: per device). -/
opaque Config.uplinkMac : Nat
/-- DEVICE_CERT (R498: per device). -/
opaque Config.deviceCert : Bytes
/-- GRAPH_IMAGE_VERSION (R162: per firmware image). -/
opaque Config.graphImageVersion : Nat

/-- The state digest of an axis (R87), CRC-32C over words whose layout is not stated, from the words (log 47). -/
opaque Config.stateDigest : List Int → Nat

/-- Length in bytes of a settings image, whose layout is not stated, from its entries (R334, log 50). -/
opaque Config.imageSize : List (Nat × Int) → List (Nat × Bytes) → Nat
/-- The 169.254/16 address that RFC 3927 picks from a MAC address for an attempt, as an offset into its range (R346). -/
opaque Config.linkLocal : Nat → Nat → Nat
/-- A P-256 signature of a header verifies with the ROM key of this number (R487, R488): key, message, signature. -/
opaque Config.signatureOk : Nat → Bytes → Bytes → Bool
/-- SHA-256 (R487). -/
opaque Config.sha256 : Bytes → Bytes

/-- The busy fraction of the skerries over the last hour at the `n`-th draw, where a command does not carry it (R501). -/
opaque Config.busyFraction : Nat → Rat
/-- What a response longer than a message body may be (R356) carries in its place, from the body it would have. -/
opaque Config.longResponse : Bytes → Bytes

/-! The transcendental functions and irrational constants of the motor models. Their exact values as the hardware forms
them are not stated (log 19). Angles are in turns. -/

/-- Sine of an angle in turns. -/
opaque Config.sinTurn : Rat → Rat
/-- Cosine of an angle in turns. -/
opaque Config.cosTurn : Rat → Rat
/-- Tangent of an angle in half turns: tan(π x) (R180). -/
opaque Config.tanHalf : Rat → Rat
/-- Arc sine, in turns (R224). -/
opaque Config.asinTurn : Rat → Rat
/-- The square root of 3 (R171, R215, R218). -/
opaque Config.sqrt3 : Rat
/-- The observer's error of R224 with PSI = 0, a division by 0, from its dividend (log 19). -/
opaque Config.obsErrPsiZero : Rat → Rat
/-- Two π (R214 to R224). -/
opaque Config.twoPi : Rat

end Sys2Proof
end

