-- ==== Sys2Proof/Machine/Bits.lean ====
section
/-! DEFINITION. Bit fields (R5), two's complement, saturation, and little-endian octet strings. -/

namespace Sys2Proof.Machine

/-- Bit `i` of `n`. -/
def bit (n i : Nat) : Bool := n.testBit i

/-- Field of `w` bits from bit `lo` (R5: [lo + w - 1 : lo]). -/
def field (n lo w : Nat) : Nat := n / 2 ^ lo % 2 ^ w

/-- `n` with the field of `w` bits from bit `lo` replaced by `v`. -/
def setField (n lo w v : Nat) : Nat :=
  n - field n lo w * 2 ^ lo + v % 2 ^ w * 2 ^ lo

/-- `n` with bit `i` set to `b`. -/
def setBit (n i : Nat) (b : Bool) : Nat := setField n i 1 (if b then 1 else 0)

/-- The number `w` low bits of `n` stand for in two's complement. -/
def toSigned (w n : Nat) : Int :=
  let m := n % 2 ^ w
  if m < 2 ^ (w - 1) then (m : Int) else (m : Int) - 2 ^ w

/-- The `w`-bit pattern of an integer, wrapping. -/
def toUnsigned (w : Nat) (i : Int) : Nat := (i % (2 ^ w : Int)).toNat

/-- Wrap an integer to `w` bits, two's complement. -/
def wrapS (w : Nat) (i : Int) : Int := toSigned w (toUnsigned w i)

/-- Wrap to an unsigned `w`-bit number. -/
def wrapU (w : Nat) (i : Int) : Int := i % (2 ^ w : Int)

/-- Saturate to the interval. -/
def clampI (lo hi x : Int) : Int := if x < lo then lo else if hi < x then hi else x

/-- Saturate to `w`-bit two's complement. -/
def satS (w : Nat) (x : Int) : Int := clampI (-(2 ^ (w - 1))) (2 ^ (w - 1) - 1) x

/-- Saturate to `w`-bit unsigned. -/
def satU (w : Nat) (x : Int) : Int := clampI 0 (2 ^ w - 1) x

/-- Number of bits set in the low `w` bits. -/
def popcount : Nat → Nat → Nat
  | 0, _ => 0
  | w + 1, n => (if n.testBit w then 1 else 0) + popcount w n

/-- The numbers below `w` whose bit is set, ascending. -/
def bitsSet (w n : Nat) : List Nat := (List.range w).filter (fun i => n.testBit i)

/-- The natural number of a little-endian octet string. -/
def leNat : Bytes → Nat
  | [] => 0
  | b :: r => b.toNat + 256 * leNat r

/-- `k` octets of `n`, little-endian. -/
def leBytes : Nat → Nat → Bytes
  | 0, _ => []
  | k + 1, n => BitVec.ofNat 8 n :: leBytes k (n / 256)

/-- `k` octets of an integer, little-endian two's complement. -/
def leInt (k : Nat) (i : Int) : Bytes := leBytes k (toUnsigned (8 * k) i)

/-- `len` octets from offset `off`. -/
def slice (b : Bytes) (off len : Nat) : Bytes := (b.drop off).take len

/-- The unsigned little-endian number of `len` octets at offset `off`; absent octets read as 0. -/
def uAt (b : Bytes) (off len : Nat) : Nat := leNat (slice b off len)

/-- The signed little-endian number of `len` octets at offset `off`. -/
def sAt (b : Bytes) (off len : Nat) : Int := toSigned (8 * len) (uAt b off len)

/-- `n` octets 0. -/
def zeros (n : Nat) : Bytes := List.replicate n 0

/-- The octets cut or filled with 0 to length `n`. -/
def padTo (n : Nat) (b : Bytes) : Bytes := (b.take n) ++ zeros (n - b.length)

/-- Number of a Boolean. -/
def b2n (b : Bool) : Nat := if b then 1 else 0

/-- Integer of a Boolean. -/
def b2i (b : Bool) : Int := if b then 1 else 0

end Sys2Proof.Machine
end

