-- ==== Sys2Proof/Machine/Crc.lean ====
section
/-! DEFINITION. CRC-32C (R109). -/

namespace Sys2Proof.Machine

/-- One bit step of the reflected CRC-32C register. -/
def crcBit (c : Nat) : Nat := if c.testBit 0 then Nat.xor (c / 2) 0x82F6_3B78 else c / 2

/-- One octet. -/
def crcByte (c : Nat) (b : Byte) : Nat :=
  crcBit (crcBit (crcBit (crcBit (crcBit (crcBit (crcBit (crcBit (Nat.xor c b.toNat))))))))

/-- The register after an octet string. -/
def crcRun : Nat → Bytes → Nat
  | c, [] => c
  | c, b :: r => crcRun (crcByte c b) r

/-- CRC-32C of an octet string (R109). -/
def crc32c (b : Bytes) : Nat := Nat.xor (crcRun 0xFFFF_FFFF b) 0xFFFF_FFFF

end Sys2Proof.Machine
end

