-- ==== Sys2Proof/Machine/Events.lean ====
section
/-! DEFINITION. The event sources by name (R339, R463). -/

namespace Sys2Proof.Machine

abbrev Ev.FEED_SWITCH : Nat := 0
abbrev Ev.FEED_REVERT : Nat := 1
abbrev Ev.FEED_FORCED : Nat := 2
abbrev Ev.DOMAIN_STATE : Nat := 3
abbrev Ev.POWER_STATE : Nat := 4
abbrev Ev.THERMAL_TRIP : Nat := 5
abbrev Ev.THERMAL_WARNING : Nat := 6
abbrev Ev.CLOCK_FAULT : Nat := 16
abbrev Ev.PLL_UNLOCK : Nat := 17
abbrev Ev.MARGIN_PLAN_PROPOSED : Nat := 18
abbrev Ev.MARGIN_PLAN_ACCEPTED : Nat := 19
abbrev Ev.MRAM_SPARE_USED : Nat := 20
abbrev Ev.AGEING_ALARM : Nat := 21
abbrev Ev.SESSION_REFUSED : Nat := 32
abbrev Ev.SESSION_OPEN : Nat := 33
abbrev Ev.SESSION_CLOSED : Nat := 34
abbrev Ev.ACCESS_DENIED : Nat := 35
abbrev Ev.FIRMWARE_UPDATE : Nat := 36
abbrev Ev.ROLLBACK_REJECTED : Nat := 37
abbrev Ev.DEBUG_LOCK : Nat := 38
abbrev Ev.CERT_CHANGE : Nat := 39
abbrev Ev.CFG_LIMIT : Nat := 48
abbrev Ev.CFG_COMMIT : Nat := 49
abbrev Ev.SCHED_COMMIT : Nat := 50
abbrev Ev.STORE_DONE : Nat := 51
abbrev Ev.STORE_FAILED : Nat := 52
abbrev Ev.STORE_FALLBACK : Nat := 53
abbrev Ev.STORE_IMAGE_INVALID : Nat := 54
abbrev Ev.SRAM_UNCORRECTABLE : Nat := 55
abbrev Ev.PORT_LINK_LOST : Nat := 64
abbrev Ev.PORT_DELAY_PLAN : Nat := 65
abbrev Ev.PORT_SYNC_EXCLUDED : Nat := 66
abbrev Ev.PORT_READMITTED : Nat := 67
abbrev Ev.PORT_ISOLATED : Nat := 68
abbrev Ev.HEAD_OVERRUN : Nat := 69
abbrev Ev.ISLAND_MISMATCH : Nat := 70
abbrev Ev.COLDSTART_COLLISION : Nat := 80
abbrev Ev.RANK_CONFLICT : Nat := 81
abbrev Ev.DH_NO_STRAIT : Nat := 82
abbrev Ev.DH_CONFIG_MISMATCH : Nat := 83
abbrev Ev.SYNC_K_REDUCED : Nat := 84
abbrev Ev.PTP_HOLDOVER : Nat := 85
abbrev Ev.PTP_OFFSET_LARGE : Nat := 86
abbrev Ev.DH_DIVERGENCE : Nat := 87
abbrev Ev.DH_RESYNC_DONE : Nat := 88
abbrev Ev.STRAIT_LINK_LOST : Nat := 89
abbrev Ev.PTP_LOCKED : Nat := 90
abbrev Ev.PTP_UNLOCKED : Nat := 91
abbrev Ev.CHANNEL_LOST : Nat := 96
abbrev Ev.CHANNEL_RESTORED : Nat := 97
abbrev Ev.TIMED_OUTPUT_LOST : Nat := 98
abbrev Ev.SKERRY_FENCED : Nat := 112
abbrev Ev.CLUSTER_LOST : Nat := 113
abbrev Ev.CLUSTERS_LOW : Nat := 114
abbrev Ev.FERRY_ADMIT_FAIL : Nat := 115
abbrev Ev.TASK_ABORTED : Nat := 116
abbrev Ev.GRAPH_STALL : Nat := 117
abbrev Ev.FP_OVERRUN : Nat := 118
abbrev Ev.FOLLOWING_ERROR : Nat := 128
abbrev Ev.SOFT_LIMIT : Nat := 129
abbrev Ev.OVERSPEED : Nat := 130
abbrev Ev.STALL : Nat := 131
abbrev Ev.FEEDBACK_LOST : Nat := 132
abbrev Ev.FEEDBACK_FROZEN : Nat := 133
abbrev Ev.ENCODER_FAULT : Nat := 134
abbrev Ev.BRAKE_FEEDBACK : Nat := 135
abbrev Ev.ISLAND_OVERCURRENT : Nat := 136
abbrev Ev.ISLAND_TEMP : Nat := 137
abbrev Ev.MEMORY_ERROR : Nat := 138
abbrev Ev.BUS_ZERO : Nat := 139
abbrev Ev.MOVE_DONE : Nat := 144
abbrev Ev.SEG_REJECT : Nat := 145
abbrev Ev.SEG_UNDERFLOW : Nat := 146
abbrev Ev.SEG_MARKER : Nat := 147
abbrev Ev.HOMING_DONE : Nat := 148
abbrev Ev.HOMING_FAILED : Nat := 149
abbrev Ev.HOMING_CHATTER : Nat := 150
abbrev Ev.HW_LIMIT : Nat := 151
abbrev Ev.DECEL_KEPT : Nat := 152
abbrev Ev.RA_SQUASH_RUN : Nat := 160
abbrev Ev.DEGRADED_ENTER : Nat := 161
abbrev Ev.DEGRADED_END : Nat := 162
abbrev Ev.OBSERVER_LOST : Nat := 163
abbrev Ev.WHEEL_LATE : Nat := 176
abbrev Ev.WHEEL_PASSED : Nat := 177
abbrev Ev.WHEEL_MISSED : Nat := 178
abbrev Ev.WHEEL_EVENT : Nat := 179
abbrev Ev.LH_FAULT : Nat := 192
abbrev Ev.SAFETY_DEMAND : Nat := 193
abbrev Ev.SAFETY_VIOLATION : Nat := 194
abbrev Ev.SAFE_COMM_LOSS : Nat := 195
abbrev Ev.XCHK_MISMATCH : Nat := 196
abbrev Ev.STO_READBACK_FAIL : Nat := 197
abbrev Ev.SI_FAULT : Nat := 198
abbrev Ev.SAFETY_DEGRADED : Nat := 199
abbrev Ev.SAFETY_DEGRADED_END : Nat := 200
abbrev Ev.SAFETY_PARAM_CHANGE : Nat := 201
abbrev Ev.SAFETY_PASSWORD_FAIL : Nat := 202
abbrev Ev.SAFETY_SIG_MISMATCH : Nat := 203
abbrev Ev.SO_FAULT : Nat := 204
abbrev Ev.PASSWORD_CHANGE : Nat := 205
abbrev Ev.CAN_RX_OVERRUN : Nat := 208
abbrev Ev.CAN_HP_RX : Nat := 209
abbrev Ev.CAN_TX_FAILED : Nat := 210
abbrev Ev.CAN_ERROR_WARNING : Nat := 211
abbrev Ev.CAN_ERROR_PASSIVE : Nat := 212
abbrev Ev.CAN_ERROR_ACTIVE : Nat := 213
abbrev Ev.CAN_BUS_OFF : Nat := 214
abbrev Ev.ADC_OVER_RANGE : Nat := 215
abbrev Ev.ADC_SCAN_OVERRUN : Nat := 216
abbrev Ev.ADC_INJ_DROPPED : Nat := 217
abbrev Ev.ADC_OPEN_WIRE : Nat := 218
abbrev Ev.ADC_FIFO_OVERRUN : Nat := 219
abbrev Ev.ADC_PTP_UNLOCKED : Nat := 220
abbrev Ev.IP_CONFLICT : Nat := 221
abbrev Ev.ACQ_DONE : Nat := 224
abbrev Ev.ACQ_OVERRUN : Nat := 225
abbrev Ev.COUNTER_OVERFLOW : Nat := 226
abbrev Ev.TRACE_FROZEN : Nat := 227
abbrev Ev.CYCLE_MARK : Nat := 240
abbrev Ev.NOTIFY_OVERFLOW : Nat := 255

end Sys2Proof.Machine
end

