-- ==== Sys2Proof/Machine/Num.lean ====
section
/-! DEFINITION. Rounding: half up out of an accumulator (R13), to nearest even in binary64 (R232) and binary32 (R324),
integer square root, and the binary32 patterns of REAL32 entries. Values are exact rationals in between. -/

namespace Sys2Proof.Machine

/-- `2 ^ e` for any integer `e`. -/
def pow2 (e : Int) : Rat := if 0 ≤ e then (2 : Rat) ^ e.toNat else 1 / (2 : Rat) ^ (-e).toNat

/-- Round half up (R13): add one half, truncate toward minus infinity. -/
def roundHalfUp (x : Rat) : Int := (x + 1 / 2).floor

/-- Round half up of an integer after division by `2 ^ n` (R13). -/
def shrHalfUp (x : Int) (n : Nat) : Int :=
  if n = 0 then x else (x + 2 ^ (n - 1)) / 2 ^ n

/-- Round to nearest, ties to even. -/
def roundHalfEven (x : Rat) : Int :=
  let f := x.floor
  let d := x - f
  if d < 1 / 2 then f
  else if 1 / 2 < d then f + 1
  else if f % 2 = 0 then f else f + 1

/-- Truncate toward zero. -/
def truncR (x : Rat) : Int := if 0 ≤ x then x.floor else -((-x).floor)

/-- Absolute value. -/
def absR (x : Rat) : Rat := if x < 0 then -x else x

/-- Smaller and larger of two rationals. -/
def minR (x y : Rat) : Rat := if x ≤ y then x else y
/-- Larger of two rationals. -/
def maxR (x y : Rat) : Rat := if x ≤ y then y else x

/-- Sign as -1, 0, 1. -/
def sgnR (x : Rat) : Int := if x < 0 then -1 else if x = 0 then 0 else 1

/-- Floor of the binary logarithm of a positive rational. -/
def ilog2 (x : Rat) : Int :=
  let e : Int := (Nat.log2 x.num.natAbs : Int) - (Nat.log2 x.den : Int)
  if x < pow2 e then e - 1 else e

/-- Round to `p` significant bits with least exponent `emin`, to nearest, ties to even. -/
def roundTo (p : Nat) (emin : Int) (x : Rat) : Rat :=
  if x = 0 then 0
  else
    let e := ilog2 (absR x)
    let q := if e - (p - 1 : Nat) < emin then emin else e - (p - 1 : Nat)
    (roundHalfEven (x / pow2 q) : Rat) * pow2 q

/-- The IEEE 754 binary64 value nearest to `x` (R232). -/
def b64 (x : Rat) : Rat := roundTo 53 (-1074) x

/-- The IEEE 754 binary32 value nearest to `x` (R324). -/
def b32 (x : Rat) : Rat := roundTo 24 (-149) x

/-- Integer square root of the number whose bits are taken two at a time, by digits. -/
def isqrtGo : Nat → Nat → Nat → Nat
  | 0, _, r => r
  | k + 1, n, r =>
    let c := r + 2 ^ k
    if c * c ≤ n then isqrtGo k n c else isqrtGo k n r

/-- Integer square root. -/
def isqrt (n : Nat) : Nat := isqrtGo (Nat.log2 n / 2 + 1) n 0

/-- Square root of a rational, correctly rounded to binary64 (R232); 0 for a negative operand. -/
def sqrt64 (x : Rat) : Rat :=
  if x ≤ 0 then 0
  else
    let k : Int := 60 - ilog2 x / 2
    let y := x * pow2 (2 * k)
    let n := y.floor.toNat
    let r := isqrt n
    let sticky : Nat := if (r * r : Nat) = n ∧ (n : Rat) = y then 0 else 1
    b64 ((2 * r + sticky : Nat) * pow2 (-(k + 1)))

/-- The value of a binary32 pattern. The patterns of infinities and NaN are no values of an entry (R324). -/
def real32 (n : Nat) : Rat :=
  let e := field n 23 8
  let m := field n 0 23
  let a : Rat := if e = 0 then (m : Rat) * pow2 (-149) else ((m + 2 ^ 23 : Nat) : Rat) * pow2 ((e : Int) - 150)
  if bit n 31 then -a else a

/-- A binary32 pattern is a finite number (R324). -/
def real32Finite (n : Nat) : Bool := field n 23 8 != 255

/-- The pattern of the binary32 value nearest to `x`; values beyond the largest finite number take its pattern. -/
def real32Bits (x : Rat) : Nat :=
  let y := b32 (absR x)
  let s : Nat := if x < 0 then 2 ^ 31 else 0
  if y = 0 then 0
  else
    let e := ilog2 y
    if e < -126 then s + (y / pow2 (-149)).floor.toNat
    else if 127 < e then s + 0x7F7F_FFFF
    else s + (e + 127).toNat * 2 ^ 23 + ((y / pow2 (e - 23)).floor.toNat - 2 ^ 23)

end Sys2Proof.Machine
end

