-- ==== Sys2Proof/Machine/OdKeys.lean ====
section
/-! DEFINITION. The keys of the object dictionary (R322): the entry at index i, subindex x has the key 256 * i + x.
One name per entry (or per family of entries) of the object tables of spec/, with the spec's own names;
where several tables use one name, the index of the table's object is appended. -/

namespace Sys2Proof.Machine

/-- The key of an entry (R322). -/
abbrev odKey (index sub : Nat) : Nat := 256 * index + sub

abbrev K.CYCLE_TIME : Nat := odKey 0x2000 1
abbrev K.STATIC_SLOTS : Nat := odKey 0x2000 2
abbrev K.SLOT_LENGTH : Nat := odKey 0x2000 3
abbrev K.AP_UP : Nat := odKey 0x2000 4
abbrev K.AP_DOWN : Nat := odKey 0x2000 5
abbrev K.MINISLOTS : Nat := odKey 0x2000 6
abbrev K.MINISLOT_LENGTH : Nat := odKey 0x2000 7
abbrev K.AP_MINISLOT : Nat := odKey 0x2000 8
abbrev K.PRECISION_ASSUMED : Nat := odKey 0x2000 9
abbrev K.SCHED_COMMIT : Nat := odKey 0x2000 10
abbrev K.SCHED_COMMIT_RESULT : Nat := odKey 0x2000 11
abbrev K.PENDING_NIT : Nat := odKey 0x2000 12
abbrev K.PENDING_STATIC_END : Nat := odKey 0x2000 13
abbrev K.ACTIVE_CYCLE_TIME : Nat := odKey 0x2001 1
abbrev K.ACTIVE_STATIC_SLOTS : Nat := odKey 0x2001 2
abbrev K.ACTIVE_SLOT_LENGTH : Nat := odKey 0x2001 3
abbrev K.ACTIVE_AP_UP : Nat := odKey 0x2001 4
abbrev K.ACTIVE_AP_DOWN : Nat := odKey 0x2001 5
abbrev K.ACTIVE_MINISLOTS : Nat := odKey 0x2001 6
abbrev K.ACTIVE_MINISLOT_LENGTH : Nat := odKey 0x2001 7
abbrev K.ACTIVE_AP_MINISLOT : Nat := odKey 0x2001 8
abbrev K.ACTIVE_PRECISION_ASSUMED : Nat := odKey 0x2001 9
abbrev K.ACTIVE_PENDING_NIT : Nat := odKey 0x2001 12
abbrev K.ACTIVE_PENDING_STATIC_END : Nat := odKey 0x2001 13
abbrev K.SLOT_ROLE_0 : Nat := odKey 0x2002 1
abbrev K.SLOT_ROLE_1 : Nat := odKey 0x2002 2
abbrev K.SLOT_ROLE (j : Nat) : Nat := odKey 0x2002 (3 + j)
abbrev K.SLOT_PORT_MASK (j : Nat) : Nat := odKey 0x2003 (3 + j)
abbrev K.MINISLOT_OWNER (i : Nat) : Nat := 0x200400 + i
abbrev K.MARK_OFFSET (j : Nat) : Nat := odKey 0x2008 (1 + j)
abbrev K.MARK_CONTROL (j : Nat) : Nat := odKey 0x2009 (1 + j)
abbrev K.EVT_OUT_SOURCE (j : Nat) : Nat := odKey 0x200A (1 + j)
abbrev K.CYCLE_COUNT : Nat := odKey 0x200B 1
abbrev K.RELAY_DROPS : Nat := odKey 0x200B 2
abbrev K.RELAY_NO_SLOT : Nat := odKey 0x200B 3
abbrev K.SCHED_COMMITS : Nat := odKey 0x200B 4
abbrev K.ENABLE (i : Nat) : Nat := odKey (0x2100 + i) 1
abbrev K.PHY_MODE (i : Nat) : Nat := odKey (0x2100 + i) 2
abbrev K.PLANNED_DELAY (i : Nat) : Nat := odKey (0x2100 + i) 3
abbrev K.PLANNED_UNCERTAINTY (i : Nat) : Nat := odKey (0x2100 + i) 4
abbrev K.GUARD_MARGIN (i : Nat) : Nat := odKey (0x2100 + i) 5
abbrev K.GUARD_STATE (i : Nat) : Nat := odKey (0x2100 + i) 6
abbrev K.VIOLATION_RUN (i : Nat) : Nat := odKey (0x2100 + i) 7
abbrev K.OUT_OF_WINDOW (i : Nat) : Nat := odKey (0x2100 + i) 8
abbrev K.OVERRUN (i : Nat) : Nat := odKey (0x2100 + i) 9
abbrev K.FOREIGN_ID (i : Nat) : Nat := odKey (0x2100 + i) 10
abbrev K.ID_MISMATCH (i : Nat) : Nat := odKey (0x2100 + i) 11
abbrev K.ROLE_MISMATCH (i : Nat) : Nat := odKey (0x2100 + i) 12
abbrev K.ADMITTED (i : Nat) : Nat := odKey (0x2100 + i) 13
abbrev K.HEAD_OVERRUN (i : Nat) : Nat := odKey (0x2100 + i) 14
abbrev K.ISOLATIONS (i : Nat) : Nat := odKey (0x2100 + i) 15
abbrev K.COUNTER_RESET_2100 (i : Nat) : Nat := odKey (0x2100 + i) 16
abbrev K.NETWORK_CONTROL : Nat := odKey 0x2400 1
abbrev K.NETWORK_STATE : Nat := odKey 0x2400 2
abbrev K.STOP_REASON : Nat := odKey 0x2400 3
abbrev K.LISTEN_BASE : Nat := odKey 0x2400 4
abbrev K.COLDSTART_RANK : Nat := odKey 0x2400 5
abbrev K.SYNC_ISLAND_MASK : Nat := odKey 0x2400 6
abbrev K.K_DISCARD : Nat := odKey 0x2400 7
abbrev K.STEP_MAX : Nat := odKey 0x2400 8
abbrev K.RATE_ROUND : Nat := odKey 0x2400 9
abbrev K.RATE_STEP_MAX : Nat := odKey 0x2400 10
abbrev K.EXT_MODE : Nat := odKey 0x2400 11
abbrev K.EXT_TIME_CONSTANT : Nat := odKey 0x2400 12
abbrev K.EXT_RATE_MAX : Nat := odKey 0x2400 13
abbrev K.EXT_STEP_LIMIT : Nat := odKey 0x2400 14
abbrev K.ISOLATION_HOLD : Nat := odKey 0x2400 15
abbrev K.CHANNEL_LOSS_CYCLES : Nat := odKey 0x2400 16
abbrev K.NETWORK_TIME : Nat := odKey 0x2400 17
abbrev K.EXT_OFFSET : Nat := odKey 0x2400 18
abbrev K.EXT_RATE : Nat := odKey 0x2400 19
abbrev K.EXT_STATE : Nat := odKey 0x2400 20
abbrev K.SYNC_NODES_USED : Nat := odKey 0x2400 21
abbrev K.K_USED : Nat := odKey 0x2400 22
abbrev K.LAST_STEP : Nat := odKey 0x2400 23
abbrev K.PRECISION_ESTIMATE : Nat := odKey 0x2400 24
abbrev K.COLLISIONS : Nat := odKey 0x2400 25
abbrev K.ISLAND_DEVIATION (j : Nat) : Nat := odKey 0x2401 (1 + j)
abbrev K.ISLAND_RATE_CORR (j : Nat) : Nat := odKey 0x2402 (1 + j)
abbrev K.MEASURED_DELAY (j : Nat) : Nat := odKey 0x2403 (1 + j)
abbrev K.MEASURED_UNCERTAINTY (j : Nat) : Nat := odKey 0x2404 (1 + j)
abbrev K.PHY_TX_LATENCY (j : Nat) : Nat := odKey 0x2405 (1 + j)
abbrev K.PHY_RX_LATENCY (j : Nat) : Nat := odKey 0x2406 (1 + j)
abbrev K.ISLAND_COLDSTART (j : Nat) : Nat := odKey 0x2407 (1 + j)
abbrev K.CHANNEL_MISS (j : Nat) : Nat := odKey 0x2408 (1 + j)
abbrev K.ISLAND_STATE (j : Nat) : Nat := odKey 0x2409 (1 + j)
abbrev K.DUAL_HEAD : Nat := odKey 0x2500 1
abbrev K.HEAD_CHANNEL : Nat := odKey 0x2500 2
abbrev K.DH_ROLE : Nat := odKey 0x2500 3
abbrev K.DH_STATE : Nat := odKey 0x2500 4
abbrev K.STRAIT_STATE : Nat := odKey 0x2500 5
abbrev K.STRAIT_DELAY : Nat := odKey 0x2500 6
abbrev K.FB_AGREE_OFFSET : Nat := odKey 0x2500 7
abbrev K.DIVERGE_LIMIT : Nat := odKey 0x2500 8
abbrev K.VERIFY_CYCLES : Nat := odKey 0x2500 9
abbrev K.DIGEST_MISMATCHES : Nat := odKey 0x2500 10
abbrev K.LAST_DIVERGED_AXIS : Nat := odKey 0x2500 11
abbrev K.LAST_DIVERGED_CYCLE : Nat := odKey 0x2500 12
abbrev K.RESYNCS : Nat := odKey 0x2500 13
abbrev K.LAST_RESYNC_TIME : Nat := odKey 0x2500 14
abbrev K.FB_FORWARDED : Nat := odKey 0x2500 15
abbrev K.CONFIG_DIGEST : Nat := odKey 0x2500 16
abbrev K.PEER_CONFIG_DIGEST : Nat := odKey 0x2500 17
abbrev K.RESYNC_REQUEST : Nat := odKey 0x2500 18
abbrev K.PRESENT (i : Nat) : Nat := odKey (0x2200 + 16 * i) 1
abbrev K.AXES (i : Nat) : Nat := odKey (0x2200 + 16 * i) 2
abbrev K.PWM_DIV (i : Nat) : Nat := odKey (0x2200 + 16 * i) 3
abbrev K.PHASE_MEDIUM (i : Nat) : Nat := odKey (0x2200 + 16 * i) 4
abbrev K.PHASE_SLOW (i : Nat) : Nat := odKey (0x2200 + 16 * i) 5
abbrev K.EXPECTED_VENDOR (i : Nat) : Nat := odKey (0x2200 + 16 * i) 6
abbrev K.ICB_TRANSFER (i : Nat) : Nat := odKey (0x2200 + 16 * i) 7
abbrev K.ICB_LENGTH (i : Nat) : Nat := odKey (0x2200 + 16 * i) 8
abbrev K.ICB_DIGEST (i : Nat) : Nat := odKey (0x2200 + 16 * i) 9
abbrev K.MBX_TIMEOUT (i : Nat) : Nat := odKey (0x2200 + 16 * i) 10
abbrev K.MBX_OUTSTANDING (i : Nat) : Nat := odKey (0x2200 + 16 * i) 11
abbrev K.APPLY_AT (i : Nat) : Nat := odKey (0x2200 + 16 * i) 12
abbrev K.AXIS_MAP (i : Nat) (j : Nat) : Nat := odKey (0x2201 + 16 * i) (1 + j)
abbrev K.VENDOR (i : Nat) : Nat := odKey (0x2202 + 16 * i) 1
abbrev K.CAPS (i : Nat) : Nat := odKey (0x2202 + 16 * i) 2
abbrev K.MIN_AP_UP (i : Nat) : Nat := odKey (0x2202 + 16 * i) 3
abbrev K.APPLY_SETUP (i : Nat) : Nat := odKey (0x2202 + 16 * i) 4
abbrev K.TO_LATENCY (i : Nat) : Nat := odKey (0x2202 + 16 * i) 5
abbrev K.REPORTED_ICB_DIGEST (i : Nat) : Nat := odKey (0x2202 + 16 * i) 6
abbrev K.HELD_CYCLES (i : Nat) : Nat := odKey (0x2203 + 16 * i) 1
abbrev K.SC_CRC_ERRORS (i : Nat) : Nat := odKey (0x2203 + 16 * i) 2
abbrev K.SC_STALE (i : Nat) : Nat := odKey (0x2203 + 16 * i) 3
abbrev K.MBX_STALE (i : Nat) : Nat := odKey (0x2203 + 16 * i) 4
abbrev K.MBX_TIMEOUTS (i : Nat) : Nat := odKey (0x2203 + 16 * i) 5
abbrev K.TO_LOST (i : Nat) : Nat := odKey (0x2203 + 16 * i) 6
abbrev K.TO_LATE (i : Nat) : Nat := odKey (0x2203 + 16 * i) 7
abbrev K.TO_OVERFLOW (i : Nat) : Nat := odKey (0x2203 + 16 * i) 8
abbrev K.COUNTER_RESET_2203 (i : Nat) : Nat := odKey (0x2203 + 16 * i) 9
abbrev K.ISLAND_MISMATCH_CAUSE (i : Nat) : Nat := odKey (0x2204 + 16 * i) 1
abbrev K.RECONCILE_QUIET : Nat := odKey 0x3000 1
abbrev K.TT_RESERVED : Nat := odKey 0x3000 2
abbrev K.TT_ENTRIES_PLANNED : Nat := odKey 0x3000 3
abbrev K.TASK_WATCHDOG : Nat := odKey 0x3000 4
abbrev K.CLUSTERS_MIN : Nat := odKey 0x3000 5
abbrev K.HOLDS_TOTAL : Nat := odKey 0x3000 6
abbrev K.DEADLINE_MISSES_TOTAL : Nat := odKey 0x3000 7
abbrev K.CANCELLED_TASKS : Nat := odKey 0x3000 8
abbrev K.ADMIT_FAILS : Nat := odKey 0x3000 9
abbrev K.REDISPATCHES : Nat := odKey 0x3000 10
abbrev K.TASKS_ABORTED : Nat := odKey 0x3000 11
abbrev K.COUNTER_RESET_3000 : Nat := odKey 0x3000 12
abbrev K.AXIS_HOLDS (j : Nat) : Nat := odKey 0x3001 (1 + j)
abbrev K.AXIS_DEADLINE_MISSES (j : Nat) : Nat := odKey 0x3002 (1 + j)
abbrev K.MARK_TASKS (j : Nat) : Nat := odKey 0x3003 (1 + j)
abbrev K.SKERRY_STATE (j : Nat) : Nat := odKey 0x3100 (1 + j)
abbrev K.FENCE_CAUSE (j : Nat) : Nat := odKey 0x3101 (1 + j)
abbrev K.SKERRY_CONTROL (j : Nat) : Nat := odKey 0x3102 (1 + j)
abbrev K.PARITY_ERRORS (j : Nat) : Nat := odKey 0x3103 (1 + j)
abbrev K.CLUSTER_STATE (j : Nat) : Nat := odKey 0x3104 (1 + j)
abbrev K.SKERRY_CLOCK : Nat := odKey 0x3105 1
abbrev K.ACTIVE_SKERRIES : Nat := odKey 0x3105 2
abbrev K.GRAPH_AXES : Nat := odKey 0x3800 1
abbrev K.GRAPH_IMAGE_VERSION : Nat := odKey 0x3800 2
abbrev K.GRAPH_AXIS (j : Nat) : Nat := odKey 0x3801 (1 + j)
abbrev K.GRAPH_VARIANT (j : Nat) : Nat := odKey 0x3802 (1 + j)
abbrev K.GRAPH_STALLS (j : Nat) : Nat := odKey 0x3803 (1 + j)
abbrev K.AXIS_TYPE (i : Nat) : Nat := odKey (0x4000 + 32 * i) 1
abbrev K.STAGE_SET (i : Nat) : Nat := odKey (0x4000 + 32 * i) 2
abbrev K.VEL_DIV (i : Nat) : Nat := odKey (0x4000 + 32 * i) 3
abbrev K.POS_DIV (i : Nat) : Nat := odKey (0x4000 + 32 * i) 4
abbrev K.LEAD (i : Nat) : Nat := odKey (0x4000 + 32 * i) 5
abbrev K.ISLAND (i : Nat) : Nat := odKey (0x4000 + 32 * i) 6
abbrev K.LOCAL_AXIS (i : Nat) : Nat := odKey (0x4000 + 32 * i) 7
abbrev K.GRAPH_MODE (i : Nat) : Nat := odKey (0x4000 + 32 * i) 8
abbrev K.CONTROL_WORD (i : Nat) : Nat := odKey (0x4001 + 32 * i) 1
abbrev K.AXIS_STATE (i : Nat) : Nat := odKey (0x4001 + 32 * i) 2
abbrev K.STATUS_WORD (i : Nat) : Nat := odKey (0x4001 + 32 * i) 3
abbrev K.CLOSED_LEVEL (i : Nat) : Nat := odKey (0x4001 + 32 * i) 4
abbrev K.LAST_REFUSAL (i : Nat) : Nat := odKey (0x4001 + 32 * i) 5
abbrev K.IQ_SETPOINT (i : Nat) : Nat := odKey (0x4001 + 32 * i) 6
abbrev K.BRAKE_OPEN_TIME (i : Nat) : Nat := odKey (0x4001 + 32 * i) 7
abbrev K.BRAKE_CLOSE_TIME (i : Nat) : Nat := odKey (0x4001 + 32 * i) 8
abbrev K.STANDSTILL_SPEED (i : Nat) : Nat := odKey (0x4001 + 32 * i) 9
abbrev K.STANDSTILL_TIME (i : Nat) : Nat := odKey (0x4001 + 32 * i) 10
abbrev K.FAULT_CODE (i : Nat) : Nat := odKey (0x4001 + 32 * i) 11
abbrev K.EXP_4002 (i : Nat) : Nat := odKey (0x4002 + 32 * i) 1
abbrev K.KP_4002 (i : Nat) : Nat := odKey (0x4002 + 32 * i) 2
abbrev K.KI_4002 (i : Nat) : Nat := odKey (0x4002 + 32 * i) 3
abbrev K.FF_ENABLE (i : Nat) : Nat := odKey (0x4002 + 32 * i) 4
abbrev K.SAT_COUNT_4002 (i : Nat) : Nat := odKey (0x4002 + 32 * i) 5
abbrev K.EXP_4003 (i : Nat) : Nat := odKey (0x4003 + 32 * i) 1
abbrev K.KP_4003 (i : Nat) : Nat := odKey (0x4003 + 32 * i) 2
abbrev K.KI_4003 (i : Nat) : Nat := odKey (0x4003 + 32 * i) 3
abbrev K.KD_4003 (i : Nat) : Nat := odKey (0x4003 + 32 * i) 4
abbrev K.D_FILTER_4003 (i : Nat) : Nat := odKey (0x4003 + 32 * i) 5
abbrev K.KAFF (i : Nat) : Nat := odKey (0x4003 + 32 * i) 6
abbrev K.ANTIWINDUP_4003 (i : Nat) : Nat := odKey (0x4003 + 32 * i) 7
abbrev K.INNER_SAT_HOLD_4003 (i : Nat) : Nat := odKey (0x4003 + 32 * i) 8
abbrev K.SAT_COUNT_4003 (i : Nat) : Nat := odKey (0x4003 + 32 * i) 9
abbrev K.EXP_4004 (i : Nat) : Nat := odKey (0x4004 + 32 * i) 1
abbrev K.KP_4004 (i : Nat) : Nat := odKey (0x4004 + 32 * i) 2
abbrev K.KI_4004 (i : Nat) : Nat := odKey (0x4004 + 32 * i) 3
abbrev K.KD_4004 (i : Nat) : Nat := odKey (0x4004 + 32 * i) 4
abbrev K.D_FILTER_4004 (i : Nat) : Nat := odKey (0x4004 + 32 * i) 5
abbrev K.KVFF (i : Nat) : Nat := odKey (0x4004 + 32 * i) 6
abbrev K.ANTIWINDUP_4004 (i : Nat) : Nat := odKey (0x4004 + 32 * i) 7
abbrev K.INNER_SAT_HOLD_4004 (i : Nat) : Nat := odKey (0x4004 + 32 * i) 8
abbrev K.SAT_COUNT_4004 (i : Nat) : Nat := odKey (0x4004 + 32 * i) 9
abbrev K.GT_STAGE (i : Nat) : Nat := odKey (0x4005 + 32 * i) 1
abbrev K.GT_COUNT (i : Nat) : Nat := odKey (0x4005 + 32 * i) 2
abbrev K.GT_SCALE_KI (i : Nat) : Nat := odKey (0x4005 + 32 * i) 3
abbrev K.GT_SEGMENT (i : Nat) : Nat := odKey (0x4005 + 32 * i) 4
abbrev K.GT_FACTOR (i : Nat) : Nat := odKey (0x4005 + 32 * i) 5
abbrev K.GT_X (i : Nat) (j : Nat) : Nat := odKey (0x4005 + 32 * i) (6 + j)
abbrev K.GT_Y (i : Nat) (j : Nat) : Nat := odKey (0x4005 + 32 * i) (38 + j)
abbrev K.LP_TAU (i : Nat) (p : Nat) : Nat := odKey (0x4006 + 32 * i) (1 + 10 * p)
abbrev K.BQ1_TYPE (i : Nat) (p : Nat) : Nat := odKey (0x4006 + 32 * i) (2 + 10 * p)
abbrev K.BQ1_F0 (i : Nat) (p : Nat) : Nat := odKey (0x4006 + 32 * i) (3 + 10 * p)
abbrev K.BQ1_WIDTH (i : Nat) (p : Nat) : Nat := odKey (0x4006 + 32 * i) (4 + 10 * p)
abbrev K.BQ1_DEPTH (i : Nat) (p : Nat) : Nat := odKey (0x4006 + 32 * i) (5 + 10 * p)
abbrev K.BQ2_TYPE (i : Nat) (p : Nat) : Nat := odKey (0x4006 + 32 * i) (6 + 10 * p)
abbrev K.BQ2_F0 (i : Nat) (p : Nat) : Nat := odKey (0x4006 + 32 * i) (7 + 10 * p)
abbrev K.BQ2_WIDTH (i : Nat) (p : Nat) : Nat := odKey (0x4006 + 32 * i) (8 + 10 * p)
abbrev K.BQ2_DEPTH (i : Nat) (p : Nat) : Nat := odKey (0x4006 + 32 * i) (9 + 10 * p)
abbrev K.FP_SELECT (i : Nat) (p : Nat) : Nat := odKey (0x4006 + 32 * i) (10 + 10 * p)
abbrev K.I_MAX (i : Nat) : Nat := odKey (0x400C + 32 * i) 1
abbrev K.V_MAX (i : Nat) : Nat := odKey (0x400C + 32 * i) 2
abbrev K.MOD_LIMIT (i : Nat) : Nat := odKey (0x400C + 32 * i) 3
abbrev K.VEL_MAX (i : Nat) : Nat := odKey (0x400C + 32 * i) 4
abbrev K.OVERSPEED (i : Nat) : Nat := odKey (0x400C + 32 * i) 5
abbrev K.POS_SOFT_MIN (i : Nat) : Nat := odKey (0x400C + 32 * i) 6
abbrev K.POS_SOFT_MAX (i : Nat) : Nat := odKey (0x400C + 32 * i) 7
abbrev K.SOFT_LIMIT_ENABLE (i : Nat) : Nat := odKey (0x400C + 32 * i) 8
abbrev K.FE_WINDOW (i : Nat) : Nat := odKey (0x400C + 32 * i) 9
abbrev K.FE_TIME (i : Nat) : Nat := odKey (0x400C + 32 * i) 10
abbrev K.RA_ENABLE (i : Nat) : Nat := odKey (0x4007 + 32 * i) 1
abbrev K.PRED_CURRENT (i : Nat) : Nat := odKey (0x4007 + 32 * i) 2
abbrev K.TOL_POS (i : Nat) : Nat := odKey (0x4007 + 32 * i) 3
abbrev K.TOL_SPEED (i : Nat) : Nat := odKey (0x4007 + 32 * i) 4
abbrev K.TOL_CURRENT (i : Nat) : Nat := odKey (0x4007 + 32 * i) 5
abbrev K.RESIDUAL_MAX (i : Nat) : Nat := odKey (0x4007 + 32 * i) 6
abbrev K.FP_NONAFFINE (i : Nat) : Nat := odKey (0x4007 + 32 * i) 7
abbrev K.FORCE_SQUASH (i : Nat) : Nat := odKey (0x4007 + 32 * i) 8
abbrev K.RECONCILES (i : Nat) : Nat := odKey (0x4007 + 32 * i) 9
abbrev K.SQUASHES (i : Nat) : Nat := odKey (0x4007 + 32 * i) 10
abbrev K.SQ_FORCED (i : Nat) : Nat := odKey (0x4007 + 32 * i) 11
abbrev K.SQ_INPUT_CHANGED (i : Nat) : Nat := odKey (0x4007 + 32 * i) 12
abbrev K.SQ_NONAFFINE (i : Nat) : Nat := odKey (0x4007 + 32 * i) 13
abbrev K.SQ_PRED_ERROR (i : Nat) : Nat := odKey (0x4007 + 32 * i) 14
abbrev K.SQ_BREAKPOINT (i : Nat) : Nat := odKey (0x4007 + 32 * i) 15
abbrev K.SQ_SATURATION (i : Nat) : Nat := odKey (0x4007 + 32 * i) 16
abbrev K.SQ_GT_RESIDUAL (i : Nat) : Nat := odKey (0x4007 + 32 * i) 17
abbrev K.LAST_SQUASH_CAUSE (i : Nat) : Nat := odKey (0x4007 + 32 * i) 18
abbrev K.LAST_SQUASH_CYCLE (i : Nat) : Nat := odKey (0x4007 + 32 * i) 19
abbrev K.LATE_APPLIES (i : Nat) : Nat := odKey (0x4007 + 32 * i) 20
abbrev K.POS_ERR_PEAK (i : Nat) : Nat := odKey (0x4007 + 32 * i) 21
abbrev K.SPEED_ERR_PEAK (i : Nat) : Nat := odKey (0x4007 + 32 * i) 22
abbrev K.CURRENT_ERR_PEAK (i : Nat) : Nat := odKey (0x4007 + 32 * i) 23
abbrev K.RESIDUAL_PEAK (i : Nat) : Nat := odKey (0x4007 + 32 * i) 24
abbrev K.COUNTER_RESET_4007 (i : Nat) : Nat := odKey (0x4007 + 32 * i) 25
abbrev K.EFFECTIVE_DELAY (i : Nat) : Nat := odKey (0x4007 + 32 * i) 26
abbrev K.SQUASH_RATE (i : Nat) : Nat := odKey (0x4007 + 32 * i) 27
abbrev K.SQUASH_RUN_LIMIT (i : Nat) : Nat := odKey (0x4007 + 32 * i) 28
abbrev K.POLE_PAIRS (i : Nat) : Nat := odKey (0x4008 + 32 * i) 1
abbrev K.CURRENT_SCALE (i : Nat) : Nat := odKey (0x4008 + 32 * i) 2
abbrev K.PHASE_ORDER (i : Nat) : Nat := odKey (0x4008 + 32 * i) 3
abbrev K.R_PHASE (i : Nat) : Nat := odKey (0x4008 + 32 * i) 4
abbrev K.L_D (i : Nat) : Nat := odKey (0x4008 + 32 * i) 5
abbrev K.L_Q (i : Nat) : Nat := odKey (0x4008 + 32 * i) 6
abbrev K.PSI (i : Nat) : Nat := odKey (0x4008 + 32 * i) 7
abbrev K.COMM_SOURCE (i : Nat) : Nat := odKey (0x4008 + 32 * i) 8
abbrev K.COMM_OFFSET (i : Nat) : Nat := odKey (0x4008 + 32 * i) 9
abbrev K.ALIGN_CURRENT (i : Nat) : Nat := odKey (0x4008 + 32 * i) 10
abbrev K.ALIGN_TIME (i : Nat) : Nat := odKey (0x4008 + 32 * i) 11
abbrev K.OBS_ENABLE (i : Nat) : Nat := odKey (0x4008 + 32 * i) 12
abbrev K.OBS_BANDWIDTH (i : Nat) : Nat := odKey (0x4008 + 32 * i) 13
abbrev K.MIN_OBS_SPEED (i : Nat) : Nat := odKey (0x4008 + 32 * i) 14
abbrev K.OBS_CONV_ERR (i : Nat) : Nat := odKey (0x4008 + 32 * i) 15
abbrev K.OBS_CONV_TIME (i : Nat) : Nat := odKey (0x4008 + 32 * i) 16
abbrev K.OBS_STATE (i : Nat) : Nat := odKey (0x4008 + 32 * i) 17
abbrev K.OBS_ANGLE_ERR (i : Nat) : Nat := odKey (0x4008 + 32 * i) 18
abbrev K.OBS_ANGLE_DEV (i : Nat) : Nat := odKey (0x4008 + 32 * i) 19
abbrev K.OBS_SPEED (i : Nat) : Nat := odKey (0x4008 + 32 * i) 20
abbrev K.ELEC_ANGLE (i : Nat) : Nat := odKey (0x4008 + 32 * i) 21
abbrev K.BUS_ZERO_COUNT (i : Nat) : Nat := odKey (0x4008 + 32 * i) 22
abbrev K.MICROSTEP_RES (i : Nat) : Nat := odKey (0x4009 + 32 * i) 1
abbrev K.I_RUN (i : Nat) : Nat := odKey (0x4009 + 32 * i) 2
abbrev K.I_HOLD (i : Nat) : Nat := odKey (0x4009 + 32 * i) 3
abbrev K.HOLD_DELAY (i : Nat) : Nat := odKey (0x4009 + 32 * i) 4
abbrev K.STALL_ENABLE (i : Nat) : Nat := odKey (0x4009 + 32 * i) 5
abbrev K.STALL_ANGLE (i : Nat) : Nat := odKey (0x4009 + 32 * i) 6
abbrev K.STALL_CYCLES (i : Nat) : Nat := odKey (0x4009 + 32 * i) 7
abbrev K.STALL_SPEED (i : Nat) : Nat := odKey (0x4009 + 32 * i) 8
abbrev K.STALL_TIME (i : Nat) : Nat := odKey (0x4009 + 32 * i) 9
abbrev K.SENSORLESS_PHASE (i : Nat) : Nat := odKey (0x4009 + 32 * i) 10
abbrev K.LOAD_ANGLE (i : Nat) : Nat := odKey (0x4009 + 32 * i) 11
abbrev K.LOAD_ANGLE_PEAK (i : Nat) : Nat := odKey (0x4009 + 32 * i) 12
abbrev K.STALLS (i : Nat) : Nat := odKey (0x4009 + 32 * i) 13
abbrev K.COUNTER_RESET_4009 (i : Nat) : Nat := odKey (0x4009 + 32 * i) 14
abbrev K.DEG_ENABLE (i : Nat) : Nat := odKey (0x4013 + 32 * i) 1
abbrev K.DEG_TIME (i : Nat) : Nat := odKey (0x4013 + 32 * i) 2
abbrev K.DEG_STATE (i : Nat) : Nat := odKey (0x4013 + 32 * i) 3
abbrev K.DEG_ENTRIES (i : Nat) : Nat := odKey (0x4013 + 32 * i) 4
abbrev K.LAST_DEG_CAUSE (i : Nat) : Nat := odKey (0x4013 + 32 * i) 5
abbrev K.LAST_DEG_OUTCOME (i : Nat) : Nat := odKey (0x4013 + 32 * i) 6
abbrev K.LAST_DEG_DURATION (i : Nat) : Nat := odKey (0x4013 + 32 * i) 7
abbrev K.POOL_SEGMENTS : Nat := odKey 0x5000 1
abbrev K.POOL_ALLOCATED : Nat := odKey 0x5000 2
abbrev K.POOL_UNDERFLOWS : Nat := odKey 0x5000 3
abbrev K.HOMING_METHOD (i : Nat) : Nat := odKey (0x400D + 32 * i) 1
abbrev K.HOME_SEARCH_VEL (i : Nat) : Nat := odKey (0x400D + 32 * i) 2
abbrev K.HOME_CREEP_VEL (i : Nat) : Nat := odKey (0x400D + 32 * i) 3
abbrev K.HOME_ACC (i : Nat) : Nat := odKey (0x400D + 32 * i) 4
abbrev K.HOME_OFFSET (i : Nat) : Nat := odKey (0x400D + 32 * i) 5
abbrev K.HOME_SWITCH_POINT (i : Nat) : Nat := odKey (0x400D + 32 * i) 6
abbrev K.LIMIT_NEG_POINT (i : Nat) : Nat := odKey (0x400D + 32 * i) 7
abbrev K.LIMIT_POS_POINT (i : Nat) : Nat := odKey (0x400D + 32 * i) 8
abbrev K.SWITCH_POLARITY (i : Nat) : Nat := odKey (0x400D + 32 * i) 9
abbrev K.SWITCH_DEBOUNCE (i : Nat) : Nat := odKey (0x400D + 32 * i) 10
abbrev K.HOME_MAX_TRAVEL (i : Nat) : Nat := odKey (0x400D + 32 * i) 11
abbrev K.HOMING_START (i : Nat) : Nat := odKey (0x400D + 32 * i) 12
abbrev K.HOMING_STATE (i : Nat) : Nat := odKey (0x400D + 32 * i) 13
abbrev K.HOMING_RESULT (i : Nat) : Nat := odKey (0x400D + 32 * i) 14
abbrev K.HOMED (i : Nat) : Nat := odKey (0x400D + 32 * i) 15
abbrev K.HOME_LATCHED (i : Nat) : Nat := odKey (0x400D + 32 * i) 16
abbrev K.SEG_ALLOC (i : Nat) : Nat := odKey (0x400E + 32 * i) 1
abbrev K.SEG_APPEND (i : Nat) : Nat := odKey (0x400E + 32 * i) 2
abbrev K.QUEUE_LEVEL (i : Nat) : Nat := odKey (0x400E + 32 * i) 3
abbrev K.MOVE_MODE (i : Nat) : Nat := odKey (0x400E + 32 * i) 4
abbrev K.TABLE_COUNT (i : Nat) : Nat := odKey (0x400E + 32 * i) 5
abbrev K.TABLE_START (i : Nat) : Nat := odKey (0x400E + 32 * i) 6
abbrev K.TABLE_STOP (i : Nat) : Nat := odKey (0x400E + 32 * i) 7
abbrev K.QUEUE_CLEAR (i : Nat) : Nat := odKey (0x400E + 32 * i) 8
abbrev K.MOVE_STATE (i : Nat) : Nat := odKey (0x400E + 32 * i) 9
abbrev K.CURRENT_TAG (i : Nat) : Nat := odKey (0x400E + 32 * i) 10
abbrev K.SEGMENTS_DONE (i : Nat) : Nat := odKey (0x400E + 32 * i) 11
abbrev K.REPEATS_DONE (i : Nat) : Nat := odKey (0x400E + 32 * i) 12
abbrev K.LAST_SEG_REJECT (i : Nat) : Nat := odKey (0x400E + 32 * i) 13
abbrev K.SEG_REJECTS (i : Nat) : Nat := odKey (0x400E + 32 * i) 14
abbrev K.UNDERFLOWS (i : Nat) : Nat := odKey (0x400E + 32 * i) 15
abbrev K.COUNTER_RESET_400E (i : Nat) : Nat := odKey (0x400E + 32 * i) 16
abbrev K.MOVE_COMMAND (i : Nat) : Nat := odKey (0x400F + 32 * i) 1
abbrev K.TARGET_POS (i : Nat) : Nat := odKey (0x400F + 32 * i) 2
abbrev K.PROFILE_VEL (i : Nat) : Nat := odKey (0x400F + 32 * i) 3
abbrev K.PROFILE_ACC (i : Nat) : Nat := odKey (0x400F + 32 * i) 4
abbrev K.PROFILE_DEC (i : Nat) : Nat := odKey (0x400F + 32 * i) 5
abbrev K.JOG_VEL (i : Nat) : Nat := odKey (0x400F + 32 * i) 6
abbrev K.JOG_ACC (i : Nat) : Nat := odKey (0x400F + 32 * i) 7
abbrev K.JOG_DEC (i : Nat) : Nat := odKey (0x400F + 32 * i) 8
abbrev K.STOP_DEC (i : Nat) : Nat := odKey (0x400F + 32 * i) 9
abbrev K.QUICK_STOP_DEC (i : Nat) : Nat := odKey (0x400F + 32 * i) 10
abbrev K.SOURCE (i : Nat) : Nat := odKey (0x400F + 32 * i) 11
abbrev K.RAMP_PHASE (i : Nat) : Nat := odKey (0x400F + 32 * i) 12
abbrev K.SETPOINT_POS (i : Nat) : Nat := odKey (0x400F + 32 * i) 13
abbrev K.PROFILE_VEL_NOW (i : Nat) : Nat := odKey (0x400F + 32 * i) 14
abbrev K.PROFILE_ACC_NOW (i : Nat) : Nat := odKey (0x400F + 32 * i) 15
abbrev K.MOTION_FLAGS (i : Nat) : Nat := odKey (0x400F + 32 * i) 16
abbrev K.LAST_MOTION_REFUSAL (i : Nat) : Nat := odKey (0x400F + 32 * i) 17
abbrev K.STEP_CHANNEL (i : Nat) : Nat := odKey (0x4010 + 32 * i) 1
abbrev K.STEP_SIZE (i : Nat) : Nat := odKey (0x4010 + 32 * i) 2
abbrev K.STEP_DELAY (i : Nat) : Nat := odKey (0x4010 + 32 * i) 3
abbrev K.STEP_ENGAGE (i : Nat) : Nat := odKey (0x4010 + 32 * i) 4
abbrev K.STEP_ORIGIN (i : Nat) : Nat := odKey (0x4010 + 32 * i) 5
abbrev K.STEP_COUNT (i : Nat) : Nat := odKey (0x4010 + 32 * i) 6
abbrev K.CAM_MASTER (i : Nat) : Nat := odKey (0x4011 + 32 * i) 1
abbrev K.GEAR_NUM (i : Nat) : Nat := odKey (0x4011 + 32 * i) 2
abbrev K.GEAR_DEN (i : Nat) : Nat := odKey (0x4011 + 32 * i) 3
abbrev K.GEAR_ENGAGE (i : Nat) : Nat := odKey (0x4011 + 32 * i) 4
abbrev K.MASTER_POS_USED (i : Nat) : Nat := odKey (0x4011 + 32 * i) 5
abbrev K.CAM_ADVANCE (i : Nat) : Nat := odKey (0x4011 + 32 * i) 6
abbrev K.BACK_DEBT (i : Nat) : Nat := odKey (0x4011 + 32 * i) 7
abbrev K.CAM_CATCHUPS (i : Nat) : Nat := odKey (0x4011 + 32 * i) 8
abbrev K.FB_SOURCE (i : Nat) : Nat := odKey (0x400A + 32 * i) 1
abbrev K.FB_CHANNEL (i : Nat) : Nat := odKey (0x400A + 32 * i) 2
abbrev K.COUNTS_PER_TURN (i : Nat) : Nat := odKey (0x400A + 32 * i) 3
abbrev K.FB_INVERT (i : Nat) : Nat := odKey (0x400A + 32 * i) 4
abbrev K.N_LOST (i : Nat) : Nat := odKey (0x400A + 32 * i) 5
abbrev K.N_FREEZE (i : Nat) : Nat := odKey (0x400A + 32 * i) 6
abbrev K.FREEZE_SPEED (i : Nat) : Nat := odKey (0x400A + 32 * i) 7
abbrev K.QERR_FAULT (i : Nat) : Nat := odKey (0x400A + 32 * i) 8
abbrev K.FB_STATUS (i : Nat) : Nat := odKey (0x400A + 32 * i) 9
abbrev K.MEASURED_POS (i : Nat) : Nat := odKey (0x400A + 32 * i) 10
abbrev K.UNWRAPPED_COUNT (i : Nat) : Nat := odKey (0x400A + 32 * i) 11
abbrev K.FRAME_SHIFT (i : Nat) : Nat := odKey (0x400A + 32 * i) 12
abbrev K.INDEX_POS (i : Nat) : Nat := odKey (0x400A + 32 * i) 13
abbrev K.EXTRAP_CYCLES (i : Nat) : Nat := odKey (0x400A + 32 * i) 14
abbrev K.FEEDBACK_FAULTS (i : Nat) : Nat := odKey (0x400A + 32 * i) 15
abbrev K.SEQ_GAPS (i : Nat) : Nat := odKey (0x400A + 32 * i) 16
abbrev K.MISSING_RUN (i : Nat) : Nat := odKey (0x400A + 32 * i) 17
abbrev K.COUNTER_RESET_400A (i : Nat) : Nat := odKey (0x400A + 32 * i) 18
abbrev K.T_ZERO (i : Nat) : Nat := odKey (0x400B + 32 * i) 1
abbrev K.SPEED_EST (i : Nat) : Nat := odKey (0x400B + 32 * i) 2
abbrev K.EST_SOURCE (i : Nat) : Nat := odKey (0x400B + 32 * i) 3
abbrev K.EDGE_PERIOD (i : Nat) : Nat := odKey (0x400B + 32 * i) 4
abbrev K.DIR_CHANGES (i : Nat) : Nat := odKey (0x400B + 32 * i) 5
abbrev K.EDGE_T_INVALID (i : Nat) : Nat := odKey (0x400B + 32 * i) 6
abbrev K.REACT_FOLLOWING_ERROR (i : Nat) : Nat := odKey (0x4012 + 32 * i) 1
abbrev K.REACT_SOFT_LIMIT (i : Nat) : Nat := odKey (0x4012 + 32 * i) 2
abbrev K.REACT_OVERSPEED (i : Nat) : Nat := odKey (0x4012 + 32 * i) 3
abbrev K.REACT_STALL (i : Nat) : Nat := odKey (0x4012 + 32 * i) 4
abbrev K.REACT_ENCODER (i : Nat) : Nat := odKey (0x4012 + 32 * i) 5
abbrev K.REACT_ISLAND_TEMP (i : Nat) : Nat := odKey (0x4012 + 32 * i) 6
abbrev K.ENC_MODE (i : Nat) : Nat := odKey (0x6E00 + i) 1
abbrev K.GLITCH_FILTER (i : Nat) : Nat := odKey (0x6E00 + i) 2
abbrev K.WRAP (i : Nat) : Nat := odKey (0x6E00 + i) 3
abbrev K.INDEX_ENABLE (i : Nat) : Nat := odKey (0x6E00 + i) 4
abbrev K.POLARITY (i : Nat) : Nat := odKey (0x6E00 + i) 5
abbrev K.ENC_COUNT (i : Nat) : Nat := odKey (0x6E08 + i) 1
abbrev K.ENC_REVS (i : Nat) : Nat := odKey (0x6E08 + i) 2
abbrev K.INDEX_LATCH (i : Nat) : Nat := odKey (0x6E08 + i) 3
abbrev K.INDEX_EDGES (i : Nat) : Nat := odKey (0x6E08 + i) 4
abbrev K.QERR (i : Nat) : Nat := odKey (0x6E08 + i) 5
abbrev K.POS_UNCERTAIN (i : Nat) : Nat := odKey (0x6E08 + i) 6
abbrev K.OWN_CAPTURES (i : Nat) : Nat := odKey (0x6E08 + i) 7
abbrev K.COUNTER_RESET_6E08 (i : Nat) : Nat := odKey (0x6E08 + i) 8
abbrev K.LATE_WINDOW : Nat := odKey 0x5400 1
abbrev K.LEAD_CYCLES : Nat := odKey 0x5400 2
abbrev K.ENTRIES_ARMED : Nat := odKey 0x5400 3
abbrev K.WHEEL_LATE : Nat := odKey 0x5400 4
abbrev K.WHEEL_PASSED : Nat := odKey 0x5400 5
abbrev K.WHEEL_MISSED : Nat := odKey 0x5400 6
abbrev K.SKIPPED_CROSSINGS : Nat := odKey 0x5400 7
abbrev K.COUNTER_RESET_5400 : Nat := odKey 0x5400 8
abbrev K.MASTER_SOURCE (i : Nat) : Nat := odKey (0x5401 + i) 1
abbrev K.MASTER_REF (i : Nat) : Nat := odKey (0x5401 + i) 2
abbrev K.MASTER_COUNTS_PER_TURN (i : Nat) : Nat := odKey (0x5401 + i) 3
abbrev K.MASTER_T_ZERO (i : Nat) : Nat := odKey (0x5401 + i) 4
abbrev K.VIRT_SPEED (i : Nat) : Nat := odKey (0x5401 + i) 5
abbrev K.VIRT_ACC (i : Nat) : Nat := odKey (0x5401 + i) 6
abbrev K.MASTER_POS (i : Nat) : Nat := odKey (0x5401 + i) 7
abbrev K.MASTER_SPEED (i : Nat) : Nat := odKey (0x5401 + i) 8
abbrev K.MASTER_ACC (i : Nat) : Nat := odKey (0x5401 + i) 9
abbrev K.ENTRY (i : Nat) : Nat := 0x541000 + i
abbrev K.ENTRY_STATUS (i : Nat) : Nat := 0x542000 + i
abbrev K.FIRST_POINT (i : Nat) : Nat := odKey (0x5800 + i) 1
abbrev K.RUN_COUNT (i : Nat) : Nat := odKey (0x5800 + i) 2
abbrev K.RUN (i : Nat) (j : Nat) : Nat := odKey (0x5800 + i) (3 + j)
abbrev K.POINTS (i : Nat) : Nat := odKey (0x5800 + i) 67
abbrev K.INPUTS_VALID (i : Nat) : Nat := odKey (0x5820 + i) 1
abbrev K.FAST_SAMPLE_CYCLE (i : Nat) : Nat := odKey (0x5820 + i) 2
abbrev K.MEDIUM_SAMPLE_CYCLE (i : Nat) : Nat := odKey (0x5820 + i) 3
abbrev K.SLOW_SAMPLE_CYCLE (i : Nat) : Nat := odKey (0x5820 + i) 4
abbrev K.OC_SAMPLE_CYCLE (i : Nat) : Nat := odKey (0x5820 + i) 5
abbrev K.OC_TRANSFERS (i : Nat) : Nat := odKey (0x5820 + i) 6
abbrev K.POINTS_ALLOCATED : Nat := odKey 0x5840 1
abbrev K.FAST_POINTS : Nat := odKey 0x5840 2
abbrev K.SNAPSHOT_CYCLE : Nat := odKey 0x5840 3
abbrev K.FP_IMAGE (i : Nat) : Nat := odKey (0x3400 + 16 * i) 1
abbrev K.FP_LOAD (i : Nat) : Nat := odKey (0x3400 + 16 * i) 2
abbrev K.FP_STATE (i : Nat) : Nat := odKey (0x3400 + 16 * i) 3
abbrev K.FP_RESULT (i : Nat) : Nat := odKey (0x3400 + 16 * i) 4
abbrev K.FP_CLASS (i : Nat) : Nat := odKey (0x3400 + 16 * i) 5
abbrev K.FP_CODE_LEN (i : Nat) : Nat := odKey (0x3400 + 16 * i) 6
abbrev K.FP_STATIC_CYCLES (i : Nat) : Nat := odKey (0x3400 + 16 * i) 7
abbrev K.FP_VARIABLE (i : Nat) : Nat := odKey (0x3400 + 16 * i) 8
abbrev K.FP_DIGEST (i : Nat) : Nat := odKey (0x3400 + 16 * i) 9
abbrev K.FP_USERS (i : Nat) : Nat := odKey (0x3400 + 16 * i) 10
abbrev K.FP_USER_VERSION (i : Nat) : Nat := odKey (0x3400 + 16 * i) 11
abbrev K.INVOCATIONS (i : Nat) : Nat := odKey (0x3401 + 16 * i) 1
abbrev K.OVERRUNS (i : Nat) : Nat := odKey (0x3401 + 16 * i) 2
abbrev K.SAT_INVOCATIONS (i : Nat) : Nat := odKey (0x3401 + 16 * i) 3
abbrev K.RDCNT_DENIED (i : Nat) : Nat := odKey (0x3401 + 16 * i) 4
abbrev K.COUNTER_RESET_3401 (i : Nat) : Nat := odKey (0x3401 + 16 * i) 5
abbrev K.STORE : Nat := odKey 0x1800 1
abbrev K.RESTORE_DEFAULTS : Nat := odKey 0x1800 2
abbrev K.STORE_STATE : Nat := odKey 0x1800 3
abbrev K.STORE_RESULT : Nat := odKey 0x1800 4
abbrev K.STORE_COUNT : Nat := odKey 0x1800 5
abbrev K.ACTIVE_SLOT : Nat := odKey 0x1800 6
abbrev K.IMAGE_SEQUENCE : Nat := odKey 0x1800 7
abbrev K.IMAGE_SIZE : Nat := odKey 0x1800 8
abbrev K.LAST_STORE_TIME : Nat := odKey 0x1800 9
abbrev K.STORE_WEAR : Nat := odKey 0x1800 10
abbrev K.BOOT_IMAGE_SOURCE : Nat := odKey 0x1800 11
abbrev K.CONFIG_COMMIT : Nat := odKey 0x1801 1
abbrev K.CONFIG_RESULT : Nat := odKey 0x1801 2
abbrev K.CONFIG_PENDING : Nat := odKey 0x1801 3
abbrev K.CONFIG_DISCARD : Nat := odKey 0x1801 4
abbrev K.CONFIG_COMMITS : Nat := odKey 0x1801 5
abbrev K.SRAM_CORRECTED : Nat := odKey 0x1100 1
abbrev K.SRAM_UNCORRECTABLE : Nat := odKey 0x1100 2
abbrev K.LAST_ECC_ADDRESS : Nat := odKey 0x1100 3
abbrev K.LAST_ECC_KIND : Nat := odKey 0x1100 4
abbrev K.SCRUB_PERIOD : Nat := odKey 0x1100 5
abbrev K.COUNTER_RESET_1100 : Nat := odKey 0x1100 6
abbrev K.VENDOR_ID : Nat := odKey 0x1000 1
abbrev K.PRODUCT_CODE : Nat := odKey 0x1000 2
abbrev K.ORDERING_CODE : Nat := odKey 0x1000 3
abbrev K.SILICON_REV : Nat := odKey 0x1000 4
abbrev K.FIRMWARE_VERSION : Nat := odKey 0x1000 5
abbrev K.SERIAL_NUMBER : Nat := odKey 0x1000 6
abbrev K.OD_VERSION : Nat := odKey 0x1000 7
abbrev K.DEVICE_NAME : Nat := odKey 0x1000 8
abbrev K.LOCATION : Nat := odKey 0x1000 9
abbrev K.UPTIME : Nat := odKey 0x1000 10
abbrev K.EVENTS_RAISED : Nat := odKey 0x1A00 1
abbrev K.NOTIFY_DROPPED : Nat := odKey 0x1A00 2
abbrev K.COUNTER_RESET_1A00 : Nat := odKey 0x1A00 3
abbrev K.GROUP_CHANNEL (j : Nat) : Nat := odKey 0x1A01 (1 + j)
abbrev K.SOURCE_MASK (j : Nat) : Nat := odKey 0x1A02 (1 + j)
abbrev K.CHANNEL_PIN (j : Nat) : Nat := odKey 0x1A04 (1 + j)
abbrev K.CHANNEL_PULSE (j : Nat) : Nat := odKey 0x1A05 (1 + j)
abbrev K.CHANNEL_CAN (j : Nat) : Nat := odKey 0x1A06 (1 + j)
abbrev K.CHANNEL_PENDING (j : Nat) : Nat := odKey 0x1A07 (1 + j)
abbrev K.CHANNEL_LOST (j : Nat) : Nat := odKey 0x1A08 (1 + j)
abbrev K.SOURCE_COUNT (i : Nat) : Nat := odKey (0x1A10 + i / 16) (i % 16)
abbrev K.INTERRUPTED_CYCLES (i : Nat) : Nat := odKey (0x4015 + 32 * i) 1
abbrev K.INTERRUPT_RUN_PEAK (i : Nat) : Nat := odKey (0x4015 + 32 * i) 2
abbrev K.LAST_INTERRUPT_CYCLE (i : Nat) : Nat := odKey (0x4015 + 32 * i) 3
abbrev K.LAST_INTERRUPT_KIND (i : Nat) : Nat := odKey (0x4015 + 32 * i) 4
abbrev K.ENABLE_COUNT (i : Nat) : Nat := odKey (0x4015 + 32 * i) 5
abbrev K.OPERATION_TIME (i : Nat) : Nat := odKey (0x4015 + 32 * i) 6
abbrev K.COUNTER_RESET_4015 (i : Nat) : Nat := odKey (0x4015 + 32 * i) 7
abbrev K.PORT_ENABLE_0 : Nat := odKey 0x6800 1
abbrev K.PORT_ENABLE_1 : Nat := odKey 0x6800 2
abbrev K.LINK_STATE_0 : Nat := odKey 0x6800 3
abbrev K.LINK_STATE_1 : Nat := odKey 0x6800 4
abbrev K.PHY_TX_LATENCY_0 : Nat := odKey 0x6800 5
abbrev K.PHY_RX_LATENCY_0 : Nat := odKey 0x6800 6
abbrev K.PHY_TX_LATENCY_1 : Nat := odKey 0x6800 7
abbrev K.PHY_RX_LATENCY_1 : Nat := odKey 0x6800 8
abbrev K.UPLINK_MAC : Nat := odKey 0x6800 9
abbrev K.MAC_AGE_TIME : Nat := odKey 0x6800 10
abbrev K.HEAD_VLAN : Nat := odKey 0x6800 11
abbrev K.IP_MODE : Nat := odKey 0x6801 1
abbrev K.STATIC_ADDRESS : Nat := odKey 0x6801 2
abbrev K.STATIC_MASK : Nat := odKey 0x6801 3
abbrev K.STATIC_GATEWAY : Nat := odKey 0x6801 4
abbrev K.TOA_UDP_PORT : Nat := odKey 0x6801 5
abbrev K.IP_ADDRESS : Nat := odKey 0x6801 6
abbrev K.IP_STATE : Nat := odKey 0x6801 7
abbrev K.PTP_ENABLE : Nat := odKey 0x6802 1
abbrev K.PTP_DOMAIN : Nat := odKey 0x6802 2
abbrev K.PTP_TRANSPORT : Nat := odKey 0x6802 3
abbrev K.TC_ENABLE : Nat := odKey 0x6802 4
abbrev K.LOCK_THRESHOLD : Nat := odKey 0x6802 5
abbrev K.DELAY_REQ_INTERVAL : Nat := odKey 0x6802 6
abbrev K.PTP_PORT_STATE : Nat := odKey 0x6802 7
abbrev K.PTP_OFFSET : Nat := odKey 0x6802 8
abbrev K.MEAN_PATH_DELAY : Nat := odKey 0x6802 9
abbrev K.MASTER_IDENTITY : Nat := odKey 0x6802 10
abbrev K.MASTER_PORT : Nat := odKey 0x6802 11
abbrev K.UTC_OFFSET : Nat := odKey 0x6802 12
abbrev K.TC_FRAMES : Nat := odKey 0x6802 13
abbrev K.TC_MAX_RESIDENCE : Nat := odKey 0x6802 14
abbrev K.RX_FRAMES_6803 (p : Nat) : Nat := odKey 0x6803 (1 + 4 * p)
abbrev K.TX_FRAMES_6803 (p : Nat) : Nat := odKey 0x6803 (2 + 4 * p)
abbrev K.RX_ERRORS (p : Nat) : Nat := odKey 0x6803 (3 + 4 * p)
abbrev K.DROPS (p : Nat) : Nat := odKey 0x6803 (4 + 4 * p)
abbrev K.COUNTER_RESET_6803 : Nat := odKey 0x6803 9
abbrev K.SESSIONS_MAX : Nat := odKey 0x6804 1
abbrev K.SESSION_IDLE : Nat := odKey 0x6804 2
abbrev K.NOTIFY_HOLDOFF : Nat := odKey 0x6804 3
abbrev K.SESSIONS_OPEN : Nat := odKey 0x6804 4
abbrev K.DUPLICATES : Nat := odKey 0x6804 5
abbrev K.BAD_MESSAGES : Nat := odKey 0x6804 6
abbrev K.HANDSHAKE_FAILS : Nat := odKey 0x6804 7
abbrev K.SESSION_STATE (j : Nat) : Nat := odKey 0x6805 (1 + j)
abbrev K.SESSION_ROLE (j : Nat) : Nat := odKey 0x6806 (1 + j)
abbrev K.SESSION_PEER (j : Nat) : Nat := odKey 0x6807 (1 + j)
abbrev K.SESSION_CLOSE (j : Nat) : Nat := odKey 0x6808 (1 + j)
abbrev K.CAN_MODE (i : Nat) : Nat := odKey (0x6A00 + 16 * i) 1
abbrev K.FD_ENABLE (i : Nat) : Nat := odKey (0x6A00 + 16 * i) 2
abbrev K.NBRP (i : Nat) : Nat := odKey (0x6A00 + 16 * i) 3
abbrev K.NTSEG1 (i : Nat) : Nat := odKey (0x6A00 + 16 * i) 4
abbrev K.NTSEG2 (i : Nat) : Nat := odKey (0x6A00 + 16 * i) 5
abbrev K.NSJW (i : Nat) : Nat := odKey (0x6A00 + 16 * i) 6
abbrev K.DBRP (i : Nat) : Nat := odKey (0x6A00 + 16 * i) 7
abbrev K.DTSEG1 (i : Nat) : Nat := odKey (0x6A00 + 16 * i) 8
abbrev K.DTSEG2 (i : Nat) : Nat := odKey (0x6A00 + 16 * i) 9
abbrev K.DSJW (i : Nat) : Nat := odKey (0x6A00 + 16 * i) 10
abbrev K.TDC_ENABLE (i : Nat) : Nat := odKey (0x6A00 + 16 * i) 11
abbrev K.TDC_OFFSET (i : Nat) : Nat := odKey (0x6A00 + 16 * i) 12
abbrev K.TDC_VALUE (i : Nat) : Nat := odKey (0x6A00 + 16 * i) 13
abbrev K.BUSOFF_AUTO (i : Nat) : Nat := odKey (0x6A00 + 16 * i) 14
abbrev K.RECOVER (i : Nat) : Nat := odKey (0x6A00 + 16 * i) 15
abbrev K.CAN_STATE (i : Nat) : Nat := odKey (0x6A00 + 16 * i) 16
abbrev K.TEC (i : Nat) : Nat := odKey (0x6A00 + 16 * i) 17
abbrev K.REC (i : Nat) : Nat := odKey (0x6A00 + 16 * i) 18
abbrev K.BUS_OFF_COUNT (i : Nat) : Nat := odKey (0x6A00 + 16 * i) 19
abbrev K.ERRORS_DETECTED (i : Nat) : Nat := odKey (0x6A00 + 16 * i) 20
abbrev K.LAST_ERROR (i : Nat) : Nat := odKey (0x6A00 + 16 * i) 21
abbrev K.CONFIG_FAULT (i : Nat) : Nat := odKey (0x6A00 + 16 * i) 22
abbrev K.FILTER_ID (i : Nat) (j : Nat) : Nat := odKey (0x6A01 + 16 * i) (1 + j)
abbrev K.FILTER_MASK (i : Nat) (j : Nat) : Nat := odKey (0x6A01 + 16 * i) (17 + j)
abbrev K.FILTER_ACTION (i : Nat) (j : Nat) : Nat := odKey (0x6A01 + 16 * i) (33 + j)
abbrev K.NO_MATCH (i : Nat) : Nat := odKey (0x6A01 + 16 * i) 49
abbrev K.TX_ORDER (i : Nat) : Nat := odKey (0x6A02 + 16 * i) 1
abbrev K.ONE_SHOT (i : Nat) (j : Nat) : Nat := odKey (0x6A02 + 16 * i) (2 + j)
abbrev K.TX_FRAME (i : Nat) : Nat := odKey (0x6A02 + 16 * i) 5
abbrev K.TX_CANCEL (i : Nat) : Nat := odKey (0x6A02 + 16 * i) 6
abbrev K.TX_STATUS_2 (i : Nat) : Nat := odKey (0x6A02 + 16 * i) 7
abbrev K.TX_STATUS_0_1 (i : Nat) : Nat := odKey (0x6A02 + 16 * i) 8
abbrev K.TX_FRAMES_6A02 (i : Nat) : Nat := odKey (0x6A02 + 16 * i) 9
abbrev K.TX_FAILED (i : Nat) : Nat := odKey (0x6A02 + 16 * i) 10
abbrev K.RX_FIFO_READ (i : Nat) : Nat := odKey (0x6A03 + 16 * i) 1
abbrev K.RX_FIFO_LEVEL (i : Nat) : Nat := odKey (0x6A03 + 16 * i) 2
abbrev K.HP_READ (i : Nat) : Nat := odKey (0x6A03 + 16 * i) 3
abbrev K.HP_FULL (i : Nat) : Nat := odKey (0x6A03 + 16 * i) 4
abbrev K.RX_FRAMES_6A03 (i : Nat) : Nat := odKey (0x6A03 + 16 * i) 5
abbrev K.FIFO_OVERRUNS_6A03 (i : Nat) : Nat := odKey (0x6A03 + 16 * i) 6
abbrev K.HP_OVERWRITES (i : Nat) : Nat := odKey (0x6A03 + 16 * i) 7
abbrev K.COUNTER_RESET_6A03 (i : Nat) : Nat := odKey (0x6A03 + 16 * i) 8
abbrev K.TOA_ENABLE (i : Nat) : Nat := odKey (0x6A04 + 16 * i) 1
abbrev K.TOA_ROLE (i : Nat) : Nat := odKey (0x6A04 + 16 * i) 2
abbrev K.TOA_FORMAT (i : Nat) : Nat := odKey (0x6A04 + 16 * i) 3
abbrev K.TOA_RX_ID (i : Nat) : Nat := odKey (0x6A04 + 16 * i) 4
abbrev K.TOA_TX_ID (i : Nat) : Nat := odKey (0x6A04 + 16 * i) 5
abbrev K.NOTIFY_ID (i : Nat) : Nat := odKey (0x6A04 + 16 * i) 6
abbrev K.TOA_PART_ERRORS (i : Nat) : Nat := odKey (0x6A04 + 16 * i) 7
abbrev K.START_SOURCE (i : Nat) : Nat := odKey (0x6C00 + i) 1
abbrev K.TIMER_PERIOD (i : Nat) : Nat := odKey (0x6C00 + i) 2
abbrev K.CYCLE_DELAY (i : Nat) : Nat := odKey (0x6C00 + i) 3
abbrev K.CYCLE_DIVIDER (i : Nat) : Nat := odKey (0x6C00 + i) 4
abbrev K.PTP_START (i : Nat) : Nat := odKey (0x6C00 + i) 5
abbrev K.PTP_PERIOD (i : Nat) : Nat := odKey (0x6C00 + i) 6
abbrev K.INJ_SOURCE (i : Nat) : Nat := odKey (0x6C00 + i) 7
abbrev K.INJ_CHANNEL (i : Nat) : Nat := odKey (0x6C00 + i) 8
abbrev K.INJ_REQUEST (i : Nat) : Nat := odKey (0x6C00 + i) 9
abbrev K.FIFO_MODE (i : Nat) : Nat := odKey (0x6C00 + i) 10
abbrev K.MOD_STATE (i : Nat) : Nat := odKey (0x6C00 + i) 11
abbrev K.SCAN_OVERRUNS (i : Nat) : Nat := odKey (0x6C00 + i) 12
abbrev K.INJ_DROPPED (i : Nat) : Nat := odKey (0x6C00 + i) 13
abbrev K.FIFO_LEVEL_6C00 (i : Nat) : Nat := odKey (0x6C00 + i) 14
abbrev K.FIFO_OVERRUNS_6C00 (i : Nat) : Nat := odKey (0x6C00 + i) 15
abbrev K.RESULT_READ (i : Nat) : Nat := odKey (0x6C00 + i) 16
abbrev K.SCAN_COUNT (i : Nat) : Nat := odKey (0x6C00 + i) 17
abbrev K.PTP_STARTS_SKIPPED (i : Nat) : Nat := odKey (0x6C00 + i) 18
abbrev K.WHEEL_IGNORED (i : Nat) : Nat := odKey (0x6C00 + i) 19
abbrev K.COUNTER_RESET_6C00 (i : Nat) : Nat := odKey (0x6C00 + i) 20
abbrev K.ADC_REFUSAL : Nat := odKey 0x6C02 1
abbrev K.CH_ENABLE (i : Nat) : Nat := odKey (0x6C10 + i) 1
abbrev K.MODULATOR (i : Nat) : Nat := odKey (0x6C10 + i) 2
abbrev K.AIN_POS (i : Nat) : Nat := odKey (0x6C10 + i) 3
abbrev K.AIN_NEG (i : Nat) : Nat := odKey (0x6C10 + i) 4
abbrev K.GAIN (i : Nat) : Nat := odKey (0x6C10 + i) 5
abbrev K.REFERENCE (i : Nat) : Nat := odKey (0x6C10 + i) 6
abbrev K.SINC_ORDER (i : Nat) : Nat := odKey (0x6C10 + i) 7
abbrev K.DECIMATION_6C10 (i : Nat) : Nat := odKey (0x6C10 + i) 8
abbrev K.FILTER_PRESET (i : Nat) : Nat := odKey (0x6C10 + i) 9
abbrev K.SAMPLES (i : Nat) : Nat := odKey (0x6C10 + i) 10
abbrev K.OW_CURRENT (i : Nat) : Nat := odKey (0x6C10 + i) 11
abbrev K.OW_DIRECTION (i : Nat) : Nat := odKey (0x6C10 + i) 12
abbrev K.OW_THRESHOLD (i : Nat) : Nat := odKey (0x6C10 + i) 13
abbrev K.SCALE (i : Nat) : Nat := odKey (0x6C10 + i) 14
abbrev K.OFFSET (i : Nat) : Nat := odKey (0x6C10 + i) 15
abbrev K.CH_CODE (i : Nat) : Nat := odKey (0x6C30 + i) 1
abbrev K.CH_VALUE (i : Nat) : Nat := odKey (0x6C30 + i) 2
abbrev K.CH_FLAGS (i : Nat) : Nat := odKey (0x6C30 + i) 3
abbrev K.CH_TIME (i : Nat) : Nat := odKey (0x6C30 + i) 4
abbrev K.OVR_COUNT (i : Nat) : Nat := odKey (0x6C30 + i) 5
abbrev K.OPEN_WIRE_COUNT (i : Nat) : Nat := odKey (0x6C30 + i) 6
abbrev K.COUNTER_RESET_6C30 (i : Nat) : Nat := odKey (0x6C30 + i) 7
abbrev K.ACQ_CONTROL : Nat := odKey 0x7000 1
abbrev K.ACQ_STATE : Nat := odKey 0x7000 2
abbrev K.ACQ_REFUSAL : Nat := odKey 0x7000 3
abbrev K.LENGTH : Nat := odKey 0x7000 4
abbrev K.PRETRIGGER : Nat := odKey 0x7000 5
abbrev K.DECIMATION_7000 : Nat := odKey 0x7000 6
abbrev K.REDUCTION : Nat := odKey 0x7000 7
abbrev K.MINMAX_INTERVAL : Nat := odKey 0x7000 8
abbrev K.TRIG_KIND : Nat := odKey 0x7000 9
abbrev K.TRIG_CHANNEL : Nat := odKey 0x7000 10
abbrev K.TRIG_LEVEL : Nat := odKey 0x7000 11
abbrev K.TRIG_HYST : Nat := odKey 0x7000 12
abbrev K.TRIG_REF : Nat := odKey 0x7000 13
abbrev K.AUTO_TIMEOUT : Nat := odKey 0x7000 14
abbrev K.TRIG_TIME : Nat := odKey 0x7000 15
abbrev K.TRIG_FLAGS : Nat := odKey 0x7000 16
abbrev K.PRE_ROWS : Nat := odKey 0x7000 17
abbrev K.ROW_BYTES : Nat := odKey 0x7000 18
abbrev K.DEPTH : Nat := odKey 0x7000 19
abbrev K.EARLY_TRIGGERS : Nat := odKey 0x7000 20
abbrev K.ACQ_READ_ROW : Nat := odKey 0x7000 21
abbrev K.ACQ_READ : Nat := odKey 0x7000 22
abbrev K.CASCADE_LATENCY : Nat := odKey 0x7000 23
abbrev K.TRIG_IO_MODE (j : Nat) : Nat := odKey 0x7001 (1 + j)
abbrev K.TRIG_IN_DELAY (j : Nat) : Nat := odKey 0x7001 (5 + j)
abbrev K.SOURCE_KIND (i : Nat) : Nat := odKey (0x7010 + i) 1
abbrev K.SOURCE_REF (i : Nat) : Nat := odKey (0x7010 + i) 2
abbrev K.SIGNAL (i : Nat) : Nat := odKey (0x7010 + i) 3
abbrev K.CH_FP (i : Nat) : Nat := odKey (0x7010 + i) 4
abbrev K.CH_SHIFT (i : Nat) : Nat := odKey (0x7010 + i) 5
abbrev K.CH_EXP (i : Nat) : Nat := odKey (0x7010 + i) 6
abbrev K.SAT_SAMPLES (i : Nat) : Nat := odKey (0x7010 + i) 7
abbrev K.TRACE_NODES (i : Nat) : Nat := odKey (0x4014 + 32 * i) 1
abbrev K.TRACE_SIGNAL (i : Nat) (j : Nat) : Nat := odKey (0x4014 + 32 * i) (2 + j)
abbrev K.TRACE_DIV (i : Nat) : Nat := odKey (0x4014 + 32 * i) 10
abbrev K.POST_FAULT_ROWS (i : Nat) : Nat := odKey (0x4014 + 32 * i) 11
abbrev K.FREEZE_ON (i : Nat) : Nat := odKey (0x4014 + 32 * i) 12
abbrev K.TRACE_STATE (i : Nat) : Nat := odKey (0x4014 + 32 * i) 13
abbrev K.TRACE_CONTROL (i : Nat) : Nat := odKey (0x4014 + 32 * i) 14
abbrev K.FREEZE_CAUSE (i : Nat) : Nat := odKey (0x4014 + 32 * i) 15
abbrev K.FREEZE_CYCLE (i : Nat) : Nat := odKey (0x4014 + 32 * i) 16
abbrev K.TRACE_OLDEST (i : Nat) : Nat := odKey (0x4014 + 32 * i) 17
abbrev K.TRACE_DEPTH (i : Nat) : Nat := odKey (0x4014 + 32 * i) 18
abbrev K.TRACE_BUFFER (i : Nat) (j : Nat) : Nat := odKey (0x4014 + 32 * i) (19 + j)
abbrev K.FREEZE_ALL : Nat := odKey 0x7400 1
abbrev K.RELEASE_ALL : Nat := odKey 0x7400 2
abbrev K.TRACES_FROZEN : Nat := odKey 0x7400 3
abbrev K.COUNTER_CONTROL : Nat := odKey 0x7600 1
abbrev K.COUNTERS_RUNNING : Nat := odKey 0x7600 2
abbrev K.SESSION_COUNTER_GRANT : Nat := odKey 0x7600 3
abbrev K.FP_COUNTER_GRANT : Nat := odKey 0x7600 4
abbrev K.WINDOW_LENGTH : Nat := odKey 0x7600 5
abbrev K.WINDOW_COUNT : Nat := odKey 0x7600 6
abbrev K.COUNTER_EVENT (j : Nat) : Nat := odKey 0x7601 (1 + j)
abbrev K.COUNTER_SELECT (j : Nat) : Nat := odKey 0x7602 (1 + j)
abbrev K.CHAIN (j : Nat) : Nat := odKey 0x7603 (1 + j)
abbrev K.COUNTER_VALUE (j : Nat) : Nat := odKey 0x7604 (1 + j)
abbrev K.COUNTER64 (j : Nat) : Nat := odKey 0x7605 (1 + j)
abbrev K.OVERFLOW_FLAGS (j : Nat) : Nat := odKey 0x7606 (1 + j)
abbrev K.RX_BYTES_WINDOW (j : Nat) : Nat := odKey 0x7610 (1 + j)
abbrev K.TX_BYTES_WINDOW (j : Nat) : Nat := odKey 0x7611 (1 + j)
abbrev K.RX_UTIL (j : Nat) : Nat := odKey 0x7612 (1 + j)
abbrev K.TX_UTIL (j : Nat) : Nat := odKey 0x7613 (1 + j)
abbrev K.PEAK_UTIL (j : Nat) : Nat := odKey 0x7614 (1 + j)
abbrev K.LH_STATE : Nat := odKey 0x6000 1
abbrev K.LH_FAULT_CAUSE : Nat := odKey 0x6000 2
abbrev K.SAFETY_SIG_ACTIVE : Nat := odKey 0x6000 3
abbrev K.SAFETY_SIG_PENDING : Nat := odKey 0x6000 4
abbrev K.SAFETY_SIG_ACK : Nat := odKey 0x6000 5
abbrev K.SAFETY_PENDING : Nat := odKey 0x6000 6
abbrev K.SAFETY_DISCARD : Nat := odKey 0x6000 7
abbrev K.PASSWORD_NEW : Nat := odKey 0x6000 8
abbrev K.PASSWORD_STATE : Nat := odKey 0x6000 9
abbrev K.SAFETY_CLEAR : Nat := odKey 0x6000 10
abbrev K.DEGRADED_TIME : Nat := odKey 0x6000 11
abbrev K.SC_LOSS_TIME : Nat := odKey 0x6000 12
abbrev K.XCHK_MISS_MAX : Nat := odKey 0x6000 13
abbrev K.SAFETY_RESET : Nat := odKey 0x6000 14
abbrev K.PEER_SIG : Nat := odKey 0x6000 15
abbrev K.ACTIVATIONS : Nat := odKey 0x6000 16
abbrev K.DEGRADED_STATE : Nat := odKey 0x6001 1
abbrev K.DEGRADED_CAUSE : Nat := odKey 0x6001 2
abbrev K.DEGRADED_REF : Nat := odKey 0x6001 3
abbrev K.DEGRADED_REMAIN : Nat := odKey 0x6001 4
abbrev K.SAFETY_ACK : Nat := odKey 0x6001 5
abbrev K.SI_MODE (i : Nat) : Nat := odKey (0x6010 + i) 1
abbrev K.SI_FILTER (i : Nat) : Nat := odKey (0x6010 + i) 2
abbrev K.SI_DISCREPANCY (i : Nat) : Nat := odKey (0x6010 + i) 3
abbrev K.SI_TEST_PULSE (i : Nat) : Nat := odKey (0x6010 + i) 4
abbrev K.SI_FUNCTION (i : Nat) : Nat := odKey (0x6010 + i) 5
abbrev K.SI_GROUPS (i : Nat) : Nat := odKey (0x6010 + i) 6
abbrev K.SI_STATE (i : Nat) : Nat := odKey (0x6020 + i) 1
abbrev K.SI_FAULT (i : Nat) : Nat := odKey (0x6020 + i) 2
abbrev K.SI_RAW (i : Nat) : Nat := odKey (0x6020 + i) 3
abbrev K.GROUP_AXES (i : Nat) (j : Nat) : Nat := odKey (0x6040 + i) (1 + j)
abbrev K.SS1_MODE (i : Nat) : Nat := odKey (0x6040 + i) 5
abbrev K.SS1_TIME (i : Nat) : Nat := odKey (0x6040 + i) 6
abbrev K.SS1_DELAY (i : Nat) : Nat := odKey (0x6040 + i) 7
abbrev K.SS1_DECEL (i : Nat) : Nat := odKey (0x6040 + i) 8
abbrev K.SS1_TOLERANCE (i : Nat) : Nat := odKey (0x6040 + i) 9
abbrev K.SS1_STANDSTILL (i : Nat) : Nat := odKey (0x6040 + i) 10
abbrev K.SLS_LIMIT (i : Nat) : Nat := odKey (0x6040 + i) 11
abbrev K.SLS_RAMP_TIME (i : Nat) : Nat := odKey (0x6040 + i) 12
abbrev K.SLS_REACTION (i : Nat) : Nat := odKey (0x6040 + i) 13
abbrev K.RESTART_MODE (i : Nat) : Nat := odKey (0x6040 + i) 14
abbrev K.GROUP_DEMAND (i : Nat) : Nat := odKey (0x6048 + i) 1
abbrev K.SO_SOURCE (i : Nat) : Nat := odKey (0x6050 + i) 1
abbrev K.SO_REF (i : Nat) : Nat := odKey (0x6050 + i) 2
abbrev K.SO_TEST_PULSE (i : Nat) : Nat := odKey (0x6050 + i) 3
abbrev K.SO_PULSE_WIDTH (i : Nat) : Nat := odKey (0x6050 + i) 4
abbrev K.SO_STATE (i : Nat) : Nat := odKey (0x6058 + i) 1
abbrev K.SO_FAULT (i : Nat) : Nat := odKey (0x6058 + i) 2
abbrev K.SBC_ENABLE (i : Nat) : Nat := odKey (0x6100 + i) 1
abbrev K.SBC_DELAY (i : Nat) : Nat := odKey (0x6100 + i) 2
abbrev K.XCHK_TOL (i : Nat) : Nat := odKey (0x6100 + i) 3
abbrev K.XCHK_CYCLES (i : Nat) : Nat := odKey (0x6100 + i) 4
abbrev K.AXIS_SAFETY_STATE (i : Nat) : Nat := odKey (0x6200 + i) 1
abbrev K.STO_CAUSE (i : Nat) : Nat := odKey (0x6200 + i) 2
abbrev K.SAFE_SPEED_R8 (i : Nat) : Nat := odKey (0x6200 + i) 3
abbrev K.XCHK_DEVIATION (i : Nat) : Nat := odKey (0x6200 + i) 4
abbrev K.CLEAR : Nat := odKey 0x7800 1
abbrev K.NEXT_SEQ : Nat := odKey 0x7800 2
abbrev K.OLDEST_SEQ : Nat := odKey 0x7800 3
abbrev K.FIRST_VALID_SEQ : Nat := odKey 0x7800 4
abbrev K.FIFO_LEVEL_7800 : Nat := odKey 0x7800 5
abbrev K.FIFO_PEAK : Nat := odKey 0x7800 6
abbrev K.INSTANCES_LOST : Nat := odKey 0x7800 7
abbrev K.OVERFLOW_RECORDS : Nat := odKey 0x7800 8
abbrev K.CLEARS : Nat := odKey 0x7800 9
abbrev K.RUN_TIME_NOW : Nat := odKey 0x7800 10
abbrev K.READ_SEQ (j : Nat) : Nat := odKey 0x7801 (1 + j)
abbrev K.RECORD_READ (j : Nat) : Nat := odKey 0x7802 (1 + j)
abbrev K.RATE (j : Nat) : Nat := odKey 0x7810 (0 + j)
abbrev K.BURST (j : Nat) : Nat := odKey 0x7811 (0 + j)
abbrev K.SUPPRESSED_COUNT (j : Nat) : Nat := odKey 0x7812 (0 + j)
abbrev K.POWER_CMD : Nat := odKey 0x1200 1
abbrev K.POWER_STATE : Nat := odKey 0x1200 2
abbrev K.IN_TRANSITION : Nat := odKey 0x1200 3
abbrev K.CLUSTER_SELECT : Nat := odKey 0x1200 4
abbrev K.ACQ_SELECT : Nat := odKey 0x1200 5
abbrev K.POWER_REFUSAL : Nat := odKey 0x1200 6
abbrev K.TJ_NOW : Nat := odKey 0x1200 7
abbrev K.TJ_PEAK : Nat := odKey 0x1200 8
abbrev K.THERMAL_WARN : Nat := odKey 0x1200 9
abbrev K.TRIP_LATCHED : Nat := odKey 0x1200 10
abbrev K.TRIP_CLEAR : Nat := odKey 0x1200 11
abbrev K.TRIPS : Nat := odKey 0x1200 12
abbrev K.DOMAIN_STATE (j : Nat) : Nat := odKey 0x1201 (1 + j)
abbrev K.REVERT_HOLD : Nat := odKey 0x1280 1
abbrev K.FORCE_STATE : Nat := odKey 0x1280 2
abbrev K.NO_HEALTHY_FEED : Nat := odKey 0x1280 3
abbrev K.SWITCHES : Nat := odKey 0x1280 4
abbrev K.REVERTS : Nat := odKey 0x1280 5
abbrev K.LAST_SWITCH_TIME : Nat := odKey 0x1280 6
abbrev K.COUNTER_RESET_1280 : Nat := odKey 0x1280 7
abbrev K.FEED_A_STATUS (j : Nat) : Nat := odKey 0x1281 (1 + j)
abbrev K.FEED_B_STATUS (j : Nat) : Nat := odKey 0x1282 (1 + j)
abbrev K.FEED_A_VOLTAGE (j : Nat) : Nat := odKey 0x1283 (1 + j)
abbrev K.FEED_B_VOLTAGE (j : Nat) : Nat := odKey 0x1284 (1 + j)
abbrev K.DOMAIN_FEED (j : Nat) : Nat := odKey 0x1285 (1 + j)
abbrev K.PREFERRED_FEED (j : Nat) : Nat := odKey 0x1286 (2 + j)
abbrev K.PLL_LOCKED : Nat := odKey 0x1300 1
abbrev K.RESET_CAUSE : Nat := odKey 0x1300 2
abbrev K.RESET_CAUSE_BITS : Nat := odKey 0x1300 3
abbrev K.RESET_CMD : Nat := odKey 0x1300 4
abbrev K.WALL_TIME : Nat := odKey 0x1300 5
abbrev K.WALL_VALID : Nat := odKey 0x1300 6
abbrev K.WALL_TIME_SET : Nat := odKey 0x1300 7
abbrev K.RESET_COUNT (j : Nat) : Nat := odKey 0x1301 (1 + j)
abbrev K.BOOT_SLOT : Nat := odKey 0x1400 1
abbrev K.BOOT_PREFER : Nat := odKey 0x1400 2
abbrev K.FUSED_SV : Nat := odKey 0x1400 3
abbrev K.ROLLBACK_ADVANCE : Nat := odKey 0x1400 4
abbrev K.SLOT_STATUS (j : Nat) : Nat := odKey 0x1400 (5 + j)
abbrev K.SLOT_VERSION (j : Nat) : Nat := odKey 0x1400 (7 + j)
abbrev K.KEY_REVOKED : Nat := odKey 0x1400 9
abbrev K.KEY_REVOKE : Nat := odKey 0x1400 10
abbrev K.FLASH_MODE : Nat := odKey 0x1400 11
abbrev K.BOOT_TIME : Nat := odKey 0x1400 12
abbrev K.FW_UPDATE_CONTROL : Nat := odKey 0x1401 1
abbrev K.FW_UPDATE_DATA : Nat := odKey 0x1401 2
abbrev K.FW_UPDATE_STATE : Nat := odKey 0x1401 3
abbrev K.FW_UPDATE_RESULT : Nat := odKey 0x1401 4
abbrev K.RECEIVED : Nat := odKey 0x1401 5
abbrev K.DEVICE_CERT : Nat := odKey 0x1402 1
abbrev K.TRUST_ANCHOR (j : Nat) : Nat := odKey 0x1402 (2 + j)
abbrev K.TIME_UNCHECKED : Nat := odKey 0x1402 6
abbrev K.COMMISSIONING : Nat := odKey 0x1402 7
abbrev K.DEBUG_STATE : Nat := odKey 0x1403 1
abbrev K.DEBUG_LOCK : Nat := odKey 0x1403 2
abbrev K.JTAG_IDCODE : Nat := odKey 0x1403 3
abbrev K.PLAN_INTERVAL : Nat := odKey 0x1600 1
abbrev K.PLAN_COMPUTE : Nat := odKey 0x1600 2
abbrev K.PLAN_STATE : Nat := odKey 0x1600 3
abbrev K.PLAN_NUMBER : Nat := odKey 0x1600 4
abbrev K.PLAN_ACCEPT : Nat := odKey 0x1600 5
abbrev K.PLAN_REJECT : Nat := odKey 0x1600 6
abbrev K.AUTO_ACCEPT : Nat := odKey 0x1600 7
abbrev K.TRIM_PROPOSED : Nat := odKey 0x1600 8
abbrev K.TRIM_ACTIVE : Nat := odKey 0x1600 9
abbrev K.CLOCK_PROPOSED : Nat := odKey 0x1600 10
abbrev K.CLOCK_ACTIVE : Nat := odKey 0x1600 11
abbrev K.HEADROOM : Nat := odKey 0x1600 12
abbrev K.REF_DRIFT : Nat := odKey 0x1600 13
abbrev K.ALARM_CAUSES : Nat := odKey 0x1600 14
abbrev K.DEGRADATION (j : Nat) : Nat := odKey 0x1601 (1 + j)
abbrev K.EYE_OPENING (j : Nat) : Nat := odKey 0x1602 (1 + j)
abbrev K.EQ_PRESET (j : Nat) : Nat := odKey 0x1603 (1 + j)
abbrev K.SPARES_USED : Nat := odKey 0x1604 1
abbrev K.WORST_ROW_WEAR : Nat := odKey 0x1604 2
abbrev K.SPARES_PROPOSED : Nat := odKey 0x1604 3
/-- A point of the point window (R290). -/
abbrev K.POINT (p : Nat) : Nat := 0x800000 + p

end Sys2Proof.Machine
end

