-- ==== Sys2Proof/Machine/OdTypes.lean ====
section
/-! DEFINITION. The shape of an object table (R16): types, access, ranges, roles and the set an entry belongs to. -/

namespace Sys2Proof.Machine

/-- Data types of entries (R324). -/
inductive OdType where
  | bool
  | u (bits : Nat)
  | i (bits : Nat)
  | real32
  | octet (max : Nat)
  | vstring (max : Nat)
  deriving DecidableEq, Repr

/-- Access of an entry (R16). -/
inductive OdAccess where
  | ro | rw | wo
  deriving DecidableEq, Repr

/-- Ranges that depend on the value of other entries or have a form of their own. -/
inductive SpecialRange where
  | slotRole | minislotOwner | markOffset | markControl | syncIslandMask
  | posDiv | lead | withinImax | realNonneg | realPos | realNonzero | loadedProgram
  | overspeed | softMin | softMax | upToImax | upToIrun | upToVelMax | upToSearchVel | fastBitInput
  | upToSegAlloc | withinVelMax | nonzero | masterRef | mapRun | contiguousMask
  | acqLength | acqPretrigger | trigRef | acqReadRow | sourceRef | postFaultRows | counterSelect
  | soRef | recorderRate | recorderBurst | fusedSvTo64
  deriving DecidableEq, Repr

/-- The Range column (R16). Bounds of REAL32 entries are the binary32 values nearest to the printed bounds. -/
inductive OdRange where
  | any
  | between (lo hi : Int)
  | stepped (lo hi st : Int)
  | oneOf (l : List Int)
  | orNone (lo hi none : Int)
  | real (lo hi : Rat)
  | special (r : SpecialRange)
  deriving DecidableEq, Repr

/-- The set of values an entry belongs to: in force as soon as written (`live`), the configuration image (R330),
the schedule (R58) or the safety parameters (R447). -/
inductive OdClass where
  | live | config | sched | safety
  deriving DecidableEq, Repr

/-- One row of an object table: `count` indices from `base` in steps of `stride`, `n` subindices from `lo`. -/
structure OdRow where
  base : Nat
  count : Nat
  stride : Nat
  lo : Nat
  n : Nat
  ty : OdType
  access : OdAccess
  dflt : Int
  range : OdRange
  stored : Bool
  writeRole : Nat
  readRole : Nat
  cls : OdClass
  deriving DecidableEq, Repr

/-- The row lists an index (R322). -/
def OdRow.hasIndex (r : OdRow) (index : Nat) : Bool :=
  Nat.ble r.base index && Nat.ble index (r.base + r.stride * (r.count - 1)) && Nat.beq ((index - r.base) % r.stride) 0

/-- The row lists an entry (R322). -/
def OdRow.has (r : OdRow) (key : Nat) : Bool :=
  r.hasIndex (key / 256) && Nat.ble r.lo (key % 256) && Nat.blt (key % 256) (r.lo + r.n)

/-- The row carries octets or text rather than a number. -/
def OdRow.isBytes (r : OdRow) : Bool :=
  match r.ty with
  | .octet _ => true
  | .vstring _ => true
  | _ => false

/-- Length in bytes of a value of a numeric type (R324). -/
def OdType.size : OdType → Nat
  | .bool => 1
  | .u b => b / 8
  | .i b => b / 8
  | .real32 => 4
  | .octet n => n
  | .vstring n => n

end Sys2Proof.Machine
end

