-- ==== Sys2Proof/Machine/OdTable.lean ====
section
/-! DEFINITION. The object dictionary's tables (R16, R194, R322 and every object table of spec/), one row per entry
or family of entries, by chapter: index base, count and stride; first subindex and number of subindices; type; access;
default; range; stored; write role; read role; and the set it belongs to (R330, R58, R447). -/

namespace Sys2Proof.Machine

/-- Object rows from index 0x1000 (R338). -/
def odRows1000_1 : List OdRow := [
  ⟨0x1000, 1, 1, 1, 1, (.u 32), .ro, 1330659909, .any, false, 0, 0, .live⟩,  -- VENDOR_ID
  ⟨0x1000, 1, 1, 2, 1, (.u 32), .ro, 16680, .any, false, 0, 0, .live⟩,  -- PRODUCT_CODE
  ⟨0x1000, 1, 1, 3, 1, (.vstring 16), .ro, 0, .any, false, 0, 0, .live⟩,  -- ORDERING_CODE
  ⟨0x1000, 1, 1, 4, 1, (.u 16), .ro, 0, .any, false, 0, 0, .live⟩,  -- SILICON_REV
  ⟨0x1000, 1, 1, 5, 1, (.u 32), .ro, 0, .any, false, 0, 0, .live⟩,  -- FIRMWARE_VERSION
  ⟨0x1000, 1, 1, 6, 1, (.u 64), .ro, 0, .any, false, 0, 0, .live⟩,  -- SERIAL_NUMBER
  ⟨0x1000, 1, 1, 7, 1, (.u 16), .ro, 1, .any, false, 0, 0, .live⟩,  -- OD_VERSION
  ⟨0x1000, 1, 1, 8, 1, (.vstring 32), .rw, 0, .any, true, 2, 0, .live⟩,  -- DEVICE_NAME
  ⟨0x1000, 1, 1, 9, 1, (.vstring 32), .rw, 0, .any, true, 2, 0, .live⟩,  -- LOCATION
  ⟨0x1000, 1, 1, 10, 1, (.u 32), .ro, 0, .any, false, 0, 0, .live⟩]  -- UPTIME

/-- Object rows from index 0x1100 (R337). -/
def odRows1100_1 : List OdRow := [
  ⟨0x1100, 1, 1, 1, 1, (.u 32), .ro, 0, .any, false, 0, 0, .live⟩,  -- SRAM_CORRECTED
  ⟨0x1100, 1, 1, 2, 1, (.u 32), .ro, 0, .any, false, 0, 0, .live⟩,  -- SRAM_UNCORRECTABLE
  ⟨0x1100, 1, 1, 3, 1, (.u 32), .ro, 0, .any, false, 0, 0, .live⟩,  -- LAST_ECC_ADDRESS
  ⟨0x1100, 1, 1, 4, 1, (.u 8), .ro, 0, .any, false, 0, 0, .live⟩,  -- LAST_ECC_KIND
  ⟨0x1100, 1, 1, 5, 1, (.u 16), .rw, 1000, (.between 100 60000), true, 2, 0, .live⟩,  -- SCRUB_PERIOD
  ⟨0x1100, 1, 1, 6, 1, (.u 8), .wo, 0, (.oneOf [1]), false, 1, 0, .live⟩]  -- COUNTER_RESET

/-- Object rows from index 0x1200 (R477). -/
def odRows1200_1 : List OdRow := [
  ⟨0x1200, 1, 1, 1, 1, (.u 8), .wo, 0, (.oneOf [0, 1, 2]), false, 2, 0, .live⟩,  -- POWER_CMD
  ⟨0x1200, 1, 1, 2, 1, (.u 8), .ro, 0, .any, false, 0, 0, .live⟩,  -- POWER_STATE
  ⟨0x1200, 1, 1, 3, 1, .bool, .ro, 0, .any, false, 0, 0, .live⟩,  -- IN_TRANSITION
  ⟨0x1200, 1, 1, 4, 1, (.u 8), .rw, 255, (.between 0 255), true, 2, 0, .live⟩,  -- CLUSTER_SELECT
  ⟨0x1200, 1, 1, 5, 1, .bool, .rw, 1, (.between 0 1), true, 2, 0, .live⟩,  -- ACQ_SELECT
  ⟨0x1200, 1, 1, 6, 1, (.u 8), .ro, 0, .any, false, 0, 0, .live⟩,  -- POWER_REFUSAL
  ⟨0x1200, 1, 1, 7, 1, (.i 16), .ro, 0, .any, false, 0, 0, .live⟩,  -- TJ_NOW
  ⟨0x1200, 1, 1, 8, 1, (.i 16), .ro, 0, .any, false, 0, 0, .live⟩,  -- TJ_PEAK
  ⟨0x1200, 1, 1, 9, 1, (.u 16), .rw, 1250, (.between 1000 1350), true, 2, 0, .live⟩,  -- THERMAL_WARN
  ⟨0x1200, 1, 1, 10, 1, .bool, .ro, 0, .any, false, 0, 0, .live⟩,  -- TRIP_LATCHED
  ⟨0x1200, 1, 1, 11, 1, (.u 8), .wo, 0, (.oneOf [1]), false, 2, 0, .live⟩,  -- TRIP_CLEAR
  ⟨0x1200, 1, 1, 12, 1, (.u 32), .ro, 0, .any, false, 0, 0, .live⟩]  -- TRIPS

/-- Object rows from index 0x1201 (R477, R478). -/
def odRows1201_1 : List OdRow := [
  ⟨0x1201, 1, 1, 1, 16, (.u 8), .ro, 0, .any, false, 0, 0, .live⟩,  -- DOMAIN_STATE
  ⟨0x1280, 1, 1, 1, 1, (.u 16), .rw, 30, (.between 1 3600), true, 2, 0, .live⟩,  -- REVERT_HOLD
  ⟨0x1280, 1, 1, 2, 1, (.u 8), .ro, 0, .any, false, 0, 0, .live⟩,  -- FORCE_STATE
  ⟨0x1280, 1, 1, 3, 1, (.u 16), .ro, 0, .any, false, 0, 0, .live⟩,  -- NO_HEALTHY_FEED
  ⟨0x1280, 1, 1, 4, 1, (.u 32), .ro, 0, .any, false, 0, 0, .live⟩,  -- SWITCHES
  ⟨0x1280, 1, 1, 5, 1, (.u 32), .ro, 0, .any, false, 0, 0, .live⟩,  -- REVERTS
  ⟨0x1280, 1, 1, 6, 1, (.u 64), .ro, 0, .any, false, 0, 0, .live⟩,  -- LAST_SWITCH_TIME
  ⟨0x1280, 1, 1, 7, 1, (.u 8), .wo, 0, (.oneOf [1]), false, 1, 0, .live⟩,  -- COUNTER_RESET
  ⟨0x1281, 1, 1, 1, 6, (.u 8), .ro, 0, .any, false, 0, 0, .live⟩,  -- FEED_A_STATUS
  ⟨0x1282, 1, 1, 1, 6, (.u 8), .ro, 0, .any, false, 0, 0, .live⟩,  -- FEED_B_STATUS
  ⟨0x1283, 1, 1, 1, 6, (.u 16), .ro, 0, .any, false, 0, 0, .live⟩,  -- FEED_A_VOLTAGE
  ⟨0x1284, 1, 1, 1, 6, (.u 16), .ro, 0, .any, false, 0, 0, .live⟩]  -- FEED_B_VOLTAGE

/-- Object rows from index 0x1285 (R478). -/
def odRows1285_1 : List OdRow := [
  ⟨0x1285, 1, 1, 1, 16, (.u 8), .ro, 0, .any, false, 0, 0, .live⟩,  -- DOMAIN_FEED
  ⟨0x1286, 1, 1, 2, 15, (.u 8), .rw, 0, (.oneOf [0, 1]), true, 2, 0, .live⟩]  -- PREFERRED_FEED

/-- Object rows from index 0x1300 (R498). -/
def odRows1300_1 : List OdRow := [
  ⟨0x1300, 1, 1, 1, 1, (.u 8), .ro, 63, .any, false, 0, 0, .live⟩,  -- PLL_LOCKED
  ⟨0x1300, 1, 1, 2, 1, (.u 8), .ro, 1, .any, false, 0, 0, .live⟩,  -- RESET_CAUSE
  ⟨0x1300, 1, 1, 3, 1, (.u 16), .ro, 2, .any, false, 0, 0, .live⟩,  -- RESET_CAUSE_BITS
  ⟨0x1300, 1, 1, 4, 1, (.u 32), .wo, 0, (.oneOf [1381192736]), false, 4, 0, .live⟩,  -- RESET_CMD
  ⟨0x1300, 1, 1, 5, 1, (.u 64), .ro, 0, .any, false, 0, 0, .live⟩,  -- WALL_TIME
  ⟨0x1300, 1, 1, 6, 1, .bool, .ro, 0, .any, false, 0, 0, .live⟩,  -- WALL_VALID
  ⟨0x1300, 1, 1, 7, 1, (.u 64), .wo, 0, .any, false, 4, 0, .live⟩,  -- WALL_TIME_SET
  ⟨0x1301, 1, 1, 1, 9, (.u 32), .ro, 0, .any, false, 0, 0, .live⟩]  -- RESET_COUNT

/-- Object rows from index 0x1400 (R498). -/
def odRows1400_1 : List OdRow := [
  ⟨0x1400, 1, 1, 1, 1, (.u 8), .ro, 0, .any, false, 0, 0, .live⟩,  -- BOOT_SLOT
  ⟨0x1400, 1, 1, 2, 1, (.u 8), .rw, 0, (.between 0 1), false, 4, 0, .live⟩,  -- BOOT_PREFER
  ⟨0x1400, 1, 1, 3, 1, (.u 8), .ro, 0, .any, false, 0, 0, .live⟩,  -- FUSED_SV
  ⟨0x1400, 1, 1, 4, 1, (.u 8), .wo, 0, (.special .fusedSvTo64), false, 4, 0, .live⟩,  -- ROLLBACK_ADVANCE
  ⟨0x1400, 1, 1, 5, 2, (.u 8), .ro, 0, .any, false, 0, 0, .live⟩,  -- SLOT_STATUS
  ⟨0x1400, 1, 1, 7, 2, (.u 32), .ro, 0, .any, false, 0, 0, .live⟩,  -- SLOT_VERSION
  ⟨0x1400, 1, 1, 9, 1, (.u 8), .ro, 0, .any, false, 0, 0, .live⟩,  -- KEY_REVOKED
  ⟨0x1400, 1, 1, 10, 1, (.u 8), .wo, 0, (.between 0 15), false, 4, 0, .live⟩,  -- KEY_REVOKE
  ⟨0x1400, 1, 1, 11, 1, (.u 8), .ro, 0, .any, false, 0, 0, .live⟩,  -- FLASH_MODE
  ⟨0x1400, 1, 1, 12, 1, (.u 32), .ro, 0, .any, false, 0, 0, .live⟩,  -- BOOT_TIME
  ⟨0x1401, 1, 1, 1, 1, (.u 8), .wo, 0, (.oneOf [1, 2, 3]), false, 4, 0, .live⟩,  -- FW_UPDATE_CONTROL
  ⟨0x1401, 1, 1, 2, 1, (.octet 4100), .wo, 0, .any, false, 4, 0, .live⟩,  -- FW_UPDATE_DATA
  ⟨0x1401, 1, 1, 3, 1, (.u 8), .ro, 0, .any, false, 0, 0, .live⟩,  -- FW_UPDATE_STATE
  ⟨0x1401, 1, 1, 4, 1, (.u 8), .ro, 0, .any, false, 0, 0, .live⟩,  -- FW_UPDATE_RESULT
  ⟨0x1401, 1, 1, 5, 1, (.u 32), .ro, 0, .any, false, 0, 0, .live⟩]  -- RECEIVED

/-- Object rows from index 0x1402 (R498). -/
def odRows1402_1 : List OdRow := [
  ⟨0x1402, 1, 1, 1, 1, (.octet 1024), .ro, 0, .any, false, 0, 0, .live⟩,  -- DEVICE_CERT
  ⟨0x1402, 1, 1, 2, 4, (.octet 1024), .rw, 0, .any, true, 4, 0, .live⟩,  -- TRUST_ANCHOR
  ⟨0x1402, 1, 1, 6, 1, (.u 32), .ro, 0, .any, false, 0, 0, .live⟩,  -- TIME_UNCHECKED
  ⟨0x1402, 1, 1, 7, 1, .bool, .ro, 1, .any, false, 0, 0, .live⟩,  -- COMMISSIONING
  ⟨0x1403, 1, 1, 1, 1, (.u 8), .ro, 0, .any, false, 0, 0, .live⟩,  -- DEBUG_STATE
  ⟨0x1403, 1, 1, 2, 1, (.u 32), .wo, 0, (.oneOf [1280262987]), false, 4, 0, .live⟩,  -- DEBUG_LOCK
  ⟨0x1403, 1, 1, 3, 1, (.u 32), .ro, 68322671, .any, false, 0, 0, .live⟩]  -- JTAG_IDCODE

/-- Object rows from index 0x1600 (R505). -/
def odRows1600_1 : List OdRow := [
  ⟨0x1600, 1, 1, 1, 1, (.u 16), .rw, 7, (.between 1 365), true, 2, 0, .live⟩,  -- PLAN_INTERVAL
  ⟨0x1600, 1, 1, 2, 1, (.u 8), .wo, 0, (.oneOf [1]), false, 2, 0, .live⟩,  -- PLAN_COMPUTE
  ⟨0x1600, 1, 1, 3, 1, (.u 8), .ro, 0, .any, false, 0, 0, .live⟩,  -- PLAN_STATE
  ⟨0x1600, 1, 1, 4, 1, (.u 32), .ro, 0, .any, false, 0, 0, .live⟩,  -- PLAN_NUMBER
  ⟨0x1600, 1, 1, 5, 1, (.u 32), .wo, 0, .any, false, 2, 0, .live⟩,  -- PLAN_ACCEPT
  ⟨0x1600, 1, 1, 6, 1, (.u 8), .wo, 0, (.oneOf [1]), false, 2, 0, .live⟩,  -- PLAN_REJECT
  ⟨0x1600, 1, 1, 7, 1, .bool, .rw, 0, (.between 0 1), true, 4, 0, .live⟩,  -- AUTO_ACCEPT
  ⟨0x1600, 1, 1, 8, 1, (.u 8), .ro, 0, .any, false, 0, 0, .live⟩,  -- TRIM_PROPOSED
  ⟨0x1600, 1, 1, 9, 1, (.u 8), .ro, 0, .any, false, 0, 0, .live⟩,  -- TRIM_PROPOSED
  ⟨0x1600, 1, 1, 10, 1, (.u 16), .ro, 1000, .any, false, 0, 0, .live⟩,  -- CLOCK_PROPOSED
  ⟨0x1600, 1, 1, 11, 1, (.u 16), .ro, 1000, .any, false, 0, 0, .live⟩,  -- CLOCK_PROPOSED
  ⟨0x1600, 1, 1, 12, 1, (.i 32), .ro, 0, .any, false, 0, 0, .live⟩,  -- HEADROOM
  ⟨0x1600, 1, 1, 13, 1, (.i 32), .ro, 0, .any, false, 0, 0, .live⟩,  -- REF_DRIFT
  ⟨0x1600, 1, 1, 14, 1, (.u 8), .ro, 0, .any, false, 0, 0, .live⟩]  -- ALARM_CAUSES

/-- Object rows from index 0x1601 (R505). -/
def odRows1601_1 : List OdRow := [
  ⟨0x1601, 1, 1, 1, 16, (.u 16), .ro, 0, .any, false, 0, 0, .live⟩,  -- DEGRADATION
  ⟨0x1602, 1, 1, 1, 49, (.u 8), .ro, 0, .any, false, 0, 0, .live⟩,  -- EYE_OPENING
  ⟨0x1603, 1, 1, 1, 49, (.u 8), .ro, 0, .any, false, 0, 0, .live⟩,  -- EQ_PRESET
  ⟨0x1604, 1, 1, 1, 1, (.u 8), .ro, 0, .any, false, 0, 0, .live⟩,  -- SPARES_USED
  ⟨0x1604, 1, 1, 2, 1, (.u 16), .ro, 0, .any, false, 0, 0, .live⟩,  -- WORST_ROW_WEAR
  ⟨0x1604, 1, 1, 3, 1, (.u 8), .ro, 0, .any, false, 0, 0, .live⟩]  -- SPARES_PROPOSED

/-- Object rows from index 0x1800 (R336). -/
def odRows1800_1 : List OdRow := [
  ⟨0x1800, 1, 1, 1, 1, (.u 32), .wo, 0, (.oneOf [1398034245]), false, 2, 0, .live⟩,  -- STORE
  ⟨0x1800, 1, 1, 2, 1, (.u 32), .wo, 0, (.oneOf [1145457748]), false, 4, 0, .live⟩,  -- RESTORE_DEFAULTS
  ⟨0x1800, 1, 1, 3, 1, (.u 8), .ro, 0, .any, false, 0, 0, .live⟩,  -- STORE_STATE
  ⟨0x1800, 1, 1, 4, 1, (.u 8), .ro, 0, .any, false, 0, 0, .live⟩,  -- STORE_RESULT
  ⟨0x1800, 1, 1, 5, 1, (.u 32), .ro, 0, .any, false, 0, 0, .live⟩,  -- STORE_COUNT
  ⟨0x1800, 1, 1, 6, 1, (.u 8), .ro, 255, .any, false, 0, 0, .live⟩,  -- ACTIVE_SLOT
  ⟨0x1800, 1, 1, 7, 1, (.u 32), .ro, 0, .any, false, 0, 0, .live⟩,  -- IMAGE_SEQUENCE
  ⟨0x1800, 1, 1, 8, 1, (.u 32), .ro, 0, .any, false, 0, 0, .live⟩,  -- IMAGE_SIZE
  ⟨0x1800, 1, 1, 9, 1, (.u 64), .ro, 0, .any, false, 0, 0, .live⟩,  -- LAST_STORE_TIME
  ⟨0x1800, 1, 1, 10, 1, (.u 16), .ro, 0, .any, false, 0, 0, .live⟩,  -- STORE_WEAR
  ⟨0x1800, 1, 1, 11, 1, (.u 8), .ro, 2, .any, false, 0, 0, .live⟩,  -- BOOT_IMAGE_SOURCE
  ⟨0x1801, 1, 1, 1, 1, (.u 32), .wo, 0, (.oneOf [1128679235]), false, 2, 0, .live⟩,  -- CONFIG_COMMIT
  ⟨0x1801, 1, 1, 2, 1, (.u 32), .ro, 0, .any, false, 0, 0, .live⟩,  -- CONFIG_RESULT
  ⟨0x1801, 1, 1, 3, 1, .bool, .ro, 0, .any, false, 0, 0, .live⟩,  -- CONFIG_PENDING
  ⟨0x1801, 1, 1, 4, 1, (.u 8), .wo, 0, (.oneOf [1]), false, 2, 0, .live⟩,  -- CONFIG_DISCARD
  ⟨0x1801, 1, 1, 5, 1, (.u 32), .ro, 0, .any, false, 0, 0, .live⟩]  -- CONFIG_COMMITS

/-- Object rows from index 0x1A00 (R342). -/
def odRows1A00_1 : List OdRow := [
  ⟨0x1A00, 1, 1, 1, 1, (.u 32), .ro, 0, .any, false, 0, 0, .live⟩,  -- EVENTS_RAISED
  ⟨0x1A00, 1, 1, 2, 1, (.u 32), .ro, 0, .any, false, 0, 0, .live⟩,  -- NOTIFY_DROPPED
  ⟨0x1A00, 1, 1, 3, 1, (.u 8), .wo, 0, (.oneOf [1]), false, 1, 0, .live⟩,  -- COUNTER_RESET
  ⟨0x1A01, 1, 1, 1, 1, (.u 8), .rw, 0, (.orNone 0 15 255), true, 2, 0, .live⟩,  -- GROUP_CHANNEL
  ⟨0x1A01, 1, 1, 2, 1, (.u 8), .rw, 1, (.orNone 0 15 255), true, 2, 0, .live⟩,  -- GROUP_CHANNEL
  ⟨0x1A01, 1, 1, 3, 1, (.u 8), .rw, 2, (.orNone 0 15 255), true, 2, 0, .live⟩,  -- GROUP_CHANNEL
  ⟨0x1A01, 1, 1, 4, 1, (.u 8), .rw, 3, (.orNone 0 15 255), true, 2, 0, .live⟩,  -- GROUP_CHANNEL
  ⟨0x1A01, 1, 1, 5, 1, (.u 8), .rw, 4, (.orNone 0 15 255), true, 2, 0, .live⟩,  -- GROUP_CHANNEL
  ⟨0x1A01, 1, 1, 6, 1, (.u 8), .rw, 5, (.orNone 0 15 255), true, 2, 0, .live⟩,  -- GROUP_CHANNEL
  ⟨0x1A01, 1, 1, 7, 1, (.u 8), .rw, 6, (.orNone 0 15 255), true, 2, 0, .live⟩,  -- GROUP_CHANNEL
  ⟨0x1A01, 1, 1, 8, 1, (.u 8), .rw, 7, (.orNone 0 15 255), true, 2, 0, .live⟩,  -- GROUP_CHANNEL
  ⟨0x1A01, 1, 1, 9, 1, (.u 8), .rw, 8, (.orNone 0 15 255), true, 2, 0, .live⟩,  -- GROUP_CHANNEL
  ⟨0x1A01, 1, 1, 10, 1, (.u 8), .rw, 9, (.orNone 0 15 255), true, 2, 0, .live⟩,  -- GROUP_CHANNEL
  ⟨0x1A01, 1, 1, 11, 1, (.u 8), .rw, 10, (.orNone 0 15 255), true, 2, 0, .live⟩,  -- GROUP_CHANNEL
  ⟨0x1A01, 1, 1, 12, 1, (.u 8), .rw, 11, (.orNone 0 15 255), true, 2, 0, .live⟩,  -- GROUP_CHANNEL
  ⟨0x1A01, 1, 1, 13, 1, (.u 8), .rw, 12, (.orNone 0 15 255), true, 2, 0, .live⟩,  -- GROUP_CHANNEL
  ⟨0x1A01, 1, 1, 14, 1, (.u 8), .rw, 13, (.orNone 0 15 255), true, 2, 0, .live⟩,  -- GROUP_CHANNEL
  ⟨0x1A01, 1, 1, 15, 1, (.u 8), .rw, 14, (.orNone 0 15 255), true, 2, 0, .live⟩,  -- GROUP_CHANNEL
  ⟨0x1A01, 1, 1, 16, 1, (.u 8), .rw, 15, (.orNone 0 15 255), true, 2, 0, .live⟩]  -- GROUP_CHANNEL

/-- Object rows from index 0x1A02 (R342). -/
def odRows1A02_1 : List OdRow := [
  ⟨0x1A02, 1, 1, 1, 8, (.u 32), .rw, 4294967295, .any, true, 2, 0, .live⟩,  -- SOURCE_MASK
  ⟨0x1A04, 1, 1, 1, 16, (.u 8), .rw, 0, (.between 0 4), true, 2, 0, .live⟩,  -- CHANNEL_PIN
  ⟨0x1A05, 1, 1, 1, 16, (.u 8), .rw, 10, (.between 1 100), true, 2, 0, .live⟩,  -- CHANNEL_PULSE
  ⟨0x1A06, 1, 1, 1, 16, (.u 8), .rw, 0, (.oneOf [0, 1, 2]), true, 2, 0, .live⟩,  -- CHANNEL_CAN
  ⟨0x1A07, 1, 1, 1, 16, (.u 8), .ro, 0, .any, false, 0, 0, .live⟩,  -- CHANNEL_PENDING
  ⟨0x1A08, 1, 1, 1, 16, (.u 32), .ro, 0, .any, false, 0, 0, .live⟩,  -- CHANNEL_LOST
  ⟨0x1A10, 16, 1, 0, 16, (.u 32), .ro, 0, .any, false, 0, 0, .live⟩]  -- SOURCE_COUNT

/-- Object rows from index 0x2000 (R61). -/
def odRows2000_1 : List OdRow := [
  ⟨0x2000, 1, 1, 1, 1, (.u 8), .rw, 1, (.oneOf [0, 1, 2, 3, 4]), true, 2, 0, .sched⟩,  -- CYCLE_TIME
  ⟨0x2000, 1, 1, 2, 1, (.u 8), .rw, 4, (.between 4 64), true, 2, 0, .sched⟩,  -- STATIC_SLOTS
  ⟨0x2000, 1, 1, 3, 1, (.u 32), .rw, 4500, (.stepped 1000 60000 10), true, 2, 0, .sched⟩,  -- SLOT_LENGTH
  ⟨0x2000, 1, 1, 4, 1, (.u 32), .rw, 2200, (.stepped 50 59990 10), true, 2, 0, .sched⟩,  -- AP_UP
  ⟨0x2000, 1, 1, 5, 1, (.u 32), .rw, 1000, (.stepped 50 59990 10), true, 2, 0, .sched⟩,  -- AP_DOWN
  ⟨0x2000, 1, 1, 6, 1, (.u 16), .rw, 40, (.between 0 1024), true, 2, 0, .sched⟩,  -- MINISLOTS
  ⟨0x2000, 1, 1, 7, 1, (.u 16), .rw, 500, (.stepped 200 2000 50), true, 2, 0, .sched⟩,  -- MINISLOT_LENGTH
  ⟨0x2000, 1, 1, 8, 1, (.u 16), .rw, 100, (.stepped 50 500 10), true, 2, 0, .sched⟩,  -- AP_MINISLOT
  ⟨0x2000, 1, 1, 9, 1, (.u 16), .rw, 40, (.between 20 500), true, 2, 0, .sched⟩,  -- PRECISION_ASSUMED
  ⟨0x2000, 1, 1, 10, 1, (.u 32), .wo, 0, (.oneOf [1396918340]), false, 2, 0, .live⟩,  -- SCHED_COMMIT
  ⟨0x2000, 1, 1, 11, 1, (.u 32), .ro, 0, .any, false, 0, 0, .live⟩,  -- SCHED_COMMIT_RESULT
  ⟨0x2000, 1, 1, 12, 1, (.i 32), .ro, 2250, .any, false, 0, 0, .live⟩,  -- PENDING_NIT
  ⟨0x2000, 1, 1, 13, 1, (.u 32), .ro, 9000, .any, false, 0, 0, .live⟩]  -- PENDING_STATIC_END

/-- Object rows from index 0x2001 (R61). -/
def odRows2001_1 : List OdRow := [
  ⟨0x2001, 1, 1, 1, 1, (.u 8), .ro, 1, .any, false, 0, 0, .live⟩,  -- CYCLE_TIME
  ⟨0x2001, 1, 1, 2, 1, (.u 8), .ro, 4, .any, false, 0, 0, .live⟩,  -- STATIC_SLOTS
  ⟨0x2001, 1, 1, 3, 1, (.u 32), .ro, 4500, .any, false, 0, 0, .live⟩,  -- SLOT_LENGTH
  ⟨0x2001, 1, 1, 4, 1, (.u 32), .ro, 2200, .any, false, 0, 0, .live⟩,  -- AP_UP
  ⟨0x2001, 1, 1, 5, 1, (.u 32), .ro, 1000, .any, false, 0, 0, .live⟩,  -- AP_DOWN
  ⟨0x2001, 1, 1, 6, 1, (.u 16), .ro, 40, .any, false, 0, 0, .live⟩,  -- MINISLOTS
  ⟨0x2001, 1, 1, 7, 1, (.u 16), .ro, 500, .any, false, 0, 0, .live⟩,  -- MINISLOT_LENGTH
  ⟨0x2001, 1, 1, 8, 1, (.u 16), .ro, 100, .any, false, 0, 0, .live⟩,  -- AP_MINISLOT
  ⟨0x2001, 1, 1, 9, 1, (.u 16), .ro, 40, .any, false, 0, 0, .live⟩,  -- PRECISION_ASSUMED
  ⟨0x2001, 1, 1, 12, 1, (.i 32), .ro, 2250, .any, false, 0, 0, .live⟩,  -- PENDING_NIT
  ⟨0x2001, 1, 1, 13, 1, (.u 32), .ro, 9000, .any, false, 0, 0, .live⟩,  -- PENDING_STATIC_END
  ⟨0x2002, 1, 1, 1, 1, (.u 8), .ro, 1, .any, false, 0, 0, .live⟩,  -- SLOT_ROLE_0
  ⟨0x2002, 1, 1, 2, 1, (.u 8), .ro, 32, .any, false, 0, 0, .live⟩,  -- SLOT_ROLE_1
  ⟨0x2002, 1, 1, 3, 62, (.u 8), .rw, 0, (.special .slotRole), true, 2, 0, .sched⟩]  -- SLOT_ROLE_k

/-- Object rows from index 0x2003 (R61). -/
def odRows2003_3 : List OdRow := [
  ⟨0x2003, 1, 1, 3, 62, (.u 32), .rw, 16777215, (.between 0 16777215), true, 2, 0, .sched⟩,  -- SLOT_PORT_MASK_k
  ⟨0x2004, 4, 1, 0, 256, (.u 16), .rw, 0, (.special .minislotOwner), true, 2, 0, .sched⟩,  -- MINISLOT_OWNER
  ⟨0x2008, 1, 1, 1, 16, (.u 32), .rw, 0, (.special .markOffset), true, 2, 0, .live⟩,  -- MARK_OFFSET
  ⟨0x2009, 1, 1, 1, 1, (.u 16), .rw, 2561, (.special .markControl), true, 2, 0, .live⟩,  -- MARK_CONTROL
  ⟨0x2009, 1, 1, 2, 15, (.u 16), .rw, 2560, (.special .markControl), true, 2, 0, .live⟩,  -- MARK_CONTROL
  ⟨0x200A, 1, 1, 1, 4, (.u 8), .rw, 0, (.oneOf [0, 1]), true, 2, 0, .live⟩,  -- EVT_OUT_SOURCE
  ⟨0x200B, 1, 1, 1, 1, (.u 32), .ro, 0, .any, false, 0, 0, .live⟩,  -- CYCLE_COUNT
  ⟨0x200B, 1, 1, 2, 1, (.u 32), .ro, 0, .any, false, 0, 0, .live⟩,  -- RELAY_DROPS
  ⟨0x200B, 1, 1, 3, 1, (.u 32), .ro, 0, .any, false, 0, 0, .live⟩,  -- RELAY_NO_SLOT
  ⟨0x200B, 1, 1, 4, 1, (.u 32), .ro, 0, .any, false, 0, 0, .live⟩]  -- SCHED_COMMITS

/-- Object rows from index 0x2100 (R62). -/
def odRows2100_1 : List OdRow := [
  ⟨0x2100, 48, 1, 1, 1, .bool, .rw, 1, (.between 0 1), true, 2, 0, .live⟩,  -- ENABLE
  ⟨0x2100, 48, 1, 2, 1, (.u 8), .rw, 0, (.oneOf [0, 1]), true, 2, 0, .sched⟩,  -- PHY_MODE
  ⟨0x2100, 48, 1, 3, 1, (.u 32), .rw, 500, (.between 0 5000), true, 2, 0, .sched⟩,  -- PLANNED_DELAY
  ⟨0x2100, 48, 1, 4, 1, (.u 16), .rw, 8, (.between 0 200), true, 2, 0, .sched⟩,  -- PLANNED_UNCERTAINTY
  ⟨0x2100, 48, 1, 5, 1, (.u 16), .ro, 88, .any, false, 0, 0, .live⟩,  -- GUARD_MARGIN
  ⟨0x2100, 48, 1, 6, 1, (.u 8), .ro, 0, .any, false, 0, 0, .live⟩,  -- GUARD_STATE
  ⟨0x2100, 48, 1, 7, 1, (.u 8), .ro, 0, .any, false, 0, 0, .live⟩,  -- VIOLATION_RUN
  ⟨0x2100, 48, 1, 8, 1, (.u 32), .ro, 0, .any, false, 0, 0, .live⟩,  -- OUT_OF_WINDOW
  ⟨0x2100, 48, 1, 9, 1, (.u 32), .ro, 0, .any, false, 0, 0, .live⟩,  -- OVERRUN
  ⟨0x2100, 48, 1, 10, 1, (.u 32), .ro, 0, .any, false, 0, 0, .live⟩,  -- FOREIGN_ID
  ⟨0x2100, 48, 1, 11, 1, (.u 32), .ro, 0, .any, false, 0, 0, .live⟩,  -- ID_MISMATCH
  ⟨0x2100, 48, 1, 12, 1, (.u 32), .ro, 0, .any, false, 0, 0, .live⟩,  -- ROLE_MISMATCH
  ⟨0x2100, 48, 1, 13, 1, (.u 32), .ro, 0, .any, false, 0, 0, .live⟩,  -- ADMITTED
  ⟨0x2100, 48, 1, 14, 1, (.u 32), .ro, 0, .any, false, 0, 0, .live⟩,  -- HEAD_OVERRUN
  ⟨0x2100, 48, 1, 15, 1, (.u 32), .ro, 0, .any, false, 0, 0, .live⟩,  -- ISOLATIONS
  ⟨0x2100, 48, 1, 16, 1, (.u 8), .wo, 0, (.oneOf [1]), false, 1, 0, .live⟩]  -- COUNTER_RESET

/-- Object rows from index 0x2200 (R127). -/
def odRows2200_1 : List OdRow := [
  ⟨0x2200, 24, 16, 1, 1, .bool, .rw, 0, (.between 0 1), true, 2, 0, .config⟩,  -- PRESENT
  ⟨0x2200, 24, 16, 2, 1, (.u 8), .ro, 0, .any, false, 0, 0, .live⟩,  -- AXES
  ⟨0x2200, 24, 16, 3, 1, (.u 8), .rw, 1, (.oneOf [1, 2, 4]), true, 2, 0, .config⟩,  -- PWM_DIV
  ⟨0x2200, 24, 16, 4, 1, (.u 8), .rw, 0, (.between 0 31), true, 2, 0, .config⟩,  -- PHASE_MEDIUM
  ⟨0x2200, 24, 16, 5, 1, (.u 16), .rw, 0, (.between 0 1023), true, 2, 0, .config⟩,  -- PHASE_SLOW
  ⟨0x2200, 24, 16, 6, 1, (.u 32), .rw, 0, .any, true, 2, 0, .live⟩,  -- EXPECTED_VENDOR
  ⟨0x2200, 24, 16, 7, 1, (.u 8), .rw, 1, (.oneOf [0, 1]), true, 2, 0, .live⟩,  -- ICB_TRANSFER
  ⟨0x2200, 24, 16, 8, 1, (.u 16), .ro, 36, .any, false, 0, 0, .live⟩,  -- ICB_LENGTH
  ⟨0x2200, 24, 16, 9, 1, (.u 32), .ro, 0, .any, false, 0, 0, .live⟩,  -- ICB_DIGEST
  ⟨0x2200, 24, 16, 10, 1, (.u 16), .rw, 320, (.between 16 65535), true, 2, 0, .live⟩,  -- MBX_TIMEOUT
  ⟨0x2200, 24, 16, 11, 1, (.u 8), .rw, 4, (.between 1 4), true, 2, 0, .live⟩,  -- MBX_OUTSTANDING
  ⟨0x2200, 24, 16, 12, 1, (.u 32), .ro, 0, .any, false, 0, 0, .live⟩]  -- APPLY_AT

/-- Object rows from index 0x2201 (R127). -/
def odRows2201_1 : List OdRow := [
  ⟨0x2201, 24, 16, 1, 16, (.u 8), .rw, 255, (.orNone 0 127 255), true, 2, 0, .config⟩,  -- AXIS_MAP
  ⟨0x2202, 24, 16, 1, 1, (.u 32), .ro, 0, .any, false, 0, 0, .live⟩,  -- VENDOR
  ⟨0x2202, 24, 16, 2, 1, (.u 8), .ro, 0, .any, false, 0, 0, .live⟩,  -- CAPS
  ⟨0x2202, 24, 16, 3, 1, (.u 16), .ro, 0, .any, false, 0, 0, .live⟩,  -- MIN_AP_UP
  ⟨0x2202, 24, 16, 4, 1, (.u 16), .ro, 0, .any, false, 0, 0, .live⟩,  -- APPLY_SETUP
  ⟨0x2202, 24, 16, 5, 1, (.u 16), .ro, 0, .any, false, 0, 0, .live⟩,  -- TO_LATENCY
  ⟨0x2202, 24, 16, 6, 1, (.u 32), .ro, 0, .any, false, 0, 0, .live⟩,  -- REPORTED_ICB_DIGEST
  ⟨0x2203, 24, 16, 1, 1, (.u 32), .ro, 0, .any, false, 0, 0, .live⟩,  -- HELD_CYCLES
  ⟨0x2203, 24, 16, 2, 1, (.u 32), .ro, 0, .any, false, 0, 0, .live⟩,  -- SC_CRC_ERRORS
  ⟨0x2203, 24, 16, 3, 1, (.u 32), .ro, 0, .any, false, 0, 0, .live⟩,  -- SC_STALE
  ⟨0x2203, 24, 16, 4, 1, (.u 32), .ro, 0, .any, false, 0, 0, .live⟩,  -- MBX_STALE
  ⟨0x2203, 24, 16, 5, 1, (.u 32), .ro, 0, .any, false, 0, 0, .live⟩,  -- MBX_TIMEOUTS
  ⟨0x2203, 24, 16, 6, 1, (.u 32), .ro, 0, .any, false, 0, 0, .live⟩,  -- TO_LOST
  ⟨0x2203, 24, 16, 7, 1, (.u 32), .ro, 0, .any, false, 0, 0, .live⟩,  -- TO_LATE
  ⟨0x2203, 24, 16, 8, 1, (.u 32), .ro, 0, .any, false, 0, 0, .live⟩,  -- TO_OVERFLOW
  ⟨0x2203, 24, 16, 9, 1, (.u 8), .wo, 0, (.oneOf [1]), false, 1, 0, .live⟩]  -- COUNTER_RESET

/-- Object rows from index 0x2204 (R127). -/
def odRows2204_1 : List OdRow := [
  ⟨0x2204, 24, 16, 1, 1, (.u 8), .ro, 0, .any, false, 0, 0, .live⟩]  -- ISLAND_MISMATCH_CAUSE

/-- Object rows from index 0x2400 (R91). -/
def odRows2400_1 : List OdRow := [
  ⟨0x2400, 1, 1, 1, 1, (.u 8), .wo, 0, (.oneOf [1, 2]), false, 2, 0, .live⟩,  -- NETWORK_CONTROL
  ⟨0x2400, 1, 1, 2, 1, (.u 8), .ro, 0, .any, false, 0, 0, .live⟩,  -- NETWORK_STATE
  ⟨0x2400, 1, 1, 3, 1, (.u 8), .ro, 0, .any, false, 0, 0, .live⟩,  -- STOP_REASON
  ⟨0x2400, 1, 1, 4, 1, (.u 16), .rw, 64, (.between 16 4096), true, 2, 0, .live⟩,  -- LISTEN_BASE
  ⟨0x2400, 1, 1, 5, 1, (.u 8), .rw, 0, (.between 0 1), true, 2, 0, .live⟩,  -- COLDSTART_RANK
  ⟨0x2400, 1, 1, 6, 1, (.u 32), .rw, 0, (.special .syncIslandMask), true, 2, 0, .live⟩,  -- SYNC_ISLAND_MASK
  ⟨0x2400, 1, 1, 7, 1, (.u 8), .rw, 1, (.between 0 3), true, 2, 0, .live⟩,  -- K_DISCARD
  ⟨0x2400, 1, 1, 8, 1, (.u 16), .rw, 20, (.between 2 100), true, 2, 0, .live⟩,  -- STEP_MAX
  ⟨0x2400, 1, 1, 9, 1, (.u 16), .rw, 64, (.between 16 1024), true, 2, 0, .live⟩,  -- RATE_ROUND
  ⟨0x2400, 1, 1, 10, 1, (.u 16), .rw, 500, (.between 10 10000), true, 2, 0, .live⟩,  -- RATE_STEP_MAX
  ⟨0x2400, 1, 1, 11, 1, (.u 8), .rw, 1, (.oneOf [0, 1]), true, 2, 0, .live⟩,  -- EXT_MODE
  ⟨0x2400, 1, 1, 12, 1, (.u 16), .rw, 10, (.between 1 1000), true, 2, 0, .live⟩,  -- EXT_TIME_CONSTANT
  ⟨0x2400, 1, 1, 13, 1, (.u 16), .rw, 5000, (.between 100 50000), true, 2, 0, .live⟩,  -- EXT_RATE_MAX
  ⟨0x2400, 1, 1, 14, 1, (.u 32), .rw, 1000000, (.between 1000 1000000000), true, 2, 0, .live⟩,  -- EXT_STEP_LIMIT
  ⟨0x2400, 1, 1, 15, 1, (.u 16), .rw, 256, (.between 16 65535), true, 2, 0, .live⟩,  -- ISOLATION_HOLD
  ⟨0x2400, 1, 1, 16, 1, (.u 16), .rw, 32, (.between 2 65535), true, 2, 0, .live⟩,  -- CHANNEL_LOSS_CYCLES
  ⟨0x2400, 1, 1, 17, 1, (.u 64), .ro, 0, .any, false, 0, 0, .live⟩,  -- NETWORK_TIME
  ⟨0x2400, 1, 1, 18, 1, (.i 32), .ro, 0, .any, false, 0, 0, .live⟩,  -- EXT_OFFSET
  ⟨0x2400, 1, 1, 19, 1, (.i 32), .ro, 0, .any, false, 0, 0, .live⟩,  -- EXT_RATE
  ⟨0x2400, 1, 1, 20, 1, (.u 8), .ro, 0, .any, false, 0, 0, .live⟩,  -- EXT_STATE
  ⟨0x2400, 1, 1, 21, 1, (.u 8), .ro, 1, .any, false, 0, 0, .live⟩,  -- SYNC_NODES_USED
  ⟨0x2400, 1, 1, 22, 1, (.u 8), .ro, 0, .any, false, 0, 0, .live⟩,  -- K_USED
  ⟨0x2400, 1, 1, 23, 1, (.i 32), .ro, 0, .any, false, 0, 0, .live⟩,  -- LAST_STEP
  ⟨0x2400, 1, 1, 24, 1, (.u 16), .ro, 0, .any, false, 0, 0, .live⟩,  -- PRECISION_ESTIMATE
  ⟨0x2400, 1, 1, 25, 1, (.u 32), .ro, 0, .any, false, 0, 0, .live⟩]  -- COLLISIONS

/-- Object rows from index 0x2401 (R91). -/
def odRows2401_1 : List OdRow := [
  ⟨0x2401, 1, 1, 1, 24, (.i 32), .ro, 0, .any, false, 0, 0, .live⟩,  -- ISLAND_DEVIATION
  ⟨0x2402, 1, 1, 1, 24, (.i 32), .ro, 0, .any, false, 0, 0, .live⟩,  -- ISLAND_RATE_CORR
  ⟨0x2403, 1, 1, 1, 48, (.u 32), .ro, 0, .any, false, 0, 0, .live⟩,  -- MEASURED_DELAY
  ⟨0x2404, 1, 1, 1, 48, (.u 16), .ro, 0, .any, false, 0, 0, .live⟩,  -- MEASURED_UNCERTAINTY
  ⟨0x2405, 1, 1, 1, 48, (.u 16), .rw, 0, (.between 0 1000), true, 2, 0, .live⟩,  -- PHY_TX_LATENCY
  ⟨0x2406, 1, 1, 1, 48, (.u 16), .rw, 0, (.between 0 1000), true, 2, 0, .live⟩,  -- PHY_RX_LATENCY
  ⟨0x2407, 1, 1, 1, 48, (.u 32), .ro, 0, .any, false, 0, 0, .live⟩,  -- ISLAND_COLDSTART
  ⟨0x2408, 1, 1, 1, 48, (.u 32), .ro, 0, .any, false, 0, 0, .live⟩,  -- CHANNEL_MISS
  ⟨0x2409, 1, 1, 1, 24, (.u 8), .ro, 0, .any, false, 0, 0, .live⟩]  -- ISLAND_STATE

/-- Object rows from index 0x2500 (R92). -/
def odRows2500_1 : List OdRow := [
  ⟨0x2500, 1, 1, 1, 1, (.u 8), .rw, 0, (.oneOf [0, 1]), true, 2, 0, .live⟩,  -- DUAL_HEAD
  ⟨0x2500, 1, 1, 2, 1, (.u 8), .rw, 0, (.oneOf [0, 1]), true, 2, 0, .live⟩,  -- HEAD_CHANNEL
  ⟨0x2500, 1, 1, 3, 1, (.u 8), .ro, 0, .any, false, 0, 0, .live⟩,  -- DH_ROLE
  ⟨0x2500, 1, 1, 4, 1, (.u 8), .ro, 0, .any, false, 0, 0, .live⟩,  -- DH_STATE
  ⟨0x2500, 1, 1, 5, 1, (.u 8), .ro, 0, .any, false, 0, 0, .live⟩,  -- STRAIT_STATE
  ⟨0x2500, 1, 1, 6, 1, (.u 32), .ro, 0, .any, false, 0, 0, .live⟩,  -- STRAIT_DELAY
  ⟨0x2500, 1, 1, 7, 1, (.u 32), .rw, 1000, (.between 0 20000), true, 2, 0, .live⟩,  -- FB_AGREE_OFFSET
  ⟨0x2500, 1, 1, 8, 1, (.u 8), .rw, 1, (.between 1 16), true, 2, 0, .live⟩,  -- DIVERGE_LIMIT
  ⟨0x2500, 1, 1, 9, 1, (.u 16), .rw, 16, (.between 8 1024), true, 2, 0, .live⟩,  -- VERIFY_CYCLES
  ⟨0x2500, 1, 1, 10, 1, (.u 32), .ro, 0, .any, false, 0, 0, .live⟩,  -- DIGEST_MISMATCHES
  ⟨0x2500, 1, 1, 11, 1, (.u 8), .ro, 255, .any, false, 0, 0, .live⟩,  -- LAST_DIVERGED_AXIS
  ⟨0x2500, 1, 1, 12, 1, (.u 32), .ro, 0, .any, false, 0, 0, .live⟩,  -- LAST_DIVERGED_CYCLE
  ⟨0x2500, 1, 1, 13, 1, (.u 32), .ro, 0, .any, false, 0, 0, .live⟩,  -- RESYNCS
  ⟨0x2500, 1, 1, 14, 1, (.u 32), .ro, 0, .any, false, 0, 0, .live⟩,  -- LAST_RESYNC_TIME
  ⟨0x2500, 1, 1, 15, 1, (.u 32), .ro, 0, .any, false, 0, 0, .live⟩,  -- FB_FORWARDED
  ⟨0x2500, 1, 1, 16, 1, (.u 32), .ro, 0, .any, false, 0, 0, .live⟩,  -- CONFIG_DIGEST
  ⟨0x2500, 1, 1, 17, 1, (.u 32), .ro, 0, .any, false, 0, 0, .live⟩,  -- PEER_CONFIG_DIGEST
  ⟨0x2500, 1, 1, 18, 1, (.u 8), .wo, 0, (.oneOf [1]), false, 2, 0, .live⟩]  -- RESYNC_REQUEST

/-- Object rows from index 0x3000 (R160). -/
def odRows3000_1 : List OdRow := [
  ⟨0x3000, 1, 1, 1, 1, (.u 16), .rw, 2000, (.between 0 10000), true, 2, 0, .live⟩,  -- RECONCILE_QUIET
  ⟨0x3000, 1, 1, 2, 1, (.u 16), .ro, 1536, .any, false, 0, 0, .live⟩,  -- TT_RESERVED
  ⟨0x3000, 1, 1, 3, 1, (.u 16), .ro, 0, .any, false, 0, 0, .live⟩,  -- TT_ENTRIES_PLANNED
  ⟨0x3000, 1, 1, 4, 1, (.u 32), .rw, 10000, (.between 1000 100000), true, 2, 0, .live⟩,  -- TASK_WATCHDOG
  ⟨0x3000, 1, 1, 5, 1, (.u 8), .rw, 7, (.between 1 8), true, 2, 0, .live⟩,  -- CLUSTERS_MIN
  ⟨0x3000, 1, 1, 6, 1, (.u 32), .ro, 0, .any, false, 0, 0, .live⟩,  -- HOLDS_TOTAL
  ⟨0x3000, 1, 1, 7, 1, (.u 32), .ro, 0, .any, false, 0, 0, .live⟩,  -- DEADLINE_MISSES_TOTAL
  ⟨0x3000, 1, 1, 8, 1, (.u 32), .ro, 0, .any, false, 0, 0, .live⟩,  -- CANCELLED_TASKS
  ⟨0x3000, 1, 1, 9, 1, (.u 32), .ro, 0, .any, false, 0, 0, .live⟩,  -- ADMIT_FAILS
  ⟨0x3000, 1, 1, 10, 1, (.u 32), .ro, 0, .any, false, 0, 0, .live⟩,  -- REDISPATCHES
  ⟨0x3000, 1, 1, 11, 1, (.u 32), .ro, 0, .any, false, 0, 0, .live⟩,  -- TASKS_ABORTED
  ⟨0x3000, 1, 1, 12, 1, (.u 8), .wo, 0, (.oneOf [1]), false, 1, 0, .live⟩]  -- COUNTER_RESET

/-- Object rows from index 0x3001 (R160). -/
def odRows3001_1 : List OdRow := [
  ⟨0x3001, 1, 1, 1, 128, (.u 32), .ro, 0, .any, false, 0, 0, .live⟩,  -- AXIS_HOLDS
  ⟨0x3002, 1, 1, 1, 128, (.u 32), .ro, 0, .any, false, 0, 0, .live⟩,  -- AXIS_DEADLINE_MISSES
  ⟨0x3003, 1, 1, 1, 16, (.u 8), .rw, 0, (.between 0 7), true, 2, 0, .live⟩]  -- MARK_TASKS

/-- Object rows from index 0x3100 (R161). -/
def odRows3100_1 : List OdRow := [
  ⟨0x3100, 1, 1, 1, 64, (.u 8), .ro, 0, .any, false, 0, 0, .live⟩,  -- SKERRY_STATE
  ⟨0x3101, 1, 1, 1, 64, (.u 8), .ro, 0, .any, false, 0, 0, .live⟩,  -- FENCE_CAUSE
  ⟨0x3102, 1, 1, 1, 64, (.u 8), .wo, 0, (.oneOf [1, 2]), false, 2, 0, .live⟩,  -- SKERRY_CONTROL
  ⟨0x3103, 1, 1, 1, 64, (.u 32), .ro, 0, .any, false, 0, 0, .live⟩,  -- PARITY_ERRORS
  ⟨0x3104, 1, 1, 1, 8, (.u 8), .ro, 0, .any, false, 0, 0, .live⟩,  -- CLUSTER_STATE
  ⟨0x3105, 1, 1, 1, 1, (.u 16), .ro, 1000, .any, false, 0, 0, .live⟩,  -- SKERRY_CLOCK
  ⟨0x3105, 1, 1, 2, 1, (.u 8), .ro, 0, .any, false, 0, 0, .live⟩]  -- ACTIVE_SKERRIES

/-- Object rows from index 0x3400 (R321). -/
def odRows3400_1 : List OdRow := [
  ⟨0x3400, 64, 16, 1, 1, (.octet 4132), .rw, 0, .any, true, 2, 0, .live⟩,  -- FP_IMAGE
  ⟨0x3400, 64, 16, 2, 1, (.u 8), .wo, 0, (.oneOf [1, 2]), false, 2, 0, .live⟩,  -- FP_LOAD
  ⟨0x3400, 64, 16, 3, 1, (.u 8), .ro, 0, .any, false, 0, 0, .live⟩,  -- FP_STATE
  ⟨0x3400, 64, 16, 4, 1, (.u 32), .ro, 0, .any, false, 0, 0, .live⟩,  -- FP_RESULT
  ⟨0x3400, 64, 16, 5, 1, (.u 8), .ro, 0, .any, false, 0, 0, .live⟩,  -- FP_CLASS
  ⟨0x3400, 64, 16, 6, 1, (.u 16), .ro, 0, .any, false, 0, 0, .live⟩,  -- FP_CODE_LEN
  ⟨0x3400, 64, 16, 7, 1, (.u 16), .ro, 0, .any, false, 0, 0, .live⟩,  -- FP_STATIC_CYCLES
  ⟨0x3400, 64, 16, 8, 1, .bool, .ro, 0, .any, false, 0, 0, .live⟩,  -- FP_VARIABLE
  ⟨0x3400, 64, 16, 9, 1, (.u 32), .ro, 0, .any, false, 0, 0, .live⟩,  -- FP_DIGEST
  ⟨0x3400, 64, 16, 10, 1, (.u 16), .ro, 0, .any, false, 0, 0, .live⟩,  -- FP_USERS
  ⟨0x3400, 64, 16, 11, 1, (.u 32), .ro, 0, .any, false, 0, 0, .live⟩,  -- FP_USER_VERSION
  ⟨0x3401, 64, 16, 1, 1, (.u 32), .ro, 0, .any, false, 0, 0, .live⟩,  -- INVOCATIONS
  ⟨0x3401, 64, 16, 2, 1, (.u 32), .ro, 0, .any, false, 0, 0, .live⟩,  -- OVERRUNS
  ⟨0x3401, 64, 16, 3, 1, (.u 32), .ro, 0, .any, false, 0, 0, .live⟩,  -- SAT_INVOCATIONS
  ⟨0x3401, 64, 16, 4, 1, (.u 32), .ro, 0, .any, false, 0, 0, .live⟩,  -- RDCNT_DENIED
  ⟨0x3401, 64, 16, 5, 1, (.u 8), .wo, 0, (.oneOf [1]), false, 1, 0, .live⟩]  -- COUNTER_RESET

/-- Object rows from index 0x3800 (R162). -/
def odRows3800_1 : List OdRow := [
  ⟨0x3800, 1, 1, 1, 1, (.u 8), .ro, 0, .any, false, 0, 0, .live⟩,  -- GRAPH_AXES
  ⟨0x3800, 1, 1, 2, 1, (.u 32), .ro, 0, .any, false, 0, 0, .live⟩,  -- GRAPH_IMAGE_VERSION
  ⟨0x3801, 1, 1, 1, 32, (.u 8), .rw, 255, (.orNone 0 127 255), true, 2, 0, .config⟩,  -- GRAPH_AXIS
  ⟨0x3802, 1, 1, 1, 32, (.u 8), .rw, 1, (.between 1 3), true, 2, 0, .config⟩,  -- GRAPH_VARIANT
  ⟨0x3803, 1, 1, 1, 32, (.u 32), .ro, 0, .any, false, 0, 0, .live⟩]  -- GRAPH_STALLS

/-- Object rows from index 0x4000 (R194). -/
def odRows4000_1 : List OdRow := [
  ⟨0x4000, 128, 32, 1, 1, (.u 8), .rw, 0, (.between 0 4), true, 2, 0, .config⟩,  -- AXIS_TYPE
  ⟨0x4000, 128, 32, 2, 1, (.u 8), .ro, 0, .any, false, 0, 0, .live⟩,  -- STAGE_SET
  ⟨0x4000, 128, 32, 3, 1, (.u 8), .rw, 1, (.oneOf [1, 2]), true, 2, 0, .config⟩,  -- VEL_DIV
  ⟨0x4000, 128, 32, 4, 1, (.u 8), .rw, 1, (.special .posDiv), true, 2, 0, .config⟩,  -- POS_DIV
  ⟨0x4000, 128, 32, 5, 1, .real32, .rw, 0, (.special .lead), true, 2, 0, .config⟩,  -- LEAD
  ⟨0x4000, 128, 32, 6, 1, (.u 8), .ro, 255, .any, false, 0, 0, .live⟩,  -- ISLAND
  ⟨0x4000, 128, 32, 7, 1, (.u 8), .ro, 255, .any, false, 0, 0, .live⟩,  -- LOCAL_AXIS
  ⟨0x4000, 128, 32, 8, 1, .bool, .ro, 0, .any, false, 0, 0, .live⟩,  -- GRAPH_MODE
  ⟨0x4001, 128, 32, 1, 1, (.u 16), .rw, 48, (.between 0 65535), false, 1, 0, .live⟩,  -- CONTROL_WORD
  ⟨0x4001, 128, 32, 2, 1, (.u 8), .ro, 0, .any, false, 0, 0, .live⟩,  -- AXIS_STATE
  ⟨0x4001, 128, 32, 3, 1, (.u 16), .ro, 0, .any, false, 0, 0, .live⟩,  -- STATUS_WORD
  ⟨0x4001, 128, 32, 4, 1, (.u 8), .ro, 0, .any, false, 0, 0, .live⟩,  -- CLOSED_LEVEL
  ⟨0x4001, 128, 32, 5, 1, (.u 8), .ro, 0, .any, false, 0, 0, .live⟩,  -- LAST_REFUSAL
  ⟨0x4001, 128, 32, 6, 1, .real32, .rw, 0, (.special .withinImax), false, 1, 0, .live⟩,  -- IQ_SETPOINT
  ⟨0x4001, 128, 32, 7, 1, (.u 16), .rw, 100, (.between 0 10000), true, 2, 0, .live⟩,  -- BRAKE_OPEN_TIME
  ⟨0x4001, 128, 32, 8, 1, (.u 16), .rw, 100, (.between 0 10000), true, 2, 0, .live⟩,  -- BRAKE_CLOSE_TIME
  ⟨0x4001, 128, 32, 9, 1, (.i 32), .rw, 656, (.between 1 655360), true, 2, 0, .live⟩,  -- STANDSTILL_SPEED
  ⟨0x4001, 128, 32, 10, 1, (.u 16), .rw, 10, (.between 1 1000), true, 2, 0, .live⟩,  -- STANDSTILL_TIME
  ⟨0x4001, 128, 32, 11, 1, (.u 16), .ro, 0, .any, false, 0, 0, .live⟩]  -- FAULT_CODE

/-- Object rows from index 0x4002 (R194). -/
def odRows4002_1 : List OdRow := [
  ⟨0x4002, 128, 32, 1, 1, (.i 8), .rw, 7, (.between (-8) 15), true, 2, 0, .live⟩,  -- EXP
  ⟨0x4002, 128, 32, 2, 1, .real32, .rw, 0, (.real 0 1000000), true, 2, 0, .live⟩,  -- KP
  ⟨0x4002, 128, 32, 3, 1, .real32, .rw, 0, (.real 0 1000000000), true, 2, 0, .live⟩,  -- KI
  ⟨0x4002, 128, 32, 4, 1, (.u 8), .rw, 3, (.between 0 3), true, 2, 0, .live⟩,  -- FF_ENABLE
  ⟨0x4002, 128, 32, 5, 1, (.u 32), .ro, 0, .any, false, 0, 0, .live⟩,  -- SAT_COUNT
  ⟨0x4003, 128, 32, 1, 1, (.i 8), .rw, 7, (.between (-8) 15), true, 2, 0, .live⟩,  -- EXP
  ⟨0x4003, 128, 32, 2, 1, .real32, .rw, 0, (.real 0 1000000), true, 2, 0, .live⟩,  -- KP
  ⟨0x4003, 128, 32, 3, 1, .real32, .rw, 0, (.real 0 1000000000), true, 2, 0, .live⟩,  -- KI
  ⟨0x4003, 128, 32, 4, 1, .real32, .rw, 0, (.real 0 1000), true, 2, 0, .live⟩,  -- KD
  ⟨0x4003, 128, 32, 5, 1, (.u 32), .rw, 0, (.between 0 10000000), true, 2, 0, .live⟩,  -- D_FILTER
  ⟨0x4003, 128, 32, 6, 1, .real32, .rw, 0, (.real 0 1000), true, 2, 0, .live⟩,  -- KAFF
  ⟨0x4003, 128, 32, 7, 1, (.u 8), .rw, 1, (.oneOf [0, 1]), true, 2, 0, .live⟩,  -- ANTIWINDUP
  ⟨0x4003, 128, 32, 8, 1, .bool, .rw, 1, (.between 0 1), true, 2, 0, .live⟩,  -- INNER_SAT_HOLD
  ⟨0x4003, 128, 32, 9, 1, (.u 32), .ro, 0, .any, false, 0, 0, .live⟩]  -- SAT_COUNT

/-- Object rows from index 0x4004 (R194). -/
def odRows4004_1 : List OdRow := [
  ⟨0x4004, 128, 32, 1, 1, (.i 8), .rw, 5, (.between (-8) 15), true, 2, 0, .live⟩,  -- EXP
  ⟨0x4004, 128, 32, 2, 1, .real32, .rw, 0, (.real 0 1000000), true, 2, 0, .live⟩,  -- KP
  ⟨0x4004, 128, 32, 3, 1, .real32, .rw, 0, (.real 0 1000000000), true, 2, 0, .live⟩,  -- KI
  ⟨0x4004, 128, 32, 4, 1, .real32, .rw, 0, (.real 0 100), true, 2, 0, .live⟩,  -- KD
  ⟨0x4004, 128, 32, 5, 1, (.u 32), .rw, 0, (.between 0 10000000), true, 2, 0, .live⟩,  -- D_FILTER
  ⟨0x4004, 128, 32, 6, 1, .real32, .rw, 1065353216, (.real 0 2), true, 2, 0, .live⟩,  -- KVFF
  ⟨0x4004, 128, 32, 7, 1, (.u 8), .rw, 1, (.oneOf [0, 1]), true, 2, 0, .live⟩,  -- ANTIWINDUP
  ⟨0x4004, 128, 32, 8, 1, .bool, .rw, 1, (.between 0 1), true, 2, 0, .live⟩,  -- INNER_SAT_HOLD
  ⟨0x4004, 128, 32, 9, 1, (.u 32), .ro, 0, .any, false, 0, 0, .live⟩,  -- SAT_COUNT
  ⟨0x4005, 128, 32, 1, 1, (.u 8), .rw, 2, (.oneOf [1, 2]), true, 2, 0, .live⟩,  -- GT_STAGE
  ⟨0x4005, 128, 32, 2, 1, (.u 8), .rw, 0, (.between 0 32), true, 2, 0, .live⟩,  -- GT_COUNT
  ⟨0x4005, 128, 32, 3, 1, .bool, .rw, 0, (.between 0 1), true, 2, 0, .live⟩,  -- GT_SCALE_KI
  ⟨0x4005, 128, 32, 4, 1, (.u 8), .ro, 0, .any, false, 0, 0, .live⟩,  -- GT_SEGMENT
  ⟨0x4005, 128, 32, 5, 1, .real32, .ro, 1065353216, .any, false, 0, 0, .live⟩,  -- GT_FACTOR
  ⟨0x4005, 128, 32, 6, 32, .real32, .rw, 0, (.special .realNonneg), true, 2, 0, .live⟩,  -- GT_X
  ⟨0x4005, 128, 32, 38, 32, .real32, .rw, 1065353216, (.real 0 8), true, 2, 0, .live⟩]  -- GT_Y

/-- Object rows from index 0x4006 (R194). -/
def odRows4006_1 : List OdRow := [
  ⟨0x4006, 128, 32, 1, 1, (.u 32), .rw, 0, (.between 0 100000000), true, 2, 0, .live⟩,  -- LP_TAU
  ⟨0x4006, 128, 32, 2, 1, (.u 8), .rw, 0, (.oneOf [0, 1, 2]), true, 2, 0, .live⟩,  -- BQ1_TYPE
  ⟨0x4006, 128, 32, 3, 1, .real32, .rw, 1120403456, (.special .realPos), true, 2, 0, .live⟩,  -- BQ1_F0
  ⟨0x4006, 128, 32, 4, 1, .real32, .rw, 1101004800, (.special .realPos), true, 2, 0, .live⟩,  -- BQ1_WIDTH
  ⟨0x4006, 128, 32, 5, 1, .real32, .rw, 0, (.real 0 1), true, 2, 0, .live⟩,  -- BQ1_DEPTH
  ⟨0x4006, 128, 32, 6, 1, (.u 8), .rw, 0, (.oneOf [0, 1, 2]), true, 2, 0, .live⟩,  -- BQ1_TYPE
  ⟨0x4006, 128, 32, 7, 1, .real32, .rw, 1120403456, (.special .realPos), true, 2, 0, .live⟩,  -- BQ1_F0
  ⟨0x4006, 128, 32, 8, 1, .real32, .rw, 1101004800, (.special .realPos), true, 2, 0, .live⟩,  -- BQ1_WIDTH
  ⟨0x4006, 128, 32, 9, 1, .real32, .rw, 0, (.real 0 1), true, 2, 0, .live⟩,  -- BQ1_DEPTH
  ⟨0x4006, 128, 32, 10, 1, (.u 16), .rw, 65535, (.special .loadedProgram), true, 2, 0, .live⟩,  -- FP_SELECT
  ⟨0x4006, 128, 32, 11, 1, (.u 32), .rw, 0, (.between 0 100000000), true, 2, 0, .live⟩,  -- LP_TAU
  ⟨0x4006, 128, 32, 12, 1, (.u 8), .rw, 0, (.oneOf [0, 1, 2]), true, 2, 0, .live⟩,  -- BQ1_TYPE
  ⟨0x4006, 128, 32, 13, 1, .real32, .rw, 1120403456, (.special .realPos), true, 2, 0, .live⟩,  -- BQ1_F0
  ⟨0x4006, 128, 32, 14, 1, .real32, .rw, 1101004800, (.special .realPos), true, 2, 0, .live⟩,  -- BQ1_WIDTH
  ⟨0x4006, 128, 32, 15, 1, .real32, .rw, 0, (.real 0 1), true, 2, 0, .live⟩,  -- BQ1_DEPTH
  ⟨0x4006, 128, 32, 16, 1, (.u 8), .rw, 0, (.oneOf [0, 1, 2]), true, 2, 0, .live⟩,  -- BQ1_TYPE
  ⟨0x4006, 128, 32, 17, 1, .real32, .rw, 1120403456, (.special .realPos), true, 2, 0, .live⟩,  -- BQ1_F0
  ⟨0x4006, 128, 32, 18, 1, .real32, .rw, 1101004800, (.special .realPos), true, 2, 0, .live⟩,  -- BQ1_WIDTH
  ⟨0x4006, 128, 32, 19, 1, .real32, .rw, 0, (.real 0 1), true, 2, 0, .live⟩,  -- BQ1_DEPTH
  ⟨0x4006, 128, 32, 20, 1, (.u 16), .rw, 65535, (.special .loadedProgram), true, 2, 0, .live⟩,  -- FP_SELECT
  ⟨0x4006, 128, 32, 21, 1, (.u 32), .rw, 0, (.between 0 100000000), true, 2, 0, .live⟩,  -- LP_TAU
  ⟨0x4006, 128, 32, 22, 1, (.u 8), .rw, 0, (.oneOf [0, 1, 2]), true, 2, 0, .live⟩,  -- BQ1_TYPE
  ⟨0x4006, 128, 32, 23, 1, .real32, .rw, 1120403456, (.special .realPos), true, 2, 0, .live⟩,  -- BQ1_F0
  ⟨0x4006, 128, 32, 24, 1, .real32, .rw, 1101004800, (.special .realPos), true, 2, 0, .live⟩,  -- BQ1_WIDTH
  ⟨0x4006, 128, 32, 25, 1, .real32, .rw, 0, (.real 0 1), true, 2, 0, .live⟩,  -- BQ1_DEPTH
  ⟨0x4006, 128, 32, 26, 1, (.u 8), .rw, 0, (.oneOf [0, 1, 2]), true, 2, 0, .live⟩,  -- BQ1_TYPE
  ⟨0x4006, 128, 32, 27, 1, .real32, .rw, 1120403456, (.special .realPos), true, 2, 0, .live⟩,  -- BQ1_F0
  ⟨0x4006, 128, 32, 28, 1, .real32, .rw, 1101004800, (.special .realPos), true, 2, 0, .live⟩,  -- BQ1_WIDTH
  ⟨0x4006, 128, 32, 29, 1, .real32, .rw, 0, (.real 0 1), true, 2, 0, .live⟩,  -- BQ1_DEPTH
  ⟨0x4006, 128, 32, 30, 1, (.u 16), .rw, 65535, (.special .loadedProgram), true, 2, 0, .live⟩]  -- FP_SELECT

/-- Object rows from index 0x4007 (R212). -/
def odRows4007_1 : List OdRow := [
  ⟨0x4007, 128, 32, 1, 1, .bool, .rw, 1, (.between 0 1), true, 2, 0, .live⟩,  -- RA_ENABLE
  ⟨0x4007, 128, 32, 2, 1, (.u 8), .rw, 2, (.oneOf [0, 1, 2]), true, 2, 0, .live⟩,  -- PRED_CURRENT
  ⟨0x4007, 128, 32, 3, 1, (.u 32), .rw, 1048576, (.between 1 2147483647), true, 2, 0, .live⟩,  -- TOL_POS
  ⟨0x4007, 128, 32, 4, 1, (.i 32), .rw, 65536, (.between 1 2147483647), true, 2, 0, .live⟩,  -- TOL_SPEED
  ⟨0x4007, 128, 32, 5, 1, (.u 16), .rw, 50, (.between 1 1000), true, 2, 0, .live⟩,  -- TOL_CURRENT
  ⟨0x4007, 128, 32, 6, 1, (.u 16), .rw, 32, (.between 0 65535), true, 2, 0, .live⟩,  -- RESIDUAL_MAX
  ⟨0x4007, 128, 32, 7, 1, (.u 8), .rw, 0, (.oneOf [0, 1]), true, 2, 0, .live⟩,  -- FP_NONAFFINE
  ⟨0x4007, 128, 32, 8, 1, .bool, .rw, 0, (.between 0 1), false, 2, 0, .live⟩,  -- FORCE_SQUASH
  ⟨0x4007, 128, 32, 9, 1, (.u 32), .ro, 0, .any, false, 0, 0, .live⟩,  -- RECONCILES
  ⟨0x4007, 128, 32, 10, 1, (.u 32), .ro, 0, .any, false, 0, 0, .live⟩,  -- SQUASHES
  ⟨0x4007, 128, 32, 11, 1, (.u 32), .ro, 0, .any, false, 0, 0, .live⟩,  -- SQ_FORCED
  ⟨0x4007, 128, 32, 12, 1, (.u 32), .ro, 0, .any, false, 0, 0, .live⟩,  -- SQ_INPUT_CHANGED
  ⟨0x4007, 128, 32, 13, 1, (.u 32), .ro, 0, .any, false, 0, 0, .live⟩,  -- SQ_NONAFFINE
  ⟨0x4007, 128, 32, 14, 1, (.u 32), .ro, 0, .any, false, 0, 0, .live⟩,  -- SQ_PRED_ERROR
  ⟨0x4007, 128, 32, 15, 1, (.u 32), .ro, 0, .any, false, 0, 0, .live⟩,  -- SQ_BREAKPOINT
  ⟨0x4007, 128, 32, 16, 1, (.u 32), .ro, 0, .any, false, 0, 0, .live⟩,  -- SQ_SATURATION
  ⟨0x4007, 128, 32, 17, 1, (.u 32), .ro, 0, .any, false, 0, 0, .live⟩,  -- SQ_GT_RESIDUAL
  ⟨0x4007, 128, 32, 18, 1, (.u 8), .ro, 0, .any, false, 0, 0, .live⟩,  -- LAST_SQUASH_CAUSE
  ⟨0x4007, 128, 32, 19, 1, (.u 32), .ro, 0, .any, false, 0, 0, .live⟩,  -- LAST_SQUASH_CYCLE
  ⟨0x4007, 128, 32, 20, 1, (.u 32), .ro, 0, .any, false, 0, 0, .live⟩,  -- LATE_APPLIES
  ⟨0x4007, 128, 32, 21, 1, (.u 32), .ro, 0, .any, false, 0, 0, .live⟩,  -- POS_ERR_PEAK
  ⟨0x4007, 128, 32, 22, 1, (.i 32), .ro, 0, .any, false, 0, 0, .live⟩,  -- SPEED_ERR_PEAK
  ⟨0x4007, 128, 32, 23, 1, (.u 16), .ro, 0, .any, false, 0, 0, .live⟩,  -- CURRENT_ERR_PEAK
  ⟨0x4007, 128, 32, 24, 1, (.u 16), .ro, 0, .any, false, 0, 0, .live⟩,  -- RESIDUAL_PEAK
  ⟨0x4007, 128, 32, 25, 1, (.u 8), .wo, 0, (.oneOf [1]), false, 1, 0, .live⟩,  -- COUNTER_RESET
  ⟨0x4007, 128, 32, 26, 1, (.u 16), .ro, 1000, .any, false, 0, 0, .live⟩,  -- EFFECTIVE_DELAY
  ⟨0x4007, 128, 32, 27, 1, (.u 16), .ro, 0, .any, false, 0, 0, .live⟩,  -- SQUASH_RATE
  ⟨0x4007, 128, 32, 28, 1, (.u 16), .rw, 64, (.between 0 65535), true, 2, 0, .live⟩]  -- SQUASH_RUN_LIMIT

/-- Object rows from index 0x4008 (R229). -/
def odRows4008_1 : List OdRow := [
  ⟨0x4008, 128, 32, 1, 1, (.u 8), .rw, 4, (.between 1 128), true, 2, 0, .config⟩,  -- POLE_PAIRS
  ⟨0x4008, 128, 32, 2, 1, .real32, .rw, 981668463, (.real (8796093 / 8796093022208) 1), true, 2, 0, .config⟩,  -- CURRENT_SCALE
  ⟨0x4008, 128, 32, 3, 1, (.u 8), .rw, 0, (.oneOf [0, 1]), true, 2, 0, .config⟩,  -- PHASE_ORDER
  ⟨0x4008, 128, 32, 4, 1, .real32, .rw, 1065353216, (.real (8589935 / 8589934592) 1000), true, 2, 0, .live⟩,  -- R_PHASE
  ⟨0x4008, 128, 32, 5, 1, .real32, .rw, 981668463, (.real (8796093 / 8796093022208) 10), true, 2, 0, .live⟩,  -- L_D
  ⟨0x4008, 128, 32, 6, 1, .real32, .rw, 981668463, (.real (8796093 / 8796093022208) 10), true, 2, 0, .live⟩,  -- L_Q
  ⟨0x4008, 128, 32, 7, 1, .real32, .rw, 1008981770, (.real 0 10), true, 2, 0, .live⟩,  -- PSI
  ⟨0x4008, 128, 32, 8, 1, (.u 8), .rw, 0, (.oneOf [0, 1]), true, 2, 0, .config⟩,  -- COMM_SOURCE
  ⟨0x4008, 128, 32, 9, 1, (.u 32), .rw, 0, .any, true, 2, 0, .live⟩,  -- COMM_OFFSET
  ⟨0x4008, 128, 32, 10, 1, .real32, .rw, 1056964608, (.special .upToImax), true, 2, 0, .live⟩,  -- ALIGN_CURRENT
  ⟨0x4008, 128, 32, 11, 1, (.u 16), .rw, 500, (.between 10 5000), true, 2, 0, .live⟩,  -- ALIGN_TIME
  ⟨0x4008, 128, 32, 12, 1, .bool, .rw, 0, (.between 0 1), true, 2, 0, .live⟩,  -- OBS_ENABLE
  ⟨0x4008, 128, 32, 13, 1, .real32, .rw, 1112014848, (.real 1 2000), true, 2, 0, .live⟩,  -- OBS_BANDWIDTH
  ⟨0x4008, 128, 32, 14, 1, (.i 32), .rw, 65536, (.between 656 2147483647), true, 2, 0, .live⟩,  -- MIN_OBS_SPEED
  ⟨0x4008, 128, 32, 15, 1, (.u 16), .rw, 100, (.between 10 450), true, 2, 0, .live⟩,  -- OBS_CONV_ERR
  ⟨0x4008, 128, 32, 16, 1, (.u 16), .rw, 50, (.between 1 1000), true, 2, 0, .live⟩,  -- OBS_CONV_TIME
  ⟨0x4008, 128, 32, 17, 1, (.u 8), .ro, 0, .any, false, 0, 0, .live⟩,  -- OBS_STATE
  ⟨0x4008, 128, 32, 18, 1, (.i 16), .ro, 0, .any, false, 0, 0, .live⟩,  -- OBS_ANGLE_ERR
  ⟨0x4008, 128, 32, 19, 1, (.i 16), .ro, 0, .any, false, 0, 0, .live⟩,  -- OBS_ANGLE_DEV
  ⟨0x4008, 128, 32, 20, 1, (.i 32), .ro, 0, .any, false, 0, 0, .live⟩,  -- OBS_SPEED
  ⟨0x4008, 128, 32, 21, 1, (.u 32), .ro, 0, .any, false, 0, 0, .live⟩,  -- ELEC_ANGLE
  ⟨0x4008, 128, 32, 22, 1, (.u 32), .ro, 0, .any, false, 0, 0, .live⟩]  -- BUS_ZERO_COUNT

/-- Object rows from index 0x4009 (R229). -/
def odRows4009_1 : List OdRow := [
  ⟨0x4009, 128, 32, 1, 1, (.u 16), .rw, 256, (.oneOf [1, 2, 4, 8, 16, 32, 64, 128, 256]), true, 2, 0, .live⟩,  -- MICROSTEP_RES
  ⟨0x4009, 128, 32, 2, 1, .real32, .rw, 1065353216, (.special .upToImax), true, 2, 0, .live⟩,  -- I_RUN
  ⟨0x4009, 128, 32, 3, 1, .real32, .rw, 1056964608, (.special .upToIrun), true, 2, 0, .live⟩,  -- I_HOLD
  ⟨0x4009, 128, 32, 4, 1, (.u 16), .rw, 200, (.between 1 10000), true, 2, 0, .live⟩,  -- HOLD_DELAY
  ⟨0x4009, 128, 32, 5, 1, .bool, .rw, 1, (.between 0 1), true, 2, 0, .live⟩,  -- STALL_ENABLE
  ⟨0x4009, 128, 32, 6, 1, (.u 16), .rw, 700, (.between 100 900), true, 2, 0, .live⟩,  -- STALL_ANGLE
  ⟨0x4009, 128, 32, 7, 1, (.u 16), .rw, 32, (.between 1 65535), true, 2, 0, .live⟩,  -- STALL_CYCLES
  ⟨0x4009, 128, 32, 8, 1, (.i 32), .rw, 6554, (.between 1 2147483647), true, 2, 0, .live⟩,  -- STALL_SPEED
  ⟨0x4009, 128, 32, 9, 1, (.u 16), .rw, 50, (.between 1 10000), true, 2, 0, .live⟩,  -- STALL_TIME
  ⟨0x4009, 128, 32, 10, 1, (.u 8), .ro, 0, .any, false, 0, 0, .live⟩,  -- SENSORLESS_PHASE
  ⟨0x4009, 128, 32, 11, 1, (.i 16), .ro, 0, .any, false, 0, 0, .live⟩,  -- LOAD_ANGLE
  ⟨0x4009, 128, 32, 12, 1, (.u 16), .ro, 0, .any, false, 0, 0, .live⟩,  -- LOAD_ANGLE_PEAK
  ⟨0x4009, 128, 32, 13, 1, (.u 32), .ro, 0, .any, false, 0, 0, .live⟩,  -- STALLS
  ⟨0x4009, 128, 32, 14, 1, (.u 8), .wo, 0, (.oneOf [1]), false, 1, 0, .live⟩]  -- COUNTER_RESET

/-- Object rows from index 0x400A (R279). -/
def odRows400A_1 : List OdRow := [
  ⟨0x400A, 128, 32, 1, 1, (.u 8), .rw, 1, (.oneOf [0, 1, 2]), true, 2, 0, .config⟩,  -- FB_SOURCE
  ⟨0x400A, 128, 32, 2, 1, (.u 8), .rw, 255, (.orNone 0 7 255), true, 2, 0, .config⟩,  -- FB_CHANNEL
  ⟨0x400A, 128, 32, 3, 1, (.u 32), .rw, 1048576, (.between 1 2147483648), true, 2, 0, .config⟩,  -- COUNTS_PER_TURN
  ⟨0x400A, 128, 32, 4, 1, .bool, .rw, 0, (.between 0 1), true, 2, 0, .config⟩,  -- FB_INVERT
  ⟨0x400A, 128, 32, 5, 1, (.u 8), .rw, 2, (.between 1 8), true, 2, 0, .live⟩,  -- N_LOST
  ⟨0x400A, 128, 32, 6, 1, (.u 16), .rw, 32, (.between 2 65535), true, 2, 0, .live⟩,  -- N_FREEZE
  ⟨0x400A, 128, 32, 7, 1, (.i 32), .rw, 65536, (.between 1 2147483647), true, 2, 0, .live⟩,  -- FREEZE_SPEED
  ⟨0x400A, 128, 32, 8, 1, .bool, .rw, 0, (.between 0 1), true, 2, 0, .live⟩,  -- QERR_FAULT
  ⟨0x400A, 128, 32, 9, 1, (.u 8), .ro, 0, .any, false, 0, 0, .live⟩,  -- FB_STATUS
  ⟨0x400A, 128, 32, 10, 1, (.i 64), .ro, 0, .any, false, 0, 0, .live⟩,  -- MEASURED_POS
  ⟨0x400A, 128, 32, 11, 1, (.i 64), .ro, 0, .any, false, 0, 0, .live⟩,  -- UNWRAPPED_COUNT
  ⟨0x400A, 128, 32, 12, 1, (.i 64), .ro, 0, .any, false, 0, 0, .live⟩,  -- FRAME_SHIFT
  ⟨0x400A, 128, 32, 13, 1, (.i 64), .ro, 0, .any, false, 0, 0, .live⟩,  -- INDEX_POS
  ⟨0x400A, 128, 32, 14, 1, (.u 32), .ro, 0, .any, false, 0, 0, .live⟩,  -- EXTRAP_CYCLES
  ⟨0x400A, 128, 32, 15, 1, (.u 32), .ro, 0, .any, false, 0, 0, .live⟩,  -- FEEDBACK_FAULTS
  ⟨0x400A, 128, 32, 16, 1, (.u 32), .ro, 0, .any, false, 0, 0, .live⟩,  -- SEQ_GAPS
  ⟨0x400A, 128, 32, 17, 1, (.u 8), .ro, 0, .any, false, 0, 0, .live⟩,  -- MISSING_RUN
  ⟨0x400A, 128, 32, 18, 1, (.u 8), .wo, 0, (.oneOf [1]), false, 1, 0, .live⟩]  -- COUNTER_RESET

/-- Object rows from index 0x400B (R194, R280). -/
def odRows400B_1 : List OdRow := [
  ⟨0x400B, 128, 32, 1, 1, (.u 32), .rw, 20000000, (.between 100000 1000000000), true, 2, 0, .live⟩,  -- T_ZERO
  ⟨0x400B, 128, 32, 2, 1, (.i 32), .ro, 0, .any, false, 0, 0, .live⟩,  -- SPEED_EST
  ⟨0x400B, 128, 32, 3, 1, (.u 8), .ro, 0, .any, false, 0, 0, .live⟩,  -- EST_SOURCE
  ⟨0x400B, 128, 32, 4, 1, (.u 32), .ro, 0, .any, false, 0, 0, .live⟩,  -- EDGE_PERIOD
  ⟨0x400B, 128, 32, 5, 1, (.u 32), .ro, 0, .any, false, 0, 0, .live⟩,  -- DIR_CHANGES
  ⟨0x400B, 128, 32, 6, 1, (.u 32), .ro, 0, .any, false, 0, 0, .live⟩,  -- EDGE_T_INVALID
  ⟨0x400C, 128, 32, 1, 1, .real32, .rw, 1065353216, (.real (5368709 / 536870912) 2048), true, 2, 0, .live⟩,  -- I_MAX
  ⟨0x400C, 128, 32, 2, 1, .real32, .rw, 1111490560, (.real 1 1000), true, 2, 0, .live⟩,  -- V_MAX
  ⟨0x400C, 128, 32, 3, 1, (.u 16), .rw, 950, (.between 100 1000), true, 2, 0, .live⟩,  -- MOD_LIMIT
  ⟨0x400C, 128, 32, 4, 1, (.i 32), .rw, 655360, (.between 1 2147483647), true, 2, 0, .live⟩,  -- VEL_MAX
  ⟨0x400C, 128, 32, 5, 1, (.i 32), .rw, 786432, (.special .overspeed), true, 2, 0, .live⟩,  -- OVERSPEED
  ⟨0x400C, 128, 32, 6, 1, (.i 64), .rw, (-9223372036854775808), (.special .softMin), true, 2, 0, .live⟩,  -- POS_SOFT_MIN
  ⟨0x400C, 128, 32, 7, 1, (.i 64), .rw, 9223372036854775807, (.special .softMax), true, 2, 0, .live⟩,  -- POS_SOFT_MAX
  ⟨0x400C, 128, 32, 8, 1, .bool, .rw, 0, (.between 0 1), true, 2, 0, .live⟩,  -- SOFT_LIMIT_ENABLE
  ⟨0x400C, 128, 32, 9, 1, (.u 64), .rw, 1073741824, (.between 0 140737488355327), true, 2, 0, .live⟩,  -- FE_WINDOW
  ⟨0x400C, 128, 32, 10, 1, (.u 16), .rw, 32, (.between 1 65535), true, 2, 0, .live⟩]  -- FE_TIME

/-- Object rows from index 0x400D (R258). -/
def odRows400D_1 : List OdRow := [
  ⟨0x400D, 128, 32, 1, 1, (.u 8), .rw, 0, (.between 0 9), true, 2, 0, .live⟩,  -- HOMING_METHOD
  ⟨0x400D, 128, 32, 2, 1, (.i 32), .rw, 65536, (.special .upToVelMax), true, 2, 0, .live⟩,  -- HOME_SEARCH_VEL
  ⟨0x400D, 128, 32, 3, 1, (.i 32), .rw, 6554, (.special .upToSearchVel), true, 2, 0, .live⟩,  -- HOME_CREEP_VEL
  ⟨0x400D, 128, 32, 4, 1, .real32, .rw, 1092616192, (.real (5368709 / 536870912) 100000), true, 2, 0, .live⟩,  -- HOME_ACC
  ⟨0x400D, 128, 32, 5, 1, (.i 64), .rw, 0, .any, true, 2, 0, .live⟩,  -- HOME_OFFSET
  ⟨0x400D, 128, 32, 6, 1, (.u 32), .rw, 4294967295, (.special .fastBitInput), true, 2, 0, .live⟩,  -- HOME_SWITCH_POINT
  ⟨0x400D, 128, 32, 7, 1, (.u 32), .rw, 4294967295, (.special .fastBitInput), true, 2, 0, .live⟩,  -- LIMIT_NEG_POINT
  ⟨0x400D, 128, 32, 8, 1, (.u 32), .rw, 4294967295, (.special .fastBitInput), true, 2, 0, .live⟩,  -- LIMIT_POS_POINT
  ⟨0x400D, 128, 32, 9, 1, (.u 8), .rw, 0, (.between 0 7), true, 2, 0, .live⟩,  -- SWITCH_POLARITY
  ⟨0x400D, 128, 32, 10, 1, (.u 8), .rw, 2, (.between 0 20), true, 2, 0, .live⟩,  -- SWITCH_DEBOUNCE
  ⟨0x400D, 128, 32, 11, 1, (.u 64), .rw, 0, (.between 0 140737488355327), true, 2, 0, .live⟩,  -- HOME_MAX_TRAVEL
  ⟨0x400D, 128, 32, 12, 1, (.u 8), .wo, 0, (.oneOf [1]), false, 1, 0, .live⟩,  -- HOMING_START
  ⟨0x400D, 128, 32, 13, 1, (.u 8), .ro, 0, .any, false, 0, 0, .live⟩,  -- HOMING_STATE
  ⟨0x400D, 128, 32, 14, 1, (.u 8), .ro, 0, .any, false, 0, 0, .live⟩,  -- HOMING_RESULT
  ⟨0x400D, 128, 32, 15, 1, .bool, .ro, 0, .any, false, 0, 0, .live⟩,  -- HOMED
  ⟨0x400D, 128, 32, 16, 1, (.i 64), .ro, 0, .any, false, 0, 0, .live⟩]  -- HOME_LATCHED

/-- Object rows from index 0x400E (R259). -/
def odRows400E_1 : List OdRow := [
  ⟨0x400E, 128, 32, 1, 1, (.u 16), .rw, 0, (.between 0 49152), true, 2, 0, .config⟩,  -- SEG_ALLOC
  ⟨0x400E, 128, 32, 2, 1, (.octet 32), .wo, 0, .any, false, 1, 0, .live⟩,  -- SEG_APPEND
  ⟨0x400E, 128, 32, 3, 1, (.u 16), .ro, 0, .any, false, 0, 0, .live⟩,  -- QUEUE_LEVEL
  ⟨0x400E, 128, 32, 4, 1, (.u 8), .rw, 0, (.oneOf [0, 1, 2]), true, 1, 0, .live⟩,  -- MOVE_MODE
  ⟨0x400E, 128, 32, 5, 1, (.u 32), .rw, 0, (.special .upToSegAlloc), true, 1, 0, .live⟩,  -- TABLE_COUNT
  ⟨0x400E, 128, 32, 6, 1, (.u 8), .wo, 0, (.oneOf [1]), false, 1, 0, .live⟩,  -- TABLE_START
  ⟨0x400E, 128, 32, 7, 1, (.u 8), .wo, 0, (.oneOf [1]), false, 1, 0, .live⟩,  -- TABLE_STOP
  ⟨0x400E, 128, 32, 8, 1, (.u 8), .wo, 0, (.oneOf [1]), false, 1, 0, .live⟩,  -- QUEUE_CLEAR
  ⟨0x400E, 128, 32, 9, 1, (.u 8), .ro, 0, .any, false, 0, 0, .live⟩,  -- MOVE_STATE
  ⟨0x400E, 128, 32, 10, 1, (.u 16), .ro, 0, .any, false, 0, 0, .live⟩,  -- CURRENT_TAG
  ⟨0x400E, 128, 32, 11, 1, (.u 32), .ro, 0, .any, false, 0, 0, .live⟩,  -- SEGMENTS_DONE
  ⟨0x400E, 128, 32, 12, 1, (.u 32), .ro, 0, .any, false, 0, 0, .live⟩,  -- REPEATS_DONE
  ⟨0x400E, 128, 32, 13, 1, (.u 8), .ro, 0, .any, false, 0, 0, .live⟩,  -- LAST_SEG_REJECT
  ⟨0x400E, 128, 32, 14, 1, (.u 32), .ro, 0, .any, false, 0, 0, .live⟩,  -- SEG_REJECTS
  ⟨0x400E, 128, 32, 15, 1, (.u 32), .ro, 0, .any, false, 0, 0, .live⟩,  -- UNDERFLOWS
  ⟨0x400E, 128, 32, 16, 1, (.u 8), .wo, 0, (.oneOf [1]), false, 1, 0, .live⟩]  -- COUNTER_RESET

/-- Object rows from index 0x400F (R260). -/
def odRows400F_1 : List OdRow := [
  ⟨0x400F, 128, 32, 1, 1, (.u 8), .wo, 0, (.oneOf [1, 2, 3, 4]), false, 1, 0, .live⟩,  -- MOVE_COMMAND
  ⟨0x400F, 128, 32, 2, 1, (.i 64), .rw, 0, .any, false, 1, 0, .live⟩,  -- TARGET_POS
  ⟨0x400F, 128, 32, 3, 1, (.i 32), .rw, 65536, (.special .upToVelMax), true, 1, 0, .live⟩,  -- PROFILE_VEL
  ⟨0x400F, 128, 32, 4, 1, .real32, .rw, 1092616192, (.real (5368709 / 536870912) 100000), true, 1, 0, .live⟩,  -- PROFILE_ACC
  ⟨0x400F, 128, 32, 5, 1, .real32, .rw, 1092616192, (.real (5368709 / 536870912) 100000), true, 1, 0, .live⟩,  -- PROFILE_DEC
  ⟨0x400F, 128, 32, 6, 1, (.i 32), .rw, 0, (.special .withinVelMax), false, 1, 0, .live⟩,  -- JOG_VEL
  ⟨0x400F, 128, 32, 7, 1, .real32, .rw, 1092616192, (.real (5368709 / 536870912) 100000), true, 1, 0, .live⟩,  -- JOG_ACC
  ⟨0x400F, 128, 32, 8, 1, .real32, .rw, 1092616192, (.real (5368709 / 536870912) 100000), true, 1, 0, .live⟩,  -- JOG_DEC
  ⟨0x400F, 128, 32, 9, 1, .real32, .rw, 1092616192, (.real (5368709 / 536870912) 100000), true, 2, 0, .live⟩,  -- STOP_DEC
  ⟨0x400F, 128, 32, 10, 1, .real32, .rw, 1120403456, (.real (5368709 / 536870912) 100000), true, 2, 0, .live⟩,  -- QUICK_STOP_DEC
  ⟨0x400F, 128, 32, 11, 1, (.u 8), .ro, 0, .any, false, 0, 0, .live⟩,  -- SOURCE
  ⟨0x400F, 128, 32, 12, 1, (.u 8), .ro, 0, .any, false, 0, 0, .live⟩,  -- RAMP_PHASE
  ⟨0x400F, 128, 32, 13, 1, (.i 64), .ro, 0, .any, false, 0, 0, .live⟩,  -- SETPOINT_POS
  ⟨0x400F, 128, 32, 14, 1, (.i 32), .ro, 0, .any, false, 0, 0, .live⟩,  -- PROFILE_VEL_NOW
  ⟨0x400F, 128, 32, 15, 1, .real32, .ro, 0, .any, false, 0, 0, .live⟩,  -- PROFILE_ACC_NOW
  ⟨0x400F, 128, 32, 16, 1, (.u 8), .ro, 0, .any, false, 0, 0, .live⟩,  -- MOTION_FLAGS
  ⟨0x400F, 128, 32, 17, 1, (.u 8), .ro, 0, .any, false, 0, 0, .live⟩]  -- LAST_MOTION_REFUSAL

/-- Object rows from index 0x4010 (R261). -/
def odRows4010_1 : List OdRow := [
  ⟨0x4010, 128, 32, 1, 1, (.u 8), .rw, 255, (.orNone 0 7 255), true, 2, 0, .live⟩,  -- STEP_CHANNEL
  ⟨0x4010, 128, 32, 2, 1, (.i 64), .rw, 1048576, (.special .nonzero), true, 2, 0, .live⟩,  -- STEP_SIZE
  ⟨0x4010, 128, 32, 3, 1, (.u 8), .rw, 1, (.between 1 8), true, 2, 0, .live⟩,  -- STEP_DELAY
  ⟨0x4010, 128, 32, 4, 1, (.u 8), .wo, 0, (.oneOf [1, 2]), false, 1, 0, .live⟩,  -- STEP_ENGAGE
  ⟨0x4010, 128, 32, 5, 1, (.i 64), .ro, 0, .any, false, 0, 0, .live⟩,  -- STEP_ORIGIN
  ⟨0x4010, 128, 32, 6, 1, (.i 32), .ro, 0, .any, false, 0, 0, .live⟩,  -- STEP_COUNT
  ⟨0x4011, 128, 32, 1, 1, (.u 8), .rw, 0, (.between 0 7), true, 2, 0, .live⟩,  -- CAM_MASTER
  ⟨0x4011, 128, 32, 2, 1, (.i 32), .rw, 1, (.special .nonzero), true, 1, 0, .live⟩,  -- GEAR_NUM
  ⟨0x4011, 128, 32, 3, 1, (.u 32), .rw, 1, (.between 1 4294967295), true, 1, 0, .live⟩,  -- GEAR_DEN
  ⟨0x4011, 128, 32, 4, 1, (.u 8), .wo, 0, (.oneOf [1, 2]), false, 1, 0, .live⟩,  -- GEAR_ENGAGE
  ⟨0x4011, 128, 32, 5, 1, (.i 64), .ro, 0, .any, false, 0, 0, .live⟩,  -- MASTER_POS_USED
  ⟨0x4011, 128, 32, 6, 1, (.i 32), .ro, 0, .any, false, 0, 0, .live⟩,  -- CAM_ADVANCE
  ⟨0x4011, 128, 32, 7, 1, (.u 32), .ro, 0, .any, false, 0, 0, .live⟩,  -- BACK_DEBT
  ⟨0x4011, 128, 32, 8, 1, (.u 32), .ro, 0, .any, false, 0, 0, .live⟩]  -- CAM_CATCHUPS

/-- Object rows from index 0x4012 (R229, R281). -/
def odRows4012_1 : List OdRow := [
  ⟨0x4012, 128, 32, 1, 1, (.u 8), .rw, 1, (.oneOf [0, 1, 2]), true, 2, 0, .live⟩,  -- REACT_FOLLOWING_ERROR
  ⟨0x4012, 128, 32, 2, 1, (.u 8), .rw, 1, (.between 0 2), true, 2, 0, .live⟩,  -- REACT_SOFT_LIMIT
  ⟨0x4012, 128, 32, 3, 1, (.u 8), .rw, 0, (.between 0 2), true, 2, 0, .live⟩,  -- REACT_OVERSPEED
  ⟨0x4012, 128, 32, 4, 1, (.u 8), .rw, 0, (.between 0 2), true, 2, 0, .live⟩,  -- REACT_STALL
  ⟨0x4012, 128, 32, 5, 1, (.u 8), .rw, 1, (.between 0 2), true, 2, 0, .live⟩,  -- REACT_ENCODER
  ⟨0x4012, 128, 32, 6, 1, (.u 8), .rw, 2, (.between 0 2), true, 2, 0, .live⟩,  -- REACT_ISLAND_TEMP
  ⟨0x4013, 128, 32, 1, 1, .bool, .rw, 1, (.between 0 1), true, 2, 0, .live⟩,  -- DEG_ENABLE
  ⟨0x4013, 128, 32, 2, 1, (.u 16), .rw, 200, (.between 10 2000), true, 2, 0, .live⟩,  -- DEG_TIME
  ⟨0x4013, 128, 32, 3, 1, (.u 8), .ro, 0, .any, false, 0, 0, .live⟩,  -- DEG_STATE
  ⟨0x4013, 128, 32, 4, 1, (.u 32), .ro, 0, .any, false, 0, 0, .live⟩,  -- DEG_ENTRIES
  ⟨0x4013, 128, 32, 5, 1, (.u 8), .ro, 0, .any, false, 0, 0, .live⟩,  -- LAST_DEG_CAUSE
  ⟨0x4013, 128, 32, 6, 1, (.u 8), .ro, 0, .any, false, 0, 0, .live⟩,  -- LAST_DEG_OUTCOME
  ⟨0x4013, 128, 32, 7, 1, (.u 16), .ro, 0, .any, false, 0, 0, .live⟩]  -- LAST_DEG_DURATION

/-- Object rows from index 0x4014 (R420). -/
def odRows4014_1 : List OdRow := [
  ⟨0x4014, 128, 32, 1, 1, (.u 8), .rw, 4, (.between 0 8), true, 2, 0, .live⟩,  -- TRACE_NODES
  ⟨0x4014, 128, 32, 2, 1, (.u 8), .rw, 2, (.between 1 14), true, 2, 0, .live⟩,  -- TRACE_SIGNAL
  ⟨0x4014, 128, 32, 3, 1, (.u 8), .rw, 3, (.between 1 14), true, 2, 0, .live⟩,  -- TRACE_SIGNAL
  ⟨0x4014, 128, 32, 4, 1, (.u 8), .rw, 5, (.between 1 14), true, 2, 0, .live⟩,  -- TRACE_SIGNAL
  ⟨0x4014, 128, 32, 5, 1, (.u 8), .rw, 7, (.between 1 14), true, 2, 0, .live⟩,  -- TRACE_SIGNAL
  ⟨0x4014, 128, 32, 6, 1, (.u 8), .rw, 1, (.between 1 14), true, 2, 0, .live⟩,  -- TRACE_SIGNAL
  ⟨0x4014, 128, 32, 7, 1, (.u 8), .rw, 1, (.between 1 14), true, 2, 0, .live⟩,  -- TRACE_SIGNAL
  ⟨0x4014, 128, 32, 8, 1, (.u 8), .rw, 1, (.between 1 14), true, 2, 0, .live⟩,  -- TRACE_SIGNAL
  ⟨0x4014, 128, 32, 9, 1, (.u 8), .rw, 1, (.between 1 14), true, 2, 0, .live⟩,  -- TRACE_SIGNAL
  ⟨0x4014, 128, 32, 10, 1, (.u 8), .rw, 1, (.between 1 16), true, 2, 0, .live⟩,  -- TRACE_DIV
  ⟨0x4014, 128, 32, 11, 1, (.u 16), .rw, 64, (.special .postFaultRows), true, 2, 0, .live⟩,  -- POST_FAULT_ROWS
  ⟨0x4014, 128, 32, 12, 1, (.u 8), .rw, 3, (.between 0 7), true, 2, 0, .live⟩,  -- FREEZE_ON
  ⟨0x4014, 128, 32, 13, 1, (.u 8), .ro, 0, .any, false, 0, 0, .live⟩,  -- TRACE_STATE
  ⟨0x4014, 128, 32, 14, 1, (.u 8), .wo, 0, (.oneOf [1, 2]), false, 1, 0, .live⟩,  -- TRACE_CONTROL
  ⟨0x4014, 128, 32, 15, 1, (.u 8), .ro, 0, .any, false, 0, 0, .live⟩,  -- FREEZE_CAUSE
  ⟨0x4014, 128, 32, 16, 1, (.u 32), .ro, 0, .any, false, 0, 0, .live⟩,  -- FREEZE_CYCLE
  ⟨0x4014, 128, 32, 17, 1, (.u 16), .ro, 0, .any, false, 0, 0, .live⟩,  -- TRACE_OLDEST
  ⟨0x4014, 128, 32, 18, 1, (.u 16), .ro, 409, .any, false, 0, 0, .live⟩,  -- TRACE_DEPTH
  ⟨0x4014, 128, 32, 19, 2, (.octet 4096), .ro, 0, .any, false, 0, 0, .live⟩]  -- TRACE_BUFFER

/-- Object rows from index 0x4015 (R343). -/
def odRows4015_1 : List OdRow := [
  ⟨0x4015, 128, 32, 1, 1, (.u 32), .ro, 0, .any, false, 0, 0, .live⟩,  -- INTERRUPTED_CYCLES
  ⟨0x4015, 128, 32, 2, 1, (.u 8), .ro, 0, .any, false, 0, 0, .live⟩,  -- INTERRUPT_RUN_PEAK
  ⟨0x4015, 128, 32, 3, 1, (.u 32), .ro, 0, .any, false, 0, 0, .live⟩,  -- LAST_INTERRUPT_CYCLE
  ⟨0x4015, 128, 32, 4, 1, (.u 8), .ro, 0, .any, false, 0, 0, .live⟩,  -- LAST_INTERRUPT_KIND
  ⟨0x4015, 128, 32, 5, 1, (.u 32), .ro, 0, .any, false, 0, 0, .live⟩,  -- ENABLE_COUNT
  ⟨0x4015, 128, 32, 6, 1, (.u 32), .ro, 0, .any, false, 0, 0, .live⟩,  -- OPERATION_TIME
  ⟨0x4015, 128, 32, 7, 1, (.u 8), .wo, 0, (.oneOf [1]), false, 1, 0, .live⟩]  -- COUNTER_RESET

/-- Object rows from index 0x5000 (R257). -/
def odRows5000_1 : List OdRow := [
  ⟨0x5000, 1, 1, 1, 1, (.u 32), .ro, 49152, .any, false, 0, 0, .live⟩,  -- POOL_SEGMENTS
  ⟨0x5000, 1, 1, 2, 1, (.u 32), .ro, 0, .any, false, 0, 0, .live⟩,  -- POOL_ALLOCATED
  ⟨0x5000, 1, 1, 3, 1, (.u 32), .ro, 0, .any, false, 0, 0, .live⟩]  -- POOL_UNDERFLOWS

/-- Object rows from index 0x5400 (R303). -/
def odRows5400_1 : List OdRow := [
  ⟨0x5400, 1, 1, 1, 1, (.u 8), .rw, 1, (.between 0 16), true, 2, 0, .live⟩,  -- LATE_WINDOW
  ⟨0x5400, 1, 1, 2, 1, (.u 8), .rw, 2, (.between 1 3), true, 2, 0, .live⟩,  -- LEAD_CYCLES
  ⟨0x5400, 1, 1, 3, 1, (.u 16), .ro, 0, .any, false, 0, 0, .live⟩,  -- ENTRIES_ARMED
  ⟨0x5400, 1, 1, 4, 1, (.u 32), .ro, 0, .any, false, 0, 0, .live⟩,  -- WHEEL_LATE
  ⟨0x5400, 1, 1, 5, 1, (.u 32), .ro, 0, .any, false, 0, 0, .live⟩,  -- WHEEL_PASSED
  ⟨0x5400, 1, 1, 6, 1, (.u 32), .ro, 0, .any, false, 0, 0, .live⟩,  -- WHEEL_MISSED
  ⟨0x5400, 1, 1, 7, 1, (.u 32), .ro, 0, .any, false, 0, 0, .live⟩,  -- SKIPPED_CROSSINGS
  ⟨0x5400, 1, 1, 8, 1, (.u 8), .wo, 0, (.oneOf [1]), false, 1, 0, .live⟩,  -- COUNTER_RESET
  ⟨0x5401, 8, 1, 1, 1, (.u 8), .rw, 0, (.oneOf [0, 1, 2, 3, 4]), true, 2, 0, .config⟩,  -- MASTER_SOURCE
  ⟨0x5401, 8, 1, 2, 1, (.u 8), .rw, 0, (.special .masterRef), true, 2, 0, .config⟩,  -- MASTER_REF
  ⟨0x5401, 8, 1, 3, 1, (.u 32), .rw, 4096, (.between 1 2147483648), true, 2, 0, .config⟩,  -- MASTER_COUNTS_PER_TURN
  ⟨0x5401, 8, 1, 4, 1, (.u 32), .rw, 20000000, (.between 100000 1000000000), true, 2, 0, .live⟩,  -- MASTER_T_ZERO
  ⟨0x5401, 8, 1, 5, 1, (.i 32), .rw, 0, .any, true, 1, 0, .live⟩,  -- VIRT_SPEED
  ⟨0x5401, 8, 1, 6, 1, .real32, .rw, 1092616192, (.real (5368709 / 536870912) 100000), true, 1, 0, .live⟩,  -- VIRT_ACC
  ⟨0x5401, 8, 1, 7, 1, (.i 64), .ro, 0, .any, false, 0, 0, .live⟩,  -- MASTER_POS
  ⟨0x5401, 8, 1, 8, 1, (.i 32), .ro, 0, .any, false, 0, 0, .live⟩,  -- MASTER_SPEED
  ⟨0x5401, 8, 1, 9, 1, .real32, .ro, 0, .any, false, 0, 0, .live⟩]  -- MASTER_ACC

/-- Object rows from index 0x5410 (R303). -/
def odRows5410_0 : List OdRow := [
  ⟨0x5410, 16, 1, 0, 256, (.octet 32), .rw, 0, .any, false, 1, 0, .live⟩,  -- ENTRY
  ⟨0x5420, 16, 1, 0, 256, (.u 16), .ro, 0, .any, false, 0, 0, .live⟩]  -- ENTRY_STATUS

/-- Object rows from index 0x5800 (R304). -/
def odRows5800_1 : List OdRow := [
  ⟨0x5800, 24, 1, 1, 1, (.u 32), .rw, 4294967295, (.orNone 0 262143 4294967295), true, 2, 0, .config⟩,  -- FIRST_POINT
  ⟨0x5800, 24, 1, 2, 1, (.u 8), .rw, 0, (.between 0 64), true, 2, 0, .config⟩,  -- RUN_COUNT
  ⟨0x5800, 24, 1, 3, 64, (.u 32), .rw, 0, (.special .mapRun), true, 2, 0, .config⟩,  -- RUN
  ⟨0x5800, 24, 1, 67, 1, (.u 16), .ro, 0, .any, false, 0, 0, .live⟩,  -- POINTS
  ⟨0x5820, 24, 1, 1, 1, .bool, .ro, 0, .any, false, 0, 0, .live⟩,  -- INPUTS_VALID
  ⟨0x5820, 24, 1, 2, 1, (.u 32), .ro, 0, .any, false, 0, 0, .live⟩,  -- FAST_SAMPLE_CYCLE
  ⟨0x5820, 24, 1, 3, 1, (.u 32), .ro, 0, .any, false, 0, 0, .live⟩,  -- MEDIUM_SAMPLE_CYCLE
  ⟨0x5820, 24, 1, 4, 1, (.u 32), .ro, 0, .any, false, 0, 0, .live⟩,  -- SLOW_SAMPLE_CYCLE
  ⟨0x5820, 24, 1, 5, 1, (.u 32), .ro, 0, .any, false, 0, 0, .live⟩,  -- OC_SAMPLE_CYCLE
  ⟨0x5820, 24, 1, 6, 1, (.u 32), .ro, 0, .any, false, 0, 0, .live⟩,  -- OC_TRANSFERS
  ⟨0x5840, 1, 1, 1, 1, (.u 32), .ro, 0, .any, false, 0, 0, .live⟩,  -- POINTS_ALLOCATED
  ⟨0x5840, 1, 1, 2, 1, (.u 16), .ro, 0, .any, false, 0, 0, .live⟩,  -- FAST_POINTS
  ⟨0x5840, 1, 1, 3, 1, (.u 32), .ro, 0, .any, false, 0, 0, .live⟩]  -- SNAPSHOT_CYCLE

/-- Object rows from index 0x6000 (R451). -/
def odRows6000_1 : List OdRow := [
  ⟨0x6000, 1, 1, 1, 1, (.u 8), .ro, 0, .any, false, 0, 0, .live⟩,  -- LH_STATE
  ⟨0x6000, 1, 1, 2, 1, (.u 8), .ro, 0, .any, false, 0, 0, .live⟩,  -- LH_FAULT_CAUSE
  ⟨0x6000, 1, 1, 3, 1, (.u 32), .ro, 0, .any, false, 0, 0, .live⟩,  -- SAFETY_SIG_ACTIVE
  ⟨0x6000, 1, 1, 4, 1, (.u 32), .ro, 0, .any, false, 0, 0, .live⟩,  -- SAFETY_SIG_PENDING
  ⟨0x6000, 1, 1, 5, 1, (.u 32), .wo, 0, .any, false, 3, 0, .live⟩,  -- SAFETY_SIG_ACK
  ⟨0x6000, 1, 1, 6, 1, .bool, .ro, 0, .any, false, 0, 0, .live⟩,  -- SAFETY_PENDING
  ⟨0x6000, 1, 1, 7, 1, (.u 8), .wo, 0, (.oneOf [1]), false, 3, 0, .live⟩,  -- SAFETY_DISCARD
  ⟨0x6000, 1, 1, 8, 1, (.vstring 32), .wo, 0, (.between 8 32), false, 3, 0, .live⟩,  -- PASSWORD_NEW
  ⟨0x6000, 1, 1, 9, 1, (.u 8), .ro, 0, .any, false, 0, 0, .live⟩,  -- PASSWORD_STATE
  ⟨0x6000, 1, 1, 10, 1, (.u 32), .wo, 0, (.oneOf [1397113676]), false, 4, 0, .live⟩,  -- SAFETY_CLEAR
  ⟨0x6000, 1, 1, 11, 1, (.u 32), .rw, 3600, (.between 60 28800), true, 3, 0, .safety⟩,  -- DEGRADED_TIME
  ⟨0x6000, 1, 1, 12, 1, (.u 16), .rw, 10, (.between 1 100), true, 3, 0, .safety⟩,  -- SC_LOSS_TIME
  ⟨0x6000, 1, 1, 13, 1, (.u 16), .rw, 64, (.between 8 1024), true, 3, 0, .safety⟩,  -- XCHK_MISS_MAX
  ⟨0x6000, 1, 1, 14, 1, (.u 8), .wo, 0, (.oneOf [1]), false, 1, 0, .live⟩,  -- SAFETY_RESET
  ⟨0x6000, 1, 1, 15, 1, (.u 32), .ro, 0, .any, false, 0, 0, .live⟩,  -- PEER_SIG
  ⟨0x6000, 1, 1, 16, 1, (.u 32), .ro, 0, .any, false, 0, 0, .live⟩]  -- ACTIVATIONS

/-- Object rows from index 0x6001 (R451). -/
def odRows6001_1 : List OdRow := [
  ⟨0x6001, 1, 1, 1, 1, (.u 8), .ro, 0, .any, false, 0, 0, .live⟩,  -- DEGRADED_STATE
  ⟨0x6001, 1, 1, 2, 1, (.u 8), .ro, 0, .any, false, 0, 0, .live⟩,  -- DEGRADED_CAUSE
  ⟨0x6001, 1, 1, 3, 1, (.u 8), .ro, 0, .any, false, 0, 0, .live⟩,  -- DEGRADED_REF
  ⟨0x6001, 1, 1, 4, 1, (.u 32), .ro, 0, .any, false, 0, 0, .live⟩,  -- DEGRADED_REMAIN
  ⟨0x6001, 1, 1, 5, 1, (.u 8), .wo, 0, (.oneOf [1]), false, 1, 0, .live⟩,  -- SAFETY_ACK
  ⟨0x6010, 16, 1, 1, 1, (.u 8), .rw, 0, (.oneOf [0, 1, 2]), true, 3, 0, .safety⟩,  -- SI_MODE
  ⟨0x6010, 16, 1, 2, 1, (.u 8), .rw, 20, (.between 5 100), true, 3, 0, .safety⟩,  -- SI_FILTER
  ⟨0x6010, 16, 1, 3, 1, (.u 16), .rw, 50, (.between 5 1000), true, 3, 0, .safety⟩,  -- SI_DISCREPANCY
  ⟨0x6010, 16, 1, 4, 1, .bool, .rw, 1, (.between 0 1), true, 3, 0, .safety⟩,  -- SI_TEST_PULSE
  ⟨0x6010, 16, 1, 5, 1, (.u 8), .rw, 0, (.oneOf [0, 1, 2, 3, 4]), true, 3, 0, .safety⟩,  -- SI_FUNCTION
  ⟨0x6010, 16, 1, 6, 1, (.u 8), .rw, 0, (.between 0 255), true, 3, 0, .safety⟩,  -- SI_GROUPS
  ⟨0x6020, 16, 1, 1, 1, (.u 8), .ro, 0, .any, false, 0, 0, .live⟩,  -- SI_STATE
  ⟨0x6020, 16, 1, 2, 1, (.u 8), .ro, 0, .any, false, 0, 0, .live⟩,  -- SI_FAULT
  ⟨0x6020, 16, 1, 3, 1, (.u 8), .ro, 0, .any, false, 0, 0, .live⟩]  -- SI_RAW

/-- Object rows from index 0x6040 (R451). -/
def odRows6040_1 : List OdRow := [
  ⟨0x6040, 8, 1, 1, 4, (.u 32), .rw, 0, .any, true, 3, 0, .safety⟩,  -- GROUP_AXES
  ⟨0x6040, 8, 1, 5, 1, (.u 8), .rw, 0, (.oneOf [0, 1]), true, 3, 0, .safety⟩,  -- SS1_MODE
  ⟨0x6040, 8, 1, 6, 1, (.u 16), .rw, 1000, (.between 10 60000), true, 3, 0, .safety⟩,  -- SS1_TIME
  ⟨0x6040, 8, 1, 7, 1, (.u 16), .rw, 20, (.between 0 1000), true, 3, 0, .safety⟩,  -- SS1_DELAY
  ⟨0x6040, 8, 1, 8, 1, .real32, .rw, 1092616192, (.real (13421773 / 134217728) 100000), true, 3, 0, .safety⟩,  -- SS1_DECEL
  ⟨0x6040, 8, 1, 9, 1, (.i 32), .rw, 65536, (.between 656 2147483647), true, 3, 0, .safety⟩,  -- SS1_TOLERANCE
  ⟨0x6040, 8, 1, 10, 1, (.i 32), .rw, 6554, (.between 656 655360), true, 3, 0, .safety⟩,  -- SS1_STANDSTILL
  ⟨0x6040, 8, 1, 11, 1, (.i 32), .rw, 65536, (.between 656 2147483647), true, 3, 0, .safety⟩,  -- SLS_LIMIT
  ⟨0x6040, 8, 1, 12, 1, (.u 16), .rw, 500, (.between 0 10000), true, 3, 0, .safety⟩,  -- SLS_RAMP_TIME
  ⟨0x6040, 8, 1, 13, 1, (.u 8), .rw, 0, (.oneOf [0, 1]), true, 3, 0, .safety⟩,  -- SLS_REACTION
  ⟨0x6040, 8, 1, 14, 1, (.u 8), .rw, 1, (.oneOf [0, 1]), true, 3, 0, .safety⟩,  -- RESTART_MODE
  ⟨0x6048, 8, 1, 1, 1, (.u 8), .ro, 0, .any, false, 0, 0, .live⟩]  -- GROUP_DEMAND

/-- Object rows from index 0x6050 (R451). -/
def odRows6050_1 : List OdRow := [
  ⟨0x6050, 8, 1, 1, 1, (.u 8), .rw, 0, (.oneOf [0, 1, 2]), true, 3, 0, .safety⟩,  -- SO_SOURCE
  ⟨0x6050, 8, 1, 2, 1, (.u 8), .rw, 0, (.special .soRef), true, 3, 0, .safety⟩,  -- SO_REF
  ⟨0x6050, 8, 1, 3, 1, .bool, .rw, 1, (.between 0 1), true, 3, 0, .safety⟩,  -- SO_TEST_PULSE
  ⟨0x6050, 8, 1, 4, 1, (.u 16), .rw, 300, (.between 100 1000), true, 3, 0, .safety⟩,  -- SO_PULSE_WIDTH
  ⟨0x6058, 8, 1, 1, 1, (.u 8), .ro, 0, .any, false, 0, 0, .live⟩,  -- SO_STATE
  ⟨0x6058, 8, 1, 2, 1, (.u 8), .ro, 0, .any, false, 0, 0, .live⟩]  -- SO_FAULT

/-- Object rows from index 0x6100 (R451). -/
def odRows6100_1 : List OdRow := [
  ⟨0x6100, 128, 1, 1, 1, .bool, .rw, 1, (.between 0 1), true, 3, 0, .safety⟩,  -- SBC_ENABLE
  ⟨0x6100, 128, 1, 2, 1, (.u 16), .rw, 0, (.between 0 500), true, 3, 0, .safety⟩,  -- SBC_DELAY
  ⟨0x6100, 128, 1, 3, 1, (.i 32), .rw, 131072, (.between 656 2147483647), true, 3, 0, .safety⟩,  -- XCHK_TOL
  ⟨0x6100, 128, 1, 4, 1, (.u 16), .rw, 8, (.between 1 1024), true, 3, 0, .safety⟩]  -- XCHK_CYCLES

/-- Object rows from index 0x6200 (R451). -/
def odRows6200_1 : List OdRow := [
  ⟨0x6200, 128, 1, 1, 1, (.u 8), .ro, 4, .any, false, 0, 0, .live⟩,  -- AXIS_SAFETY_STATE
  ⟨0x6200, 128, 1, 2, 1, (.u 8), .ro, 10, .any, false, 0, 0, .live⟩,  -- STO_CAUSE
  ⟨0x6200, 128, 1, 3, 1, (.i 32), .ro, 0, .any, false, 0, 0, .live⟩,  -- SAFE_SPEED_R8
  ⟨0x6200, 128, 1, 4, 1, (.i 32), .ro, 0, .any, false, 0, 0, .live⟩]  -- XCHK_DEVIATION

/-- Object rows from index 0x6800 (R365). -/
def odRows6800_1 : List OdRow := [
  ⟨0x6800, 1, 1, 1, 1, .bool, .rw, 1, (.between 0 1), true, 4, 0, .live⟩,  -- PORT_ENABLE_0
  ⟨0x6800, 1, 1, 2, 1, .bool, .rw, 1, (.between 0 1), true, 4, 0, .live⟩,  -- PORT_ENABLE_1
  ⟨0x6800, 1, 1, 3, 1, (.u 8), .ro, 0, .any, false, 0, 0, .live⟩,  -- LINK_STATE_0
  ⟨0x6800, 1, 1, 4, 1, (.u 8), .ro, 0, .any, false, 0, 0, .live⟩,  -- LINK_STATE_1
  ⟨0x6800, 1, 1, 5, 1, (.u 16), .rw, 0, (.between 0 1000), true, 2, 0, .live⟩,  -- PHY_TX_LATENCY_0
  ⟨0x6800, 1, 1, 6, 1, (.u 16), .rw, 0, (.between 0 1000), true, 2, 0, .live⟩,  -- PHY_RX_LATENCY_0
  ⟨0x6800, 1, 1, 7, 1, (.u 16), .rw, 0, (.between 0 1000), true, 2, 0, .live⟩,  -- PHY_TX_LATENCY_1
  ⟨0x6800, 1, 1, 8, 1, (.u 16), .rw, 0, (.between 0 1000), true, 2, 0, .live⟩,  -- PHY_RX_LATENCY_1
  ⟨0x6800, 1, 1, 9, 1, (.u 64), .ro, 0, .any, false, 0, 0, .live⟩,  -- UPLINK_MAC
  ⟨0x6800, 1, 1, 10, 1, (.u 16), .rw, 300, (.between 10 3600), true, 4, 0, .live⟩,  -- MAC_AGE_TIME
  ⟨0x6800, 1, 1, 11, 1, (.u 16), .rw, 0, (.between 0 4094), true, 4, 0, .live⟩,  -- HEAD_VLAN
  ⟨0x6801, 1, 1, 1, 1, (.u 8), .rw, 0, (.oneOf [0, 1]), true, 4, 0, .live⟩,  -- IP_MODE
  ⟨0x6801, 1, 1, 2, 1, (.u 32), .rw, 0, .any, true, 4, 0, .live⟩,  -- STATIC_ADDRESS
  ⟨0x6801, 1, 1, 3, 1, (.u 32), .rw, 4294967040, (.special .contiguousMask), true, 4, 0, .live⟩,  -- STATIC_MASK
  ⟨0x6801, 1, 1, 4, 1, (.u 32), .rw, 0, .any, true, 4, 0, .live⟩,  -- STATIC_GATEWAY
  ⟨0x6801, 1, 1, 5, 1, (.u 16), .rw, 4128, (.between 1024 65535), true, 4, 0, .live⟩,  -- TOA_UDP_PORT
  ⟨0x6801, 1, 1, 6, 1, (.u 32), .ro, 0, .any, false, 0, 0, .live⟩,  -- IP_ADDRESS
  ⟨0x6801, 1, 1, 7, 1, (.u 8), .ro, 0, .any, false, 0, 0, .live⟩]  -- IP_STATE

/-- Object rows from index 0x6802 (R365). -/
def odRows6802_1 : List OdRow := [
  ⟨0x6802, 1, 1, 1, 1, .bool, .rw, 1, (.between 0 1), true, 2, 0, .live⟩,  -- PTP_ENABLE
  ⟨0x6802, 1, 1, 2, 1, (.u 8), .rw, 0, (.between 0 127), true, 2, 0, .live⟩,  -- PTP_DOMAIN
  ⟨0x6802, 1, 1, 3, 1, (.u 8), .rw, 0, (.oneOf [0, 1]), true, 2, 0, .live⟩,  -- PTP_TRANSPORT
  ⟨0x6802, 1, 1, 4, 1, .bool, .rw, 1, (.between 0 1), true, 2, 0, .live⟩,  -- TC_ENABLE
  ⟨0x6802, 1, 1, 5, 1, (.u 16), .rw, 100, (.between 10 10000), true, 2, 0, .live⟩,  -- LOCK_THRESHOLD
  ⟨0x6802, 1, 1, 6, 1, (.i 8), .rw, 0, (.between (-4) 4), true, 2, 0, .live⟩,  -- DELAY_REQ_INTERVAL
  ⟨0x6802, 1, 1, 7, 1, (.u 8), .ro, 0, .any, false, 0, 0, .live⟩,  -- PTP_PORT_STATE
  ⟨0x6802, 1, 1, 8, 1, (.i 32), .ro, 0, .any, false, 0, 0, .live⟩,  -- PTP_OFFSET
  ⟨0x6802, 1, 1, 9, 1, (.u 32), .ro, 0, .any, false, 0, 0, .live⟩,  -- MEAN_PATH_DELAY
  ⟨0x6802, 1, 1, 10, 1, (.u 64), .ro, 0, .any, false, 0, 0, .live⟩,  -- MASTER_IDENTITY
  ⟨0x6802, 1, 1, 11, 1, (.u 8), .ro, 255, .any, false, 0, 0, .live⟩,  -- MASTER_PORT
  ⟨0x6802, 1, 1, 12, 1, (.i 16), .ro, 0, .any, false, 0, 0, .live⟩,  -- UTC_OFFSET
  ⟨0x6802, 1, 1, 13, 1, (.u 32), .ro, 0, .any, false, 0, 0, .live⟩,  -- TC_FRAMES
  ⟨0x6802, 1, 1, 14, 1, (.u 32), .ro, 0, .any, false, 0, 0, .live⟩]  -- TC_MAX_RESIDENCE

/-- Object rows from index 0x6803 (R365). -/
def odRows6803_1 : List OdRow := [
  ⟨0x6803, 1, 1, 1, 1, (.u 32), .ro, 0, .any, false, 0, 0, .live⟩,  -- RX_FRAMES
  ⟨0x6803, 1, 1, 2, 1, (.u 32), .ro, 0, .any, false, 0, 0, .live⟩,  -- TX_FRAMES
  ⟨0x6803, 1, 1, 3, 1, (.u 32), .ro, 0, .any, false, 0, 0, .live⟩,  -- RX_ERRORS
  ⟨0x6803, 1, 1, 4, 1, (.u 32), .ro, 0, .any, false, 0, 0, .live⟩,  -- DROPS
  ⟨0x6803, 1, 1, 5, 1, (.u 32), .ro, 0, .any, false, 0, 0, .live⟩,  -- RX_FRAMES
  ⟨0x6803, 1, 1, 6, 1, (.u 32), .ro, 0, .any, false, 0, 0, .live⟩,  -- TX_FRAMES
  ⟨0x6803, 1, 1, 7, 1, (.u 32), .ro, 0, .any, false, 0, 0, .live⟩,  -- RX_ERRORS
  ⟨0x6803, 1, 1, 8, 1, (.u 32), .ro, 0, .any, false, 0, 0, .live⟩,  -- DROPS
  ⟨0x6803, 1, 1, 9, 1, (.u 8), .wo, 0, (.oneOf [1]), false, 1, 0, .live⟩,  -- COUNTER_RESET
  ⟨0x6804, 1, 1, 1, 1, (.u 8), .rw, 8, (.between 1 8), true, 4, 0, .live⟩,  -- SESSIONS_MAX
  ⟨0x6804, 1, 1, 2, 1, (.u 16), .rw, 60, (.between 5 3600), true, 4, 0, .live⟩,  -- SESSION_IDLE
  ⟨0x6804, 1, 1, 3, 1, (.u 32), .rw, 1000, (.between 100 100000), true, 2, 0, .live⟩,  -- NOTIFY_HOLDOFF
  ⟨0x6804, 1, 1, 4, 1, (.u 8), .ro, 0, .any, false, 0, 0, .live⟩,  -- SESSIONS_OPEN
  ⟨0x6804, 1, 1, 5, 1, (.u 32), .ro, 0, .any, false, 0, 0, .live⟩,  -- DUPLICATES
  ⟨0x6804, 1, 1, 6, 1, (.u 32), .ro, 0, .any, false, 0, 0, .live⟩,  -- BAD_MESSAGES
  ⟨0x6804, 1, 1, 7, 1, (.u 32), .ro, 0, .any, false, 0, 0, .live⟩]  -- HANDSHAKE_FAILS

/-- Object rows from index 0x6805 (R365). -/
def odRows6805_1 : List OdRow := [
  ⟨0x6805, 1, 1, 1, 8, (.u 8), .ro, 0, .any, false, 0, 0, .live⟩,  -- SESSION_STATE
  ⟨0x6806, 1, 1, 1, 8, (.u 8), .ro, 0, .any, false, 0, 0, .live⟩,  -- SESSION_ROLE
  ⟨0x6807, 1, 1, 1, 8, (.u 32), .ro, 0, .any, false, 0, 4, .live⟩,  -- SESSION_PEER
  ⟨0x6808, 1, 1, 1, 8, (.u 8), .wo, 0, (.oneOf [1]), false, 4, 0, .live⟩]  -- SESSION_CLOSE

/-- Object rows from index 0x6A00 (R383). -/
def odRows6A00_1 : List OdRow := [
  ⟨0x6A00, 2, 16, 1, 1, (.u 8), .rw, 0, (.oneOf [0, 1, 2]), true, 2, 0, .live⟩,  -- CAN_MODE
  ⟨0x6A00, 2, 16, 2, 1, .bool, .rw, 1, (.between 0 1), true, 2, 0, .live⟩,  -- FD_ENABLE
  ⟨0x6A00, 2, 16, 3, 1, (.u 8), .rw, 1, (.between 1 32), true, 2, 0, .live⟩,  -- NBRP
  ⟨0x6A00, 2, 16, 4, 1, (.u 16), .rw, 127, (.between 2 256), true, 2, 0, .live⟩,  -- NTSEG1
  ⟨0x6A00, 2, 16, 5, 1, (.u 8), .rw, 32, (.between 2 128), true, 2, 0, .live⟩,  -- NTSEG2
  ⟨0x6A00, 2, 16, 6, 1, (.u 8), .rw, 32, (.between 1 128), true, 2, 0, .live⟩,  -- NSJW
  ⟨0x6A00, 2, 16, 7, 1, (.u 8), .rw, 1, (.between 1 32), true, 2, 0, .live⟩,  -- DBRP
  ⟨0x6A00, 2, 16, 8, 1, (.u 8), .rw, 14, (.between 1 32), true, 2, 0, .live⟩,  -- DTSEG1
  ⟨0x6A00, 2, 16, 9, 1, (.u 8), .rw, 5, (.between 1 16), true, 2, 0, .live⟩,  -- DTSEG2
  ⟨0x6A00, 2, 16, 10, 1, (.u 8), .rw, 5, (.between 1 16), true, 2, 0, .live⟩,  -- DSJW
  ⟨0x6A00, 2, 16, 11, 1, .bool, .rw, 1, (.between 0 1), true, 2, 0, .live⟩,  -- TDC_ENABLE
  ⟨0x6A00, 2, 16, 12, 1, (.u 8), .rw, 15, (.between 0 127), true, 2, 0, .live⟩,  -- TDC_OFFSET
  ⟨0x6A00, 2, 16, 13, 1, (.u 8), .ro, 0, .any, false, 0, 0, .live⟩,  -- TDC_VALUE
  ⟨0x6A00, 2, 16, 14, 1, .bool, .rw, 1, (.between 0 1), true, 2, 0, .live⟩,  -- BUSOFF_AUTO
  ⟨0x6A00, 2, 16, 15, 1, (.u 8), .wo, 0, (.oneOf [1]), false, 1, 0, .live⟩,  -- RECOVER
  ⟨0x6A00, 2, 16, 16, 1, (.u 8), .ro, 0, .any, false, 0, 0, .live⟩,  -- CAN_STATE
  ⟨0x6A00, 2, 16, 17, 1, (.u 16), .ro, 0, .any, false, 0, 0, .live⟩,  -- TEC
  ⟨0x6A00, 2, 16, 18, 1, (.u 8), .ro, 0, .any, false, 0, 0, .live⟩,  -- REC
  ⟨0x6A00, 2, 16, 19, 1, (.u 32), .ro, 0, .any, false, 0, 0, .live⟩,  -- BUS_OFF_COUNT
  ⟨0x6A00, 2, 16, 20, 1, (.u 32), .ro, 0, .any, false, 0, 0, .live⟩,  -- ERRORS_DETECTED
  ⟨0x6A00, 2, 16, 21, 1, (.u 8), .ro, 0, .any, false, 0, 0, .live⟩,  -- LAST_ERROR
  ⟨0x6A00, 2, 16, 22, 1, (.u 8), .ro, 0, .any, false, 0, 0, .live⟩]  -- CONFIG_FAULT

/-- Object rows from index 0x6A01 (R383). -/
def odRows6A01_1 : List OdRow := [
  ⟨0x6A01, 2, 16, 1, 16, (.u 32), .rw, 0, (.between 0 1073741823), true, 2, 0, .live⟩,  -- FILTER_ID
  ⟨0x6A01, 2, 16, 17, 16, (.u 32), .rw, 536870911, (.between 0 536870911), true, 2, 0, .live⟩,  -- FILTER_MASK
  ⟨0x6A01, 2, 16, 33, 16, (.u 8), .rw, 0, (.oneOf [0, 1, 2, 3]), true, 2, 0, .live⟩,  -- FILTER_ACTION
  ⟨0x6A01, 2, 16, 49, 1, (.u 8), .rw, 0, (.oneOf [0, 1]), true, 2, 0, .live⟩,  -- NO_MATCH
  ⟨0x6A02, 2, 16, 1, 1, (.u 8), .rw, 0, (.oneOf [0, 1]), true, 2, 0, .live⟩,  -- TX_ORDER
  ⟨0x6A02, 2, 16, 2, 3, .bool, .rw, 0, (.between 0 1), true, 2, 0, .live⟩,  -- ONE_SHOT
  ⟨0x6A02, 2, 16, 5, 1, (.octet 80), .wo, 0, .any, false, 1, 0, .live⟩,  -- TX_FRAME
  ⟨0x6A02, 2, 16, 6, 1, (.u 8), .wo, 0, (.oneOf [1]), false, 1, 0, .live⟩,  -- TX_CANCEL
  ⟨0x6A02, 2, 16, 7, 1, (.u 8), .ro, 0, .any, false, 0, 0, .live⟩,  -- TX_STATUS_2
  ⟨0x6A02, 2, 16, 8, 1, (.u 16), .ro, 0, .any, false, 0, 0, .live⟩,  -- TX_STATUS_0_1
  ⟨0x6A02, 2, 16, 9, 1, (.u 32), .ro, 0, .any, false, 0, 0, .live⟩,  -- TX_FRAMES
  ⟨0x6A02, 2, 16, 10, 1, (.u 32), .ro, 0, .any, false, 0, 0, .live⟩]  -- TX_FAILED

/-- Object rows from index 0x6A03 (R383). -/
def odRows6A03_1 : List OdRow := [
  ⟨0x6A03, 2, 16, 1, 1, (.octet 80), .ro, 0, .any, false, 0, 1, .live⟩,  -- RX_FIFO_READ
  ⟨0x6A03, 2, 16, 2, 1, (.u 8), .ro, 0, .any, false, 0, 0, .live⟩,  -- RX_FIFO_LEVEL
  ⟨0x6A03, 2, 16, 3, 1, (.octet 80), .ro, 0, .any, false, 0, 1, .live⟩,  -- HP_READ
  ⟨0x6A03, 2, 16, 4, 1, .bool, .ro, 0, .any, false, 0, 0, .live⟩,  -- HP_FULL
  ⟨0x6A03, 2, 16, 5, 1, (.u 32), .ro, 0, .any, false, 0, 0, .live⟩,  -- RX_FRAMES
  ⟨0x6A03, 2, 16, 6, 1, (.u 32), .ro, 0, .any, false, 0, 0, .live⟩,  -- FIFO_OVERRUNS
  ⟨0x6A03, 2, 16, 7, 1, (.u 32), .ro, 0, .any, false, 0, 0, .live⟩,  -- HP_OVERWRITES
  ⟨0x6A03, 2, 16, 8, 1, (.u 8), .wo, 0, (.oneOf [1]), false, 1, 0, .live⟩,  -- COUNTER_RESET
  ⟨0x6A04, 2, 16, 1, 1, .bool, .rw, 0, (.between 0 1), true, 4, 0, .live⟩,  -- TOA_ENABLE
  ⟨0x6A04, 2, 16, 2, 1, (.u 8), .rw, 0, (.oneOf [0, 1]), true, 4, 0, .live⟩,  -- TOA_ROLE
  ⟨0x6A04, 2, 16, 3, 1, (.u 8), .rw, 2, (.oneOf [0, 1, 2]), true, 2, 0, .live⟩,  -- TOA_FORMAT
  ⟨0x6A04, 2, 16, 4, 1, (.u 32), .rw, 1600, (.between 0 1073741823), true, 2, 0, .live⟩,  -- TOA_RX_ID
  ⟨0x6A04, 2, 16, 5, 1, (.u 32), .rw, 1601, (.between 0 1073741823), true, 2, 0, .live⟩,  -- TOA_TX_ID
  ⟨0x6A04, 2, 16, 6, 1, (.u 32), .rw, 1602, (.between 0 1073741823), true, 2, 0, .live⟩,  -- NOTIFY_ID
  ⟨0x6A04, 2, 16, 7, 1, (.u 32), .ro, 0, .any, false, 0, 0, .live⟩]  -- TOA_PART_ERRORS

/-- Object rows from index 0x6C00 (R400). -/
def odRows6C00_1 : List OdRow := [
  ⟨0x6C00, 2, 1, 1, 1, (.u 8), .rw, 0, (.oneOf [0, 1, 2, 3, 4, 5]), true, 2, 0, .live⟩,  -- START_SOURCE
  ⟨0x6C00, 2, 1, 2, 1, (.u 32), .rw, 1000000, (.between 100 60000000), true, 2, 0, .live⟩,  -- TIMER_PERIOD
  ⟨0x6C00, 2, 1, 3, 1, (.u 16), .rw, 0, (.between 0 65535), true, 2, 0, .live⟩,  -- CYCLE_DELAY
  ⟨0x6C00, 2, 1, 4, 1, (.u 16), .rw, 1, (.between 1 65535), true, 2, 0, .live⟩,  -- CYCLE_DIVIDER
  ⟨0x6C00, 2, 1, 5, 1, (.u 64), .rw, 0, .any, true, 2, 0, .live⟩,  -- PTP_START
  ⟨0x6C00, 2, 1, 6, 1, (.u 32), .rw, 1000000, (.between 31250 1000000000), true, 2, 0, .live⟩,  -- PTP_PERIOD
  ⟨0x6C00, 2, 1, 7, 1, (.u 8), .rw, 0, (.oneOf [0, 1, 2]), true, 2, 0, .live⟩,  -- INJ_SOURCE
  ⟨0x6C00, 2, 1, 8, 1, (.u 8), .rw, 0, (.between 0 31), true, 2, 0, .live⟩,  -- INJ_CHANNEL
  ⟨0x6C00, 2, 1, 9, 1, (.u 8), .wo, 0, (.oneOf [1]), false, 1, 0, .live⟩,  -- INJ_REQUEST
  ⟨0x6C00, 2, 1, 10, 1, (.u 8), .rw, 2, (.oneOf [0, 1, 2]), true, 2, 0, .live⟩,  -- FIFO_MODE
  ⟨0x6C00, 2, 1, 11, 1, (.u 8), .ro, 0, .any, false, 0, 0, .live⟩,  -- MOD_STATE
  ⟨0x6C00, 2, 1, 12, 1, (.u 32), .ro, 0, .any, false, 0, 0, .live⟩,  -- SCAN_OVERRUNS
  ⟨0x6C00, 2, 1, 13, 1, (.u 32), .ro, 0, .any, false, 0, 0, .live⟩,  -- INJ_DROPPED
  ⟨0x6C00, 2, 1, 14, 1, (.u 16), .ro, 0, .any, false, 0, 0, .live⟩,  -- FIFO_LEVEL
  ⟨0x6C00, 2, 1, 15, 1, (.u 32), .ro, 0, .any, false, 0, 0, .live⟩,  -- FIFO_OVERRUNS
  ⟨0x6C00, 2, 1, 16, 1, (.octet 16), .ro, 0, .any, false, 0, 1, .live⟩,  -- RESULT_READ
  ⟨0x6C00, 2, 1, 17, 1, (.u 32), .ro, 0, .any, false, 0, 0, .live⟩,  -- SCAN_COUNT
  ⟨0x6C00, 2, 1, 18, 1, (.u 32), .ro, 0, .any, false, 0, 0, .live⟩,  -- PTP_STARTS_SKIPPED
  ⟨0x6C00, 2, 1, 19, 1, (.u 32), .ro, 0, .any, false, 0, 0, .live⟩,  -- WHEEL_IGNORED
  ⟨0x6C00, 2, 1, 20, 1, (.u 8), .wo, 0, (.oneOf [1]), false, 1, 0, .live⟩]  -- COUNTER_RESET

/-- Object rows from index 0x6C02 (R400, R401). -/
def odRows6C02_1 : List OdRow := [
  ⟨0x6C02, 1, 1, 1, 1, (.u 8), .ro, 0, .any, false, 0, 0, .live⟩,  -- ADC_REFUSAL
  ⟨0x6C10, 32, 1, 1, 1, .bool, .rw, 0, (.between 0 1), true, 2, 0, .live⟩,  -- CH_ENABLE
  ⟨0x6C10, 32, 1, 2, 1, (.u 8), .rw, 0, (.between 0 1), true, 2, 0, .live⟩,  -- MODULATOR
  ⟨0x6C10, 32, 1, 3, 1, (.u 8), .rw, 0, (.between 0 23), true, 2, 0, .live⟩,  -- AIN_POS
  ⟨0x6C10, 32, 1, 4, 1, (.u 8), .rw, 24, (.between 0 24), true, 2, 0, .live⟩,  -- AIN_NEG
  ⟨0x6C10, 32, 1, 5, 1, (.u 8), .rw, 0, (.between 0 7), true, 2, 0, .live⟩,  -- GAIN
  ⟨0x6C10, 32, 1, 6, 1, (.u 8), .rw, 0, (.oneOf [0, 1]), true, 2, 0, .live⟩,  -- REFERENCE
  ⟨0x6C10, 32, 1, 7, 1, (.u 8), .rw, 3, (.between 1 5), true, 2, 0, .live⟩,  -- SINC_ORDER
  ⟨0x6C10, 32, 1, 8, 1, (.u 32), .rw, 8192, (.between 256 1024000), true, 2, 0, .live⟩,  -- DECIMATION
  ⟨0x6C10, 32, 1, 9, 1, (.u 8), .rw, 0, (.oneOf [0, 1, 2, 3]), true, 2, 0, .live⟩,  -- FILTER_PRESET
  ⟨0x6C10, 32, 1, 10, 1, (.u 16), .rw, 1, (.between 1 65535), true, 2, 0, .live⟩,  -- SAMPLES
  ⟨0x6C10, 32, 1, 11, 1, (.u 8), .rw, 0, (.oneOf [0, 1, 2, 3]), true, 2, 0, .live⟩,  -- OW_CURRENT
  ⟨0x6C10, 32, 1, 12, 1, (.u 8), .rw, 0, (.oneOf [0, 1]), true, 2, 0, .live⟩,  -- OW_DIRECTION
  ⟨0x6C10, 32, 1, 13, 1, (.u 16), .rw, 950, (.between 500 1000), true, 2, 0, .live⟩,  -- OW_THRESHOLD
  ⟨0x6C10, 32, 1, 14, 1, .real32, .rw, 1065353216, (.special .realNonzero), true, 2, 0, .live⟩,  -- SCALE
  ⟨0x6C10, 32, 1, 15, 1, (.i 32), .rw, 0, (.between (-8388608) 8388607), true, 2, 0, .live⟩]  -- OFFSET

/-- Object rows from index 0x6C30 (R401). -/
def odRows6C30_1 : List OdRow := [
  ⟨0x6C30, 32, 1, 1, 1, (.i 32), .ro, 0, .any, false, 0, 0, .live⟩,  -- CH_CODE
  ⟨0x6C30, 32, 1, 2, 1, .real32, .ro, 0, .any, false, 0, 0, .live⟩,  -- CH_VALUE
  ⟨0x6C30, 32, 1, 3, 1, (.u 8), .ro, 0, .any, false, 0, 0, .live⟩,  -- CH_FLAGS
  ⟨0x6C30, 32, 1, 4, 1, (.u 64), .ro, 0, .any, false, 0, 0, .live⟩,  -- CH_TIME
  ⟨0x6C30, 32, 1, 5, 1, (.u 32), .ro, 0, .any, false, 0, 0, .live⟩,  -- OVR_COUNT
  ⟨0x6C30, 32, 1, 6, 1, (.u 32), .ro, 0, .any, false, 0, 0, .live⟩,  -- OPEN_WIRE_COUNT
  ⟨0x6C30, 32, 1, 7, 1, (.u 8), .wo, 0, (.oneOf [1]), false, 1, 0, .live⟩]  -- COUNTER_RESET

/-- Object rows from index 0x6E00 (R282). -/
def odRows6E00_1 : List OdRow := [
  ⟨0x6E00, 8, 1, 1, 1, (.u 8), .rw, 0, (.oneOf [0, 1, 2]), true, 2, 0, .config⟩,  -- ENC_MODE
  ⟨0x6E00, 8, 1, 2, 1, (.u 8), .rw, 4, (.between 0 19), true, 2, 0, .config⟩,  -- GLITCH_FILTER
  ⟨0x6E00, 8, 1, 3, 1, (.u 32), .rw, 0, (.between 0 2147483648), true, 2, 0, .config⟩,  -- WRAP
  ⟨0x6E00, 8, 1, 4, 1, .bool, .rw, 0, (.between 0 1), true, 2, 0, .config⟩,  -- INDEX_ENABLE
  ⟨0x6E00, 8, 1, 5, 1, (.u 8), .rw, 0, (.between 0 15), true, 2, 0, .config⟩,  -- POLARITY
  ⟨0x6E08, 8, 1, 1, 1, (.i 32), .ro, 0, .any, false, 0, 0, .live⟩,  -- ENC_COUNT
  ⟨0x6E08, 8, 1, 2, 1, (.i 32), .ro, 0, .any, false, 0, 0, .live⟩,  -- ENC_REVS
  ⟨0x6E08, 8, 1, 3, 1, (.i 64), .ro, 0, .any, false, 0, 0, .live⟩,  -- INDEX_LATCH
  ⟨0x6E08, 8, 1, 4, 1, (.u 32), .ro, 0, .any, false, 0, 0, .live⟩,  -- INDEX_EDGES
  ⟨0x6E08, 8, 1, 5, 1, (.u 32), .ro, 0, .any, false, 0, 0, .live⟩,  -- QERR
  ⟨0x6E08, 8, 1, 6, 1, .bool, .ro, 0, .any, false, 0, 0, .live⟩,  -- POS_UNCERTAIN
  ⟨0x6E08, 8, 1, 7, 1, (.u 32), .ro, 0, .any, false, 0, 0, .live⟩,  -- OWN_CAPTURES
  ⟨0x6E08, 8, 1, 8, 1, (.u 8), .wo, 0, (.oneOf [1]), false, 1, 0, .live⟩]  -- COUNTER_RESET

/-- Object rows from index 0x7000 (R419). -/
def odRows7000_1 : List OdRow := [
  ⟨0x7000, 1, 1, 1, 1, (.u 8), .wo, 0, (.oneOf [1, 2, 3]), false, 1, 0, .live⟩,  -- ACQ_CONTROL
  ⟨0x7000, 1, 1, 2, 1, (.u 8), .ro, 0, .any, false, 0, 0, .live⟩,  -- ACQ_STATE
  ⟨0x7000, 1, 1, 3, 1, (.u 8), .ro, 0, .any, false, 0, 0, .live⟩,  -- ACQ_REFUSAL
  ⟨0x7000, 1, 1, 4, 1, (.u 32), .rw, 1000, (.special .acqLength), true, 2, 0, .live⟩,  -- LENGTH
  ⟨0x7000, 1, 1, 5, 1, (.u 32), .rw, 0, (.special .acqPretrigger), true, 2, 0, .live⟩,  -- PRETRIGGER
  ⟨0x7000, 1, 1, 6, 1, (.u 16), .rw, 1, (.between 1 65535), true, 2, 0, .live⟩,  -- DECIMATION
  ⟨0x7000, 1, 1, 7, 1, (.u 8), .rw, 0, (.oneOf [0, 1]), true, 2, 0, .live⟩,  -- REDUCTION
  ⟨0x7000, 1, 1, 8, 1, (.u 16), .rw, 2, (.between 1 65535), true, 2, 0, .live⟩,  -- MINMAX_INTERVAL
  ⟨0x7000, 1, 1, 9, 1, (.u 8), .rw, 0, (.oneOf [0, 1, 2, 3, 4, 5, 6]), true, 2, 0, .live⟩,  -- TRIG_KIND
  ⟨0x7000, 1, 1, 10, 1, (.u 8), .rw, 0, (.between 0 15), true, 2, 0, .live⟩,  -- TRIG_CHANNEL
  ⟨0x7000, 1, 1, 11, 1, (.i 32), .rw, 0, .any, true, 2, 0, .live⟩,  -- TRIG_LEVEL
  ⟨0x7000, 1, 1, 12, 1, (.u 32), .rw, 0, (.between 0 2147483647), true, 2, 0, .live⟩,  -- TRIG_HYST
  ⟨0x7000, 1, 1, 13, 1, (.u 16), .rw, 0, (.special .trigRef), true, 2, 0, .live⟩,  -- TRIG_REF
  ⟨0x7000, 1, 1, 14, 1, (.u 32), .rw, 0, (.between 0 600000), true, 2, 0, .live⟩,  -- AUTO_TIMEOUT
  ⟨0x7000, 1, 1, 15, 1, (.u 64), .ro, 0, .any, false, 0, 0, .live⟩,  -- TRIG_TIME
  ⟨0x7000, 1, 1, 16, 1, (.u 8), .ro, 0, .any, false, 0, 0, .live⟩,  -- TRIG_FLAGS
  ⟨0x7000, 1, 1, 17, 1, (.u 32), .ro, 0, .any, false, 0, 0, .live⟩,  -- PRE_ROWS
  ⟨0x7000, 1, 1, 18, 1, (.u 16), .ro, 8, .any, false, 0, 0, .live⟩,  -- ROW_BYTES
  ⟨0x7000, 1, 1, 19, 1, (.u 32), .ro, 524288, .any, false, 0, 0, .live⟩,  -- DEPTH
  ⟨0x7000, 1, 1, 20, 1, (.u 32), .ro, 0, .any, false, 0, 0, .live⟩,  -- EARLY_TRIGGERS
  ⟨0x7000, 1, 1, 21, 1, (.u 32), .rw, 0, (.special .acqReadRow), false, 0, 0, .live⟩,  -- ACQ_READ_ROW
  ⟨0x7000, 1, 1, 22, 1, (.octet 8000), .ro, 0, .any, false, 0, 0, .live⟩,  -- ACQ_READ
  ⟨0x7000, 1, 1, 23, 1, (.u 32), .rw, 100000, (.between 1000 1000000), true, 2, 0, .live⟩]  -- CASCADE_LATENCY

/-- Object rows from index 0x7001 (R419). -/
def odRows7001_1 : List OdRow := [
  ⟨0x7001, 1, 1, 1, 4, (.u 8), .rw, 0, (.oneOf [0, 1, 2]), true, 2, 0, .live⟩,  -- TRIG_IO_MODE
  ⟨0x7001, 1, 1, 5, 4, (.u 16), .rw, 0, (.between 0 1023), true, 2, 0, .live⟩,  -- TRIG_IN_DELAY
  ⟨0x7010, 16, 1, 1, 1, (.u 8), .rw, 0, (.oneOf [0, 1, 2, 3, 4]), true, 2, 0, .live⟩,  -- SOURCE_KIND
  ⟨0x7010, 16, 1, 2, 1, (.u 32), .rw, 0, (.special .sourceRef), true, 2, 0, .live⟩,  -- SOURCE_REF
  ⟨0x7010, 16, 1, 3, 1, (.u 8), .rw, 2, (.between 1 14), true, 2, 0, .live⟩,  -- SIGNAL
  ⟨0x7010, 16, 1, 4, 1, (.u 16), .rw, 65535, (.special .loadedProgram), true, 2, 0, .live⟩,  -- CH_FP
  ⟨0x7010, 16, 1, 5, 1, (.u 8), .rw, 0, (.between 0 31), true, 2, 0, .live⟩,  -- CH_SHIFT
  ⟨0x7010, 16, 1, 6, 1, (.i 8), .rw, 7, (.between (-8) 15), true, 2, 0, .live⟩,  -- CH_EXP
  ⟨0x7010, 16, 1, 7, 1, (.u 32), .ro, 0, .any, false, 0, 0, .live⟩]  -- SAT_SAMPLES

/-- Object rows from index 0x7400 (R420). -/
def odRows7400_1 : List OdRow := [
  ⟨0x7400, 1, 1, 1, 1, (.u 8), .wo, 0, (.oneOf [1]), false, 1, 0, .live⟩,  -- FREEZE_ALL
  ⟨0x7400, 1, 1, 2, 1, (.u 8), .wo, 0, (.oneOf [1]), false, 1, 0, .live⟩,  -- RELEASE_ALL
  ⟨0x7400, 1, 1, 3, 1, (.u 8), .ro, 0, .any, false, 0, 0, .live⟩]  -- TRACES_FROZEN

/-- Object rows from index 0x7600 (R421). -/
def odRows7600_1 : List OdRow := [
  ⟨0x7600, 1, 1, 1, 1, (.u 8), .wo, 0, (.oneOf [1, 2, 3]), false, 2, 0, .live⟩,  -- COUNTER_CONTROL
  ⟨0x7600, 1, 1, 2, 1, .bool, .ro, 0, .any, false, 0, 0, .live⟩,  -- COUNTERS_RUNNING
  ⟨0x7600, 1, 1, 3, 1, (.u 16), .rw, 0, (.between 0 1023), false, 4, 0, .live⟩,  -- SESSION_COUNTER_GRANT
  ⟨0x7600, 1, 1, 4, 1, .bool, .rw, 0, (.between 0 1), true, 4, 0, .live⟩,  -- FP_COUNTER_GRANT
  ⟨0x7600, 1, 1, 5, 1, (.u 16), .rw, 1000, (.between 1 10000), true, 2, 0, .live⟩,  -- WINDOW_LENGTH
  ⟨0x7600, 1, 1, 6, 1, (.u 32), .ro, 0, .any, false, 0, 0, .live⟩,  -- WINDOW_COUNT
  ⟨0x7601, 1, 1, 1, 64, (.u 8), .rw, 0, (.between 0 18), true, 2, 0, .live⟩,  -- COUNTER_EVENT
  ⟨0x7602, 1, 1, 1, 64, (.u 16), .rw, 65535, (.special .counterSelect), true, 2, 0, .live⟩,  -- COUNTER_SELECT
  ⟨0x7603, 1, 1, 1, 32, .bool, .rw, 0, (.between 0 1), true, 2, 0, .live⟩,  -- CHAIN
  ⟨0x7604, 1, 1, 1, 64, (.u 32), .ro, 0, .any, false, 0, 0, .live⟩,  -- COUNTER_VALUE
  ⟨0x7605, 1, 1, 1, 32, (.u 64), .ro, 0, .any, false, 0, 0, .live⟩,  -- COUNTER64
  ⟨0x7606, 1, 1, 1, 2, (.u 32), .ro, 0, .any, false, 0, 0, .live⟩]  -- OVERFLOW_FLAGS

/-- Object rows from index 0x7610 (R421). -/
def odRows7610_1 : List OdRow := [
  ⟨0x7610, 1, 1, 1, 53, (.u 32), .ro, 0, .any, false, 0, 0, .live⟩,  -- RX_BYTES_WINDOW
  ⟨0x7611, 1, 1, 1, 53, (.u 32), .ro, 0, .any, false, 0, 0, .live⟩,  -- TX_BYTES_WINDOW
  ⟨0x7612, 1, 1, 1, 53, (.u 16), .ro, 0, .any, false, 0, 0, .live⟩,  -- RX_UTIL
  ⟨0x7613, 1, 1, 1, 53, (.u 16), .ro, 0, .any, false, 0, 0, .live⟩,  -- TX_UTIL
  ⟨0x7614, 1, 1, 1, 53, (.u 16), .ro, 0, .any, false, 0, 0, .live⟩]  -- PEAK_UTIL

/-- Object rows from index 0x7800 (R464). -/
def odRows7800_1 : List OdRow := [
  ⟨0x7800, 1, 1, 1, 1, (.u 32), .wo, 0, (.oneOf [1129075282]), false, 4, 0, .live⟩,  -- CLEAR
  ⟨0x7800, 1, 1, 2, 1, (.u 64), .ro, 0, .any, false, 0, 0, .live⟩,  -- NEXT_SEQ
  ⟨0x7800, 1, 1, 3, 1, (.u 64), .ro, 0, .any, false, 0, 0, .live⟩,  -- OLDEST_SEQ
  ⟨0x7800, 1, 1, 4, 1, (.u 64), .ro, 0, .any, false, 0, 0, .live⟩,  -- FIRST_VALID_SEQ
  ⟨0x7800, 1, 1, 5, 1, (.u 8), .ro, 0, .any, false, 0, 0, .live⟩,  -- FIFO_LEVEL
  ⟨0x7800, 1, 1, 6, 1, (.u 8), .ro, 0, .any, false, 0, 0, .live⟩,  -- FIFO_PEAK
  ⟨0x7800, 1, 1, 7, 1, (.u 32), .ro, 0, .any, false, 0, 0, .live⟩,  -- INSTANCES_LOST
  ⟨0x7800, 1, 1, 8, 1, (.u 32), .ro, 0, .any, false, 0, 0, .live⟩,  -- OVERFLOW_RECORDS
  ⟨0x7800, 1, 1, 9, 1, (.u 32), .ro, 0, .any, false, 0, 0, .live⟩,  -- CLEARS
  ⟨0x7800, 1, 1, 10, 1, (.u 64), .ro, 0, .any, false, 0, 0, .live⟩,  -- RUN_TIME_NOW
  ⟨0x7801, 1, 1, 1, 10, (.u 64), .rw, 0, (.between 0 281474976710655), false, 0, 1, .live⟩,  -- READ_SEQ
  ⟨0x7802, 1, 1, 1, 10, (.octet 8000), .ro, 0, .any, false, 0, 1, .live⟩]  -- RECORD_READ

/-- Object rows from index 0x7810 (R464). -/
def odRows7810_0 : List OdRow := [
  ⟨0x7810, 1, 1, 0, 256, (.u 16), .rw, 1000, (.special .recorderRate), true, 4, 0, .live⟩,  -- RATE
  ⟨0x7811, 1, 1, 0, 256, (.u 16), .rw, 16, (.special .recorderBurst), true, 4, 0, .live⟩,  -- BURST
  ⟨0x7812, 1, 1, 0, 256, (.u 32), .ro, 0, .any, false, 0, 0, .live⟩]  -- SUPPRESSED_COUNT

/-- The tables with the first and last index (of axis 0, for the axis objects) that they list. -/
def odBlocks : List (Nat × Nat × List OdRow) := [
  (0x1000, 0x1000, odRows1000_1),
  (0x1100, 0x1100, odRows1100_1),
  (0x1200, 0x1200, odRows1200_1),
  (0x1201, 0x1284, odRows1201_1),
  (0x1285, 0x1286, odRows1285_1),
  (0x1300, 0x1301, odRows1300_1),
  (0x1400, 0x1401, odRows1400_1),
  (0x1402, 0x1403, odRows1402_1),
  (0x1600, 0x1600, odRows1600_1),
  (0x1601, 0x1604, odRows1601_1),
  (0x1800, 0x1801, odRows1800_1),
  (0x1A00, 0x1A01, odRows1A00_1),
  (0x1A02, 0x1A1F, odRows1A02_1),
  (0x2000, 0x2000, odRows2000_1),
  (0x2001, 0x2002, odRows2001_1),
  (0x2003, 0x200B, odRows2003_3),
  (0x2100, 0x212F, odRows2100_1),
  (0x2200, 0x2370, odRows2200_1),
  (0x2201, 0x2373, odRows2201_1),
  (0x2204, 0x2374, odRows2204_1),
  (0x2400, 0x2400, odRows2400_1),
  (0x2401, 0x2409, odRows2401_1),
  (0x2500, 0x2500, odRows2500_1),
  (0x3000, 0x3000, odRows3000_1),
  (0x3001, 0x3003, odRows3001_1),
  (0x3100, 0x3105, odRows3100_1),
  (0x3400, 0x37F1, odRows3400_1),
  (0x3800, 0x3803, odRows3800_1),
  (0x4000, 0x4001, odRows4000_1),
  (0x4002, 0x4003, odRows4002_1),
  (0x4004, 0x4005, odRows4004_1),
  (0x4006, 0x4006, odRows4006_1),
  (0x4007, 0x4007, odRows4007_1),
  (0x4008, 0x4008, odRows4008_1),
  (0x4009, 0x4009, odRows4009_1),
  (0x400A, 0x400A, odRows400A_1),
  (0x400B, 0x400C, odRows400B_1),
  (0x400D, 0x400D, odRows400D_1),
  (0x400E, 0x400E, odRows400E_1),
  (0x400F, 0x400F, odRows400F_1),
  (0x4010, 0x4011, odRows4010_1),
  (0x4012, 0x4013, odRows4012_1),
  (0x4014, 0x4014, odRows4014_1),
  (0x4015, 0x4015, odRows4015_1),
  (0x5000, 0x5000, odRows5000_1),
  (0x5400, 0x5408, odRows5400_1),
  (0x5410, 0x542F, odRows5410_0),
  (0x5800, 0x5840, odRows5800_1),
  (0x6000, 0x6000, odRows6000_1),
  (0x6001, 0x602F, odRows6001_1),
  (0x6040, 0x604F, odRows6040_1),
  (0x6050, 0x605F, odRows6050_1),
  (0x6100, 0x617F, odRows6100_1),
  (0x6200, 0x627F, odRows6200_1),
  (0x6800, 0x6801, odRows6800_1),
  (0x6802, 0x6802, odRows6802_1),
  (0x6803, 0x6804, odRows6803_1),
  (0x6805, 0x6808, odRows6805_1),
  (0x6A00, 0x6A10, odRows6A00_1),
  (0x6A01, 0x6A12, odRows6A01_1),
  (0x6A03, 0x6A14, odRows6A03_1),
  (0x6C00, 0x6C01, odRows6C00_1),
  (0x6C02, 0x6C2F, odRows6C02_1),
  (0x6C30, 0x6C4F, odRows6C30_1),
  (0x6E00, 0x6E0F, odRows6E00_1),
  (0x7000, 0x7000, odRows7000_1),
  (0x7001, 0x701F, odRows7001_1),
  (0x7400, 0x7400, odRows7400_1),
  (0x7600, 0x7606, odRows7600_1),
  (0x7610, 0x7614, odRows7610_1),
  (0x7800, 0x7802, odRows7800_1),
  (0x7810, 0x7812, odRows7810_0)]

/-- The index of axis 0 for an axis object (R323), the index itself otherwise. -/
def odPage (index : Nat) : Nat :=
  if 0x4000 ≤ index ∧ index < 0x5000 then 0x4000 + index % 32 else index

/-- The row of an entry, if the dictionary lists it (R322). -/
def odFindIn (p : OdRow → Bool) (page : Nat) : List (Nat × Nat × List OdRow) → Option OdRow
  | [] => none
  | (lo, hi, rows) :: r =>
    if Nat.ble lo page && Nat.ble page hi then
      match rows.find? p with
      | some x => some x
      | none => odFindIn p page r
    else odFindIn p page r

/-- The row of an entry (R322). -/
def odRow (key : Nat) : Option OdRow := odFindIn (·.has key) (odPage (key / 256)) odBlocks

/-- The index is listed (R322). -/
def odListed (index : Nat) : Bool := (odFindIn (·.hasIndex index) (odPage index) odBlocks).isSome

/-- The default of an entry (R16); 0 for an entry without one. -/
def odDefault (key : Nat) : Int := match odRow key with | some r => r.dflt | none => 0

end Sys2Proof.Machine
end

