-- ==== Sys2Proof/Machine/FilterVm.lean ====
section
/-! DEFINITION. The machine of filter programs (R305 to R316): its state, its instructions and their meaning, the run of
one invocation, and the load checks of R317. -/

namespace Sys2Proof.Machine

open Sys2Proof

/-- The filter machine (R306, R307): registers, accumulators and data memory as sparse stores that read 0, the four
circular buffers, the stage exponent, cycle counter and flags, the instruction index and the open loops (start, end,
passes left), innermost first. -/
structure Fm where
  g : SMap Int := []
  acc : SMap Int := []
  mem : SMap Int := []
  base : List Nat := []
  len : List Nat := []
  idx : List Nat := []
  stateLen : Nat := 0
  e : Int := 0
  cycles : Nat := 0
  sat : Bool := false
  denied : Bool := false
  pc : Nat := 0
  loops : List (Nat × Nat × Nat) := []
  deriving DecidableEq, Repr

/-- What persists of one use of a program (R315): state memory by word address, and the four cb indices. -/
structure FpUse where
  mem : SMap Int := []
  idx : List Nat := []
  deriving DecidableEq, Repr

/-- Filter-class instructions (R309). -/
inductive FInst where
  | nop | fin
  | rep (len count : Nat) | repr (len c : Nat)
  | ldi (d : Nat) (imm : Int) | mov (d x : Nat) | ld (d addr : Nat) | st (x addr : Nat)
  | cbld (d cb : Nat) (step : Int) | cbst (x cb : Nat) (step : Int) | cbpush (x cb : Nat) | cbidx (cb idx : Nat)
  | add (d a b : Nat) | sub (d a b : Nat) | neg (d x : Nat) | shl (d x n : Nat) | shr (d x n : Nat) | abs (d x : Nat)
  | min (d a b : Nat) | max (d a b : Nat) | sel (d c a b : Nat) | clr (acc : Nat)
  | mac (acc a b : Nat) | msu (acc a b : Nat) | ftap (acc cbD cbC : Nat) (two : Bool)
  | accadd (acc x : Nat) (sh : Int) | rnd (acc d : Nat) (sh : Int) | exp (d : Nat) | rdcnt (d n : Nat) (h : Bool)
  deriving DecidableEq, Repr

/-- The cycles of an instruction (R309). -/
def FInst.cost : FInst → Nat
  | .ld .. => 2
  | .cbld .. => 2
  | .rnd .. => 2
  | .rdcnt .. => 4
  | _ => 1

/-! ### Registers, memory, buffers -/

/-- Register. -/
def Fm.reg (m : Fm) (k : Nat) : Int := SMap.get m.g 0 k
/-- Write a register. -/
def Fm.setReg (m : Fm) (k : Nat) (v : Int) : Fm := { m with g := SMap.put m.g 0 k v }
/-- Write a register with saturation to 24 bits (R308). -/
def Fm.setSat (m : Fm) (k : Nat) (v : Int) : Fm :=
  { m.setReg k (satS 24 v) with sat := m.sat || satS 24 v != v }
/-- Accumulator. -/
def Fm.getAcc (m : Fm) (k : Nat) : Int := SMap.get m.acc 0 k
/-- Write an accumulator with saturation to 56 bits (R308). -/
def Fm.setAcc (m : Fm) (k : Nat) (v : Int) : Fm :=
  { m with acc := SMap.put m.acc 0 k (satS 56 v), sat := m.sat || satS 56 v != v }
/-- Load a word as a 24-bit value (R307). -/
def Fm.load (m : Fm) (a : Nat) : Int := SMap.get m.mem 0 a
/-- Store a value. -/
def Fm.store (m : Fm) (a : Nat) (v : Int) : Fm := { m with mem := SMap.put m.mem 0 a v }
/-- Address of a buffer's current place. -/
def Fm.cbAddr (m : Fm) (c : Nat) : Nat := m.base.getD c 0 + m.idx.getD c 0
/-- Move a buffer's index (R309: modulo its length). -/
def Fm.cbStep (m : Fm) (c : Nat) (d : Int) : Fm :=
  let n := m.len.getD c 0
  let i : Int := (m.idx.getD c 0 : Int) + d
  { m with
    idx := (m.idx ++ List.replicate (4 - m.idx.length) 0).set c (i % (if n = 0 then 1 else (n : Int))).toNat }

/-- A buffer is used and lies in the coefficient area (R316). -/
def Fm.cbUsed (m : Fm) (c : Nat) : Bool := m.len.getD c 0 != 0
/-- The buffer lies in the coefficient area. -/
def Fm.cbConst (m : Fm) (c : Nat) : Bool := Nat.blt (m.base.getD c 0) 0x210
/-- A word the program may write (R307). -/
def Fm.writable (m : Fm) (a : Nat) : Bool :=
  a == 1 || (Nat.ble 0x210 a && Nat.blt a (0x210 + m.stateLen)) || (Nat.ble 0x290 a && Nat.blt a 0x600)

/-- A loaded program can hold the instruction (load checks 5 to 8 of R317). -/
def FInst.ok (m : Fm) : FInst → Bool
  | .shl _ _ n => Nat.ble n 23
  | .shr _ _ n => Nat.ble n 23
  | .ld _ a => Nat.blt a 0x600
  | .st _ a => m.writable a
  | .cbld _ c _ => m.cbUsed c
  | .cbst _ c _ => m.cbUsed c && !m.cbConst c
  | .cbpush _ c => m.cbUsed c && !m.cbConst c
  | .cbidx c _ => m.cbUsed c
  | .ftap _ d c _ => m.cbUsed d && m.cbUsed c && d != c
  | _ => true

/-! ### Flow -/

/-- The next instruction after `n` was reached, by the open loops (R311). -/
def loopNext : List (Nat × Nat × Nat) → Nat → Nat × List (Nat × Nat × Nat)
  | [], n => (n, [])
  | (a, b, r) :: l, n =>
    if n = b then (if 0 < r then (a, (a, b, r - 1) :: l) else loopNext l n) else (n, (a, b, r) :: l)

/-- Go on at instruction `n`. -/
def Fm.goto (m : Fm) (n : Nat) : Fm :=
  { m with pc := (loopNext m.loops n).1, loops := (loopNext m.loops n).2 }

/-- One tap of FTAP (R310): the product, and both indices moved. -/
def Fm.tap (m : Fm) (d c : Nat) : Int × Fm :=
  (m.load (m.cbAddr c) * m.load (m.cbAddr d), (m.cbStep c 1).cbStep d (-1))

/-- A counter's value for RDCNT (R312). -/
def counterPart (h : Bool) (v : Nat) : Int := if h then field v 24 8 else toSigned 24 v

/-- The operation of an instruction but for its place in the program (R309). `cnt` gives a counter's live value where
the program may read it (R312). -/
def FInst.op (cnt : Nat → Option Nat) (m : Fm) : FInst → Fm
  | .nop => m
  | .fin => m
  | .rep .. => m
  | .repr .. => m
  | .ldi d v => m.setReg d v
  | .mov d x => m.setReg d (m.reg x)
  | .ld d a => m.setReg d (m.load a)
  | .st x a => m.store a (m.reg x)
  | .cbld d c k => (m.setReg d (m.load (m.cbAddr c))).cbStep c k
  | .cbst x c k => (m.store (m.cbAddr c) (m.reg x)).cbStep c k
  | .cbpush x c => (m.cbStep c 1).store ((m.cbStep c 1).cbAddr c) (m.reg x)
  | .cbidx c j => (m.cbStep c (-(m.idx.getD c 0 : Nat))).cbStep c j
  | .add d a b => m.setSat d (m.reg a + m.reg b)
  | .sub d a b => m.setSat d (m.reg a - m.reg b)
  | .neg d x => m.setSat d (-m.reg x)
  | .shl d x n => m.setSat d (m.reg x * 2 ^ n)
  | .shr d x n => m.setReg d (shrHalfUp (m.reg x) n)
  | .abs d x => m.setSat d (m.reg x).natAbs
  | .min d a b => m.setReg d (Min.min (m.reg a) (m.reg b))
  | .max d a b => m.setReg d (Max.max (m.reg a) (m.reg b))
  | .sel d c a b => m.setReg d (if 0 ≤ m.reg c then m.reg a else m.reg b)
  | .clr a => m.setAcc a 0
  | .mac k a b => m.setAcc k (m.getAcc k + m.reg a * m.reg b)
  | .msu k a b => m.setAcc k (m.getAcc k - m.reg a * m.reg b)
  | .ftap k d c two =>
    let t1 := m.tap d c
    if two then
      let t2 := t1.2.tap d c
      t2.2.setAcc k (m.getAcc k + t1.1 + t2.1)
    else t1.2.setAcc k (m.getAcc k + t1.1)
  | .accadd k x sh => m.setAcc k (m.getAcc k + roundHalfUp ((m.reg x : Rat) * pow2 (23 - sh)))
  | .rnd k d sh => m.setSat d (roundHalfUp ((m.getAcc k : Rat) * pow2 (sh - 23)))
  | .exp d => m.setReg d m.e
  | .rdcnt d n h =>
    match cnt n with
    | some v => m.setReg d (counterPart h v)
    | none => { m.setReg d 0 with denied := true }

/-- Open a loop of `count` passes over the next `len` instructions (R311). -/
def Fm.openLoop (m : Fm) (len count : Nat) : Fm :=
  if count = 0 then m.goto (m.pc + 1 + len)
  else { m with loops := (m.pc + 1, m.pc + 1 + len, count - 1) :: m.loops, pc := m.pc + 1 }

/-- One instruction: its operation, its cycles and its place. -/
def FInst.run (cnt : Nat → Option Nat) (m : Fm) (i : FInst) : Fm :=
  let m1 : Fm := { i.op cnt m with cycles := m.cycles + i.cost }
  match i with
  | .rep len count => m1.openLoop len count
  | .repr len c => m1.openLoop len (clampI 0 4096 (m.reg c)).toNat
  | .fin => m1
  | _ => m1.goto (m.pc + 1)

/-- The cycle fence (R313): the instruction would bring the cycle counter above 2,000. -/
def Fm.fenced (m : Fm) (i : FInst) : Bool := Nat.blt 2000 (m.cycles + i.cost)

/-! ### Encoding -/

/-- Read an instruction word (R309); nothing where a field that must be 0 is not, or the opcode is no filter-class
one. Field bounds of R317 check 5 are checked by `FInst.ok`. -/
def finstOf (w : Nat) : Option FInst :=
  let f := field w
  let only (b : Bool) (i : FInst) : Option FInst := if b then some i else none
  match f 26 6 with
  | 0x00 => only (f 0 26 == 0) .nop
  | 0x01 => only (f 0 26 == 0) .fin
  | 0x02 => only (f 0 8 == 0) (.rep (f 20 6 + 1) (f 8 12 + 1))
  | 0x03 => only (f 0 16 == 0) (.repr (f 20 6 + 1) (f 16 4))
  | 0x04 => some (.ldi (f 22 4) (toSigned 22 w))
  | 0x05 => only (f 0 18 == 0) (.mov (f 22 4) (f 18 4))
  | 0x06 => only (f 11 11 == 0) (.ld (f 22 4) (f 0 11))
  | 0x07 => only (f 11 11 == 0) (.st (f 22 4) (f 0 11))
  | 0x08 => only (f 0 16 == 0) (.cbld (f 22 4) (f 20 2) (toSigned 4 (f 16 4)))
  | 0x09 => only (f 0 16 == 0) (.cbst (f 22 4) (f 20 2) (toSigned 4 (f 16 4)))
  | 0x0A => only (f 0 20 == 0) (.cbpush (f 22 4) (f 20 2))
  | 0x0B => only (f 10 10 == 0 && f 22 4 == 0) (.cbidx (f 20 2) (f 0 10))
  | 0x0C => only (f 0 14 == 0) (.add (f 22 4) (f 18 4) (f 14 4))
  | 0x0D => only (f 0 14 == 0) (.sub (f 22 4) (f 18 4) (f 14 4))
  | 0x0E => only (f 0 18 == 0) (.neg (f 22 4) (f 18 4))
  | 0x0F => only (f 0 13 == 0) (.shl (f 22 4) (f 18 4) (f 13 5))
  | 0x10 => only (f 0 13 == 0) (.shr (f 22 4) (f 18 4) (f 13 5))
  | 0x11 => only (f 0 18 == 0) (.abs (f 22 4) (f 18 4))
  | 0x12 => only (f 0 14 == 0) (.min (f 22 4) (f 18 4) (f 14 4))
  | 0x13 => only (f 0 14 == 0) (.max (f 22 4) (f 18 4) (f 14 4))
  | 0x14 => only (f 0 10 == 0) (.sel (f 22 4) (f 18 4) (f 14 4) (f 10 4))
  | 0x15 => only (f 0 24 == 0) (.clr (f 24 2))
  | 0x16 => only (f 0 16 == 0) (.mac (f 24 2) (f 20 4) (f 16 4))
  | 0x17 => only (f 0 16 == 0) (.msu (f 24 2) (f 20 4) (f 16 4))
  | 0x18 => only (f 0 19 == 0) (.ftap (f 24 2) (f 22 2) (f 20 2) (bit w 19))
  | 0x19 => only (f 0 10 == 0 && f 16 4 == 0) (.accadd (f 24 2) (f 20 4) (toSigned 6 (f 10 6)))
  | 0x1A => only (f 0 10 == 0 && f 16 4 == 0) (.rnd (f 24 2) (f 20 4) (toSigned 6 (f 10 6)))
  | 0x1B => only (f 0 22 == 0) (.exp (f 22 4))
  | 0x1C => only (f 0 15 == 0) (.rdcnt (f 22 4) (f 16 6) (bit w 15))
  | _ => none

/-! ### Images and invocations -/

/-- CODE_LEN of an image (R316). -/
def imgCode (b : Bytes) : Nat := uAt b 2 2
/-- COEF_LEN. -/
def imgCoef (b : Bytes) : Nat := uAt b 4 2
/-- STATE_LEN. -/
def imgState (b : Bytes) : Nat := uAt b 6 2
/-- Instruction word `k`. -/
def imgWord (b : Bytes) (k : Nat) : Nat := uAt b (32 + 4 * k) 4
/-- Coefficient word `k`. -/
def imgCoefWord (b : Bytes) (k : Nat) : Nat := uAt b (32 + 4 * imgCode b + 4 * k) 4
/-- Base of a buffer. -/
def imgBase (b : Bytes) (c : Nat) : Nat := uAt b (8 + 4 * c) 2
/-- Length of a buffer. -/
def imgLen (b : Bytes) (c : Nat) : Nat := uAt b (10 + 4 * c) 2

/-- The machine at entry (R306, R307). -/
def fmEntry (img : Bytes) (u : FpUse) (e : Int) (ctxA ctxB : Nat) (x : Int) : Fm :=
  let coefs := (List.range (imgCoef img)).foldl
    (fun m k => SMap.put m 0 (0x10 + k) (toSigned 24 (imgCoefWord img k))) ([] : SMap Int)
  let state := (u.mem.filter (fun w => Nat.ble 0x210 w.1 && Nat.blt w.1 (0x210 + imgState img))).foldl
    (fun m w => SMap.put m 0 w.1 w.2) coefs
  { mem := SMap.put (SMap.put (SMap.put (SMap.put state 0 0 x) 0 1 x) 0 2 ctxA) 0 3 ctxB
    base := (List.range 4).map (imgBase img), len := (List.range 4).map (imgLen img)
    idx := (List.range 4).map (fun c => u.idx.getD c 0), stateLen := imgState img, e := e }

/-- What persists of a machine (R315). -/
def Fm.kept (m : Fm) : FpUse :=
  { mem := m.mem.filter (fun w => Nat.ble 0x210 w.1 && Nat.blt w.1 (0x210 + m.stateLen)), idx := m.idx }

/-- Run the instructions of an image until END (true) or the fence (false), at most `n` of them. -/
def fmRun (cnt : Nat → Option Nat) (img : Bytes) : Nat → Fm → Fm × Bool
  | 0, m => (m, false)
  | n + 1, m =>
    match finstOf (imgWord img m.pc) with
    | none => (m, false)
    | some i =>
      if m.fenced i then (m, false)
      else if i = .fin then (i.run cnt m, true)
      else fmRun cnt img n (i.run cnt m)

/-- The outcome of an invocation (R313, R314): output, state after it, and whether it saturated, was denied a counter,
and overran. -/
structure FpOut where
  y : Int
  use : FpUse
  sat : Bool
  denied : Bool
  overrun : Bool
  deriving DecidableEq, Repr

/-- A whole invocation. Every instruction takes at least one cycle, so at most 2,000 run. -/
def invoke (cnt : Nat → Option Nat) (img : Bytes) (u : FpUse) (e : Int) (ctxA ctxB : Nat) (x : Int) : FpOut :=
  if imgCode img = 0 then { y := x, use := u, sat := false, denied := false, overrun := false }
  else
    let r := fmRun cnt img 2001 (fmEntry img u e ctxA ctxB x)
    if r.2 then { y := r.1.load 1, use := r.1.kept, sat := r.1.sat, denied := r.1.denied, overrun := false }
    else { y := x, use := u, sat := r.1.sat, denied := r.1.denied, overrun := true }

/-! ### Load checks (R317) -/

/-- The instructions of an image by index; nothing for a word that is no instruction. -/
def imgInsts (b : Bytes) : List (Option FInst) := (List.range (imgCode b)).map (fun k => finstOf (imgWord b k))

/-- The span of a buffer lies within one area (R316). -/
def cbSpanOk (b : Bytes) (c : Nat) : Bool :=
  let a := imgBase b c
  let n := imgLen b c
  n == 0 || (Nat.ble 0x10 a && Nat.ble (a + n) (0x10 + imgCoef b)) ||
    (Nat.ble 0x210 a && Nat.ble (a + n) (0x210 + imgState b)) || (Nat.ble 0x290 a && Nat.ble (a + n) 0x600)

/-- Check 1, FORMAT. -/
def imgFormatOk (b : Bytes) : Bool :=
  uAt b 0 2 == 1 && Nat.ble (imgCode b) 512 && Nat.ble (imgCoef b) 512 && Nat.ble (imgState b) 128 &&
  (List.range 4).all (fun c => Nat.ble (imgLen b c) 880) && uAt b 28 4 == 0 &&
  b.length == 36 + 4 * imgCode b + 4 * imgCoef b &&
  (List.range (imgCoef b)).all (fun k => field (imgCoefWord b k) 24 8 == if bit (imgCoefWord b k) 23 then 255 else 0)

/-- Check 2, DIGEST. -/
def imgDigestOk (b : Bytes) : Bool := uAt b (b.length - 4) 4 == crc32c (b.take (b.length - 4))

/-- The index of the first element `p` picks. -/
def firstIdx {α : Type} (p : α → Bool) (l : List α) : Option Nat := l.findIdx? p

/-- A loop instruction's body length. -/
def FInst.bodyLen : FInst → Option Nat
  | .rep len _ => some len
  | .repr len _ => some len
  | _ => none

/-- A body from `k + 1` of `len` instructions ends before the last instruction, holds at most one loop, and that loop's
body lies inside it (R311). -/
def loopOk (l : List (Option FInst)) (k len : Nat) : Bool :=
  let body := ((l.drop (k + 1)).take len)
  let inner := (List.range len).filter (fun j => ((body.getD j none).bind FInst.bodyLen).isSome)
  Nat.blt (k + len) (l.length - 1) &&
  match inner with
  | [] => true
  | [j] => match (body.getD j none).bind FInst.bodyLen with
    | some m => Nat.ble (j + 1 + m) len &&
        ((body.drop (j + 1)).take m).all (fun i => (i.bind FInst.bodyLen).isNone)
    | none => true
  | _ => false

/-- Cycles of a list of instructions without loops. -/
def flatCost (l : List (Option FInst)) : Nat := (l.map (fun i => (i.map FInst.cost).getD 0)).sum

/-- Static cycles of a list of instructions, REPR bodies executed zero times (R317), loops to depth `n`. -/
def staticCost : Nat → Nat → List (Option FInst) → Nat
  | _, 0, _ => 0
  | _, _, [] => 0
  | 0, n + 1, i :: r => (i.map FInst.cost).getD 0 + staticCost 0 n r
  | d + 1, n + 1, i :: r =>
    match i with
    | some (.rep len c) => 1 + c * staticCost d n (r.take len) + staticCost (d + 1) n (r.drop len)
    | some (.repr len _) => 1 + staticCost (d + 1) n (r.drop len)
    | _ => (i.map FInst.cost).getD 0 + staticCost (d + 1) n r

/-- FP_STATIC_CYCLES. -/
def imgStatic (b : Bytes) : Nat := staticCost 3 (imgCode b + 1) (imgInsts b)

/-- The program holds REPR (FP_VARIABLE). -/
def imgVariable (b : Bytes) : Bool := (imgInsts b).any (fun i => match i with | some (.repr ..) => true | _ => false)

/-- The result of the load checks 1 to 11 (R317): code and instruction index. -/
def loadCheck (b : Bytes) : Option (Nat × Nat) :=
  let m := fmEntry b {} 0 0 0 0
  let insts := imgInsts b
  let words := (List.range (imgCode b)).map (imgWord b)
  let at_ (code : Nat) (i : Option Nat) : Option (Nat × Nat) := i.map (fun k => (code, k))
  if !imgFormatOk b then some (1, 0xFFFF)
  else if !imgDigestOk b then some (2, 0xFFFF)
  else
    let c3 := at_ 3 (firstIdx (fun w => Nat.ble 0x20 (field w 26 6)) words)
    let c4 := at_ 4 (firstIdx (fun w => Nat.ble 0x1D (field w 26 6)) words)
    let c5 := at_ 5 (firstIdx (fun i => match i with
      | none => true
      | some (.shl _ _ n) => Nat.blt 23 n
      | some (.shr _ _ n) => Nat.blt 23 n
      | some (.ftap _ d c _) => d == c
      | _ => false) insts)
    let c6 := at_ 6 (firstIdx (fun i => match i with
      | some (.ld _ a) => Nat.ble 0x600 a
      | some (.st _ a) => !m.writable a
      | _ => false) insts)
    let c7 := if !(List.range 4).all (cbSpanOk b) then some (7, 0xFFFF) else
      at_ 7 (firstIdx (fun i => match i with
        | some (.cbld _ c _) => !m.cbUsed c
        | some (.cbst _ c _) => !m.cbUsed c
        | some (.cbpush _ c) => !m.cbUsed c
        | some (.cbidx c _) => !m.cbUsed c
        | some (.ftap _ d c _) => !m.cbUsed d || !m.cbUsed c
        | _ => false) insts)
    let c8 := at_ 8 (firstIdx (fun i => match i with
      | some (.cbst _ c _) => m.cbConst c
      | some (.cbpush _ c) => m.cbConst c
      | _ => false) insts)
    let c9 := at_ 9 ((List.range insts.length).find? (fun k =>
      match (insts.getD k none).bind FInst.bodyLen with
      | some len => !loopOk insts k len
      | none => false))
    let c10 : Option (Nat × Nat) := if insts.isEmpty then none
      else match firstIdx (fun i => i == some FInst.fin) insts with
        | none => some (10, 0xFFFF)
        | some k => if k + 1 = insts.length then none else some (10, k)
    let c11 : Option (Nat × Nat) :=
      if !imgVariable b && Nat.blt 2000 (imgStatic b) then some (11, 0xFFFF) else none
    [c3, c4, c5, c6, c7, c8, c9, c10, c11].findSome? id

/-! ### AFFINE or NONAFFINE (R317) -/

/-- The register an instruction writes. -/
def FInst.dest : FInst → Option Nat
  | .ldi d _ => some d
  | .mov d _ => some d
  | .ld d _ => some d
  | .cbld d _ _ => some d
  | .add d _ _ => some d
  | .sub d _ _ => some d
  | .neg d _ => some d
  | .shl d _ _ => some d
  | .shr d _ _ => some d
  | .abs d _ => some d
  | .min d _ _ => some d
  | .max d _ _ => some d
  | .sel d _ _ _ => some d
  | .rnd _ d _ => some d
  | .exp d => some d
  | .rdcnt d _ _ => some d
  | _ => none

/-- The value an instruction gives its register is constant, with the registers and accumulators that are not. -/
def FInst.givesConst (m : Fm) (nc nacc : List Nat) : FInst → Bool
  | .ldi .. => true
  | .exp .. => true
  | .ld _ a => Nat.ble 2 a && Nat.blt a 0x210
  | .cbld _ c _ => m.cbConst c
  | .mov _ x => !nc.contains x
  | .neg _ x => !nc.contains x
  | .shl _ x _ => !nc.contains x
  | .shr _ x _ => !nc.contains x
  | .abs _ x => !nc.contains x
  | .add _ a b => !nc.contains a && !nc.contains b
  | .sub _ a b => !nc.contains a && !nc.contains b
  | .min _ a b => !nc.contains a && !nc.contains b
  | .max _ a b => !nc.contains a && !nc.contains b
  | .sel _ c a b => !nc.contains c && !nc.contains a && !nc.contains b
  | .rnd k _ _ => !nacc.contains k
  | _ => false

/-- The accumulator an instruction makes not constant. -/
def FInst.taintsAcc (m : Fm) (nc : List Nat) : FInst → Option Nat
  | .mac k a b => if nc.contains a || nc.contains b then some k else none
  | .msu k a b => if nc.contains a || nc.contains b then some k else none
  | .accadd k x _ => if nc.contains x then some k else none
  | .ftap k d c _ => if m.cbConst d && m.cbConst c then none else some k
  | _ => none

/-- One pass over the program: registers and accumulators not constant once given such a value. -/
def taintPass (m : Fm) : List (Option FInst) → List Nat × List Nat → List Nat × List Nat
  | [], t => t
  | none :: r, t => taintPass m r t
  | some i :: r, (nc, nacc) =>
    let nc' := match i.dest with
      | some d => if i.givesConst m nc nacc then nc else d :: nc
      | none => nc
    let nacc' := match i.taintsAcc m nc with
      | some k => k :: nacc
      | none => match i with
        | .clr k => nacc.filter (· != k)
        | _ => nacc
    taintPass m r (nc', nacc')

/-- An instruction of class N, or one marked N for its operands (R309). -/
def FInst.nonAffine (m : Fm) (nc : List Nat) : FInst → Bool
  | .repr .. => true
  | .abs .. => true
  | .min .. => true
  | .max .. => true
  | .sel .. => true
  | .rdcnt .. => true
  | .mac _ a b => nc.contains a && nc.contains b
  | .msu _ a b => nc.contains a && nc.contains b
  | .ftap _ _ c _ => !m.cbConst c
  | _ => false

/-- Walk the program with what is not constant; in a loop body everything that body makes not constant counts from its
first instruction (R317). `n` bounds the instructions. -/
def affineGo (m : Fm) : Nat → List (Option FInst) → List Nat × List Nat → Bool × (List Nat × List Nat)
  | 0, _, t => (true, t)
  | _, [], t => (true, t)
  | n + 1, i :: r, t =>
    match i with
    | none => affineGo m n r t
    | some i =>
      let t1 := taintPass m [some i] t
      let t2 := match i.bodyLen with
        | some len =>
          let e := taintPass m (r.take len) (taintPass m (r.take len) (taintPass m (r.take len) t1))
          (e.1, t1.2 ++ e.2)
        | none => t1
      let rest := affineGo m n r t2
      (!i.nonAffine m t.1 && rest.1, rest.2)

/-- The program is AFFINE. -/
def imgAffine (b : Bytes) : Bool :=
  (affineGo (fmEntry b {} 0 0 0 0) (imgCode b + 1) (imgInsts b) ([], [])).1

end Sys2Proof.Machine
end

