-- ==== Sys2Proof/Machine/AxisTypes.lean ====
section
/-! DEFINITION. The state of an axis and of an on-chip encoder channel, as plain data: loop state words, pending words,
predictor, observer, estimator, profile source, switches and the axis state machine's own words. -/

namespace Sys2Proof.Machine

open Sys2Proof

/-- Delay words of a biquad (R184). -/
structure Biq where
  x1 : Int := 0
  x2 : Int := 0
  y1 : Int := 0
  y2 : Int := 0
  deriving DecidableEq, Repr

/-- State of an insertion point (R184): low-pass output, two biquads, the filter program's state. -/
structure PointSt where
  lp : Int := 0
  b1 : Biq := {}
  b2 : Biq := {}
  fp : FpUse := {}
  deriving DecidableEq, Repr

/-- State of an outer stage (R184): integrator, filtered derivative, previous feedback (velocity stage), dir, gain
segment, held output; mantissas in the stage's exponent. -/
structure OuterSt where
  i : Int := 0
  df : Int := 0
  fbPrev : Int := 0
  dir : Int := 0
  seg : Nat := 0
  out : Int := 0
  deriving DecidableEq, Repr

/-- Loop state words of an axis (R184): outer stages, the two components of the current stage, the four insertion
points, and the component set-points of the current stage's last execution (R217). -/
structure Words where
  pos : OuterSt := {}
  vel : OuterSt := {}
  i0 : Int := 0
  i1 : Int := 0
  d0 : Int := 0
  d1 : Int := 0
  pt0 : PointSt := {}
  pt1 : PointSt := {}
  pt2 : PointSt := {}
  pt3 : PointSt := {}
  set : Option (Int × Int) := none
  deriving DecidableEq, Repr

/-- Measured inputs (R195): position (R7), speed (R8), and the current components in amperes. -/
structure Inputs where
  pos : Int := 0
  speed : Int := 0
  i0 : Rat := 0
  i1 : Rat := 0
  deriving DecidableEq, Repr

/-- Profile values of a tick (R231): set-point, profile velocity (turns/s, binary64) and acceleration (turns/s²). -/
structure Profile where
  p : Int := 0
  v : Rat := 0
  a : Rat := 0
  deriving DecidableEq, Repr

/-- An execution of an outer stage: error, unclamped output, dir, gain segment. -/
structure StageRun where
  e : Int
  u : Int
  dir : Int
  seg : Nat
  deriving DecidableEq, Repr

/-- What the two runs of a filter program at a point yield (R203): the difference of the outputs, and the probe run's
state memory; a run that ended at its fence passes the input. -/
structure Probe where
  dy : Int
  use : FpUse
  deriving DecidableEq, Repr

/-- The pending words of a speculation (R195, R198): the predicted inputs, the words, the executions of the stages that
ran, the set-points and PI outputs of the current stage, the angle used (R216), the probes by point, whether a value
saturated in the position, velocity and current stage (R200), and the tick it is for. -/
structure Spec where
  tick : Nat
  inp : Inputs
  prof : Profile
  words : Words
  pos : Option StageRun
  vel : Option StageRun
  e0 : Int
  e1 : Int
  u0 : Int
  u1 : Int
  theta : Rat
  probes : List (Nat × Probe)
  satP : Bool
  satV : Bool
  satC : Bool
  deriving DecidableEq, Repr

/-- A segment in a queue (R233, R239): its fields, the tick its append took effect, the tick it may be used from (set by
the prefetch), and the code of a failed prefetch check. -/
structure Seg where
  dur : Nat
  flags : Nat
  tag : Nat
  endPos : Int
  endVel : Int
  at_ : Nat
  usable : Option Nat := none
  bad : Nat := 0
  deriving DecidableEq, Repr

/-- A home or limit switch (R252): debounced state, last raw value, the run of cycles in which the raw value has
differed from the debounced state, the position of the first of them, and the ticks of recent raw changes. -/
structure Switch where
  deb : Bool := false
  raw : Bool := false
  run : Nat := 0
  edgePos : Int := 0
  changes : List Nat := []
  deriving DecidableEq, Repr

/-- Motion generation of an axis. `v`, `a`: v_p and a_p. Tables: queue, origin, elapsed count, start of the segment in
progress, index in a REPEAT pattern, segments left, mode, tick from which the table may begin, whether it has begun,
A_prev of R237. Ramps: position mode, target, vmax, acc, dec_eff, v_t, the entry whose value a STOP's
deceleration follows (0 none); `ending`: what follows the running STOP (0
nothing, 1 MOVE_DONE). Gear: pm0 and origin. Step/direction: s_prev. `swOff`: switches (bit 0 home,
1 negative, 2 positive) whose point a later configuration took away (R251). Homing: direction of search, reversed, start
position, the ramp to 0 that precedes `homeNext`. `setSince`: running time since which the set-point has stayed
unchanged, and whether I_HOLD is in use (R221). -/
structure Motion where
  v : Rat := 0
  a : Rat := 0
  queue : List Seg := []
  origin : Int := 0
  el : Nat := 0
  p0 : Int := 0
  v0 : Int := 0
  idx : Nat := 0
  left : Nat := 0
  mode : Nat := 0
  count : Nat := 0
  startTick : Nat := 0
  begun : Bool := false
  aPrev : Int := 0
  rampPos : Bool := false
  target : Int := 0
  vmax : Rat := 0
  acc : Rat := 0
  dec : Rat := 0
  vt : Rat := 0
  decKey : Nat := 0
  ending : Nat := 0
  pm0 : Int := 0
  gearOrigin : Int := 0
  sPrev : Rat := 0
  homeDir : Int := 0
  homeReversed : Bool := false
  homeStart : Int := 0
  homeRamp : Bool := false
  homeNext : Nat := 0
  home : Switch := {}
  neg : Switch := {}
  pos : Switch := {}
  swOff : Nat := 0
  setSince : Nat := 0
  holding : Bool := false
  deriving DecidableEq, Repr

/-- The observer's words (R224, R225): angle (electrical turns), angle of the cycle before, speed (rad/s), previous
currents, and the running time at which the convergence timer started. -/
structure Obs where
  theta : Rat := 0
  thetaPrev : Rat := 0
  omega : Rat := 0
  i0 : Rat := 0
  i1 : Rat := 0
  since : Nat := 0
  deriving DecidableEq, Repr

/-- The speed estimator (R263, R272): last valid POS, reference (count, edge time, direction), estimate in counts per
ns, and time and count of the last valid cycle. -/
structure Est where
  posLast : Option Nat := none
  ref : Option (Int × Int × Int) := none
  v : Rat := 0
  last : Option (Int × Int) := none
  deriving DecidableEq, Repr

/-- The graph of a graph-mode axis (R158, R159): the cycle tag of the feedback tokens placed, the feedback arcs already
consumed, the tokens on the other arcs by arc number, and whether the output node committed. -/
structure Graph where
  fbTag : Option Nat := none
  used : List Nat := []
  tokens : SMap Nat := []
  outDone : Bool := false
  deriving DecidableEq, Repr

/-- How the collector settled an axis record of this cycle (R150). -/
inductive Settled where
  | open_ | onTime | late | hold
  deriving DecidableEq, Repr

/-- An axis.
Collector and command: `committed` (the cycle's result is in the collector), `cancelled`, `settled`, the duties of the
record to send on time (`dutyU`, `dutyV`, `dutyW`) and with LATE_APPLY (`lateU` …), the vectors behind them in the frame
of R219, the vectors of the last two records sent, their APPLY_AT, and the duties and APPLY_AT last sent.
State machine (R192): `pwm`, `brakeReq`, running time at which the timed state began, alignment running, quick stop
running, steepest reaction deceleration, running time since which the speed has been below STANDSTILL_SPEED, input of
test 2 of R200 pending, and ENABLE_SET already reported once.
Loops: committed words, pending words, predictor history, bus voltage (1/16 V) and whether it was 0, following-error run
count, the flags of the monitors, motion, observer, estimator, freeze and stall runs, degraded mode (start, end, a STO of
the present cycle, and the set-point and angle at which the open-loop tail began), the squash run and whether it was raised, squash and delay
histories (newest first). `ranAt`: tick + 1 of the cycle last computed; `thetaS`: θ_s of that cycle in turns (R214); `wSent`: the weight w of R219 for
the record last sent. `indexNew`: an index pulse was reported (R253). `opNs`: time in OPERATION, ns. `vLim`: the voltages after the limit of R171 in the axis's own components, V; `sqCause`: the squash cause of the cycle
(R200); `delta`: the load angle, electrical turns (R226); `settledPrev`: how the record of the previous cycle was settled. `slsClamp`: the Lighthouse's clamp of the velocity set-point, turns/s (R433). -/
structure Axis where
  committed : Bool := false
  cancelled : Bool := false
  settled : Settled := .open_
  dutyU : Int := 0
  dutyV : Int := 0
  dutyW : Int := 0
  lateU : Int := 0
  lateV : Int := 0
  lateW : Int := 0
  vNew : Rat × Rat := (0, 0)
  vLate : Rat × Rat := (0, 0)
  vSent : Rat × Rat := (0, 0)
  vSentPrev : Rat × Rat := (0, 0)
  applyAt : Nat := 0
  sentU : Int := 0
  sentV : Int := 0
  sentW : Int := 0
  interrupted : Bool := false
  interruptRun : Nat := 0
  graph : Graph := {}
  pwm : Bool := false
  brakeReq : Bool := false
  brakeSeen : Bool := false
  since : Nat := 0
  aligning : Bool := false
  quick : Bool := false
  reactDec : Rat := 0
  stillSince : Option Nat := none
  changed : Bool := false
  enableSet : Bool := false
  words : Words := {}
  spec : Option Spec := none
  h1 : Option Inputs := none
  h0 : Option Inputs := none
  vbus : Nat := 0
  busZero : Bool := false
  feRun : Nat := 0
  feFlag : Bool := false
  softFlag : Bool := false
  overFlag : Bool := false
  tripFlag : Bool := false
  tempFlag : Bool := false
  mot : Motion := {}
  obs : Obs := {}
  est : Est := {}
  freezeRun : Nat := 0
  stallRun : Nat := 0
  stallTime : Nat := 0
  degAt : Nat := 0
  degUntil : Nat := 0
  degCommit : Bool := false
  degBase : Int := 0
  degTheta : Rat := 0
  ranAt : Nat := 0
  thetaS : Rat := 0
  wSent : Rat := 0
  squashRun : Nat := 0
  squashRaised : Bool := false
  lateRun : Nat := 0
  recHist : List Bool := []
  delayHist : List Nat := []
  slsClamp : Option Rat := none
  indexNew : Bool := false
  opNs : Nat := 0
  vLim : Rat × Rat := (0, 0)
  sqCause : Nat := 0
  delta : Rat := 0
  settledPrev : Settled := .open_
  deriving DecidableEq, Repr

/-- A capture of an on-chip channel (R269, R255): unwrapped count, time since the last counted edge and its sign, and
the interval between the last two steps of equal direction. -/
structure Cap where
  n : Int
  age : Option Nat
  sign : Int
  q : Nat
  deriving DecidableEq, Repr

/-- An on-chip encoder channel (R264 to R270): filtered levels of A and B, the unwrapped count, running time and sign of
the last counted edge, interval of the last two steps of equal direction, captures (newest first), and the senior
head's capture of this cycle. -/
structure Enc where
  a : Bool := false
  b : Bool := false
  u : Int := 0
  edge : Option Nat := none
  sign : Int := 0
  q : Nat := 0
  caps : List Cap := []
  senior : Option Cap := none
  deriving DecidableEq, Repr

/-- A master (R291): its value for this cycle (position R7, speed turns/s, acceleration turns/s²) and its position in the
cycle before, the value its task computed for the next cycle, the two latest positions and speeds it extrapolates from,
and the estimator of an ENCODER source. -/
structure Master where
  pos : Int := 0
  v : Rat := 0
  a : Rat := 0
  prev : Int := 0
  nPos : Int := 0
  nV : Rat := 0
  nA : Rat := 0
  h1 : Option (Int × Int) := none
  h0 : Option (Int × Int) := none
  est : Est := {}
  deriving DecidableEq, Repr

/-- The computed value becomes that of the cycle. -/
def Master.publish (m : Master) : Master := { m with pos := m.nPos, v := m.nV, a := m.nA, prev := m.pos }

end Sys2Proof.Machine
end

