-- ==== Sys2Proof/Machine/HostTypes.lean ====
section
/-! DEFINITION. What the host side holds: stored images (R332 to R336), sessions and requests (R353 to R364), the
uplink (R344 to R352), the CAN controllers (R366 to R382), power feeds and transitions (R465 to R476), boot and firmware
update (R487 to R491), and the margin plan (R499 to R504). -/

namespace Sys2Proof.Machine

open Sys2Proof

/-! ### Stored images (R332 to R336) -/

/-- A settings image in a slot of MRAM: its sequence number, length in bytes, and the stored entries. -/
structure Image where
  seq : Nat
  size : Nat
  od : SMap Int
  odB : SMap Bytes
  deriving DecidableEq, Repr

/-- A store or restore in progress: the slot it writes (0 A, 1 B) and the image. -/
structure Storing where
  slot : Nat
  image : Image
  deriving DecidableEq, Repr

/-- MRAM beside the recorder: the image in each slot, the pointer ring's words (slot and sequence number) and the word
written last, the writes of each slot and of each pointer word, the store in progress, when the last store or restore
completed (running time). -/
structure Mram where
  slotA : Option Image := none
  slotB : Option Image := none
  ring : SMap (Nat × Nat) := []
  last : Nat := 255
  writesA : Nat := 0
  writesB : Nat := 0
  ptrWrites : SMap Nat := []
  storing : Option Storing := none
  doneAt : Option Nat := none
  deriving DecidableEq, Repr

/-! ### TOA (R353 to R364) -/

/-- A part of a request under reassembly (R356, R357). -/
structure Part where
  tag : Nat
  gen : Nat
  service : Nat
  flags : Nat
  part : Nat
  parts : Nat
  body : Bytes
  at_ : Nat
  deriving DecidableEq, Repr

/-- What a request still waits for: its turn, an island's mailbox (R363), or the end of a transition
of power (R474). -/
inductive ReqWait where
  | turn
  | island (n mbxTag mbxGen : Nat)
  | power
  deriving DecidableEq, Repr

/-- A complete request in progress (R358): its password (R361) and service body. -/
structure Req where
  tag : Nat
  gen : Nat
  service : Nat
  pw : Option Bytes
  body : Bytes
  wait : ReqWait
  deriving DecidableEq, Repr

/-- A kept response (R358). -/
structure Kept where
  tag : Nat
  gen : Nat
  service : Nat
  status : Nat
  body : Bytes
  deriving DecidableEq, Repr

/-- A TOA session: running time of the handshake's start and of its last message, whether it was opened in the
commissioning state (R494), parts under reassembly, requests in progress in order of arrival, the last 32 responses,
generations completed by tag (with the tag's last), subscribed channels, and when each of its instances became ready. -/
structure Session where
  since : Nat := 0
  lastAt : Nat := 0
  commissioning : Bool := false
  parts : List Part := []
  reqs : List Req := []
  kept : List Kept := []
  completed : SMap (Option Nat) := []
  channels : Nat := 0
  deriving DecidableEq, Repr

/-! ### Uplink (R344 to R352) -/

/-- A master heard in Announce messages (R352): the port it came in on, its data set in the order of comparison, its
identity, currentUtcOffset, the announce interval in ns, whether it is qualified, and when it was last heard. -/
structure Foreign where
  port : Nat
  rank : List Nat
  identity : Nat
  utc : Int
  interval : Nat
  qualified : Bool
  heardAt : Nat
  deriving DecidableEq, Repr

/-- The uplink: learned addresses (address, port, running time), the IP settings in use since reset (R348), the address
being probed, addresses tried and the last conflict defended (R346), alignment terms in UI by port, masters heard, Syncs
in a row within and outside the thresholds, the last Sync's t2 − t1 and Delay_Req's t3 in ns, the mean path delay, and
when the last Delay_Req was sent (R352). -/
structure Uplink where
  macs : List (Nat × Nat × Nat) := []
  ipMode : Nat := 0
  address : Nat := 0
  mask : Nat := 0xFFFF_FF00
  gateway : Nat := 0
  udpPort : Nat := 4128
  probing : Option Nat := none
  attempts : Nat := 0
  conflictAt : Option Nat := none
  alignment : SMap Nat := []
  masters : List Foreign := []
  within : Nat := 0
  beyond : Nat := 0
  syncDiff : Option Rat := none
  delayT3 : Option Rat := none
  meanDelay : Option Rat := none
  delayAt : Option Nat := none
  deriving DecidableEq, Repr

/-! ### CAN (R366 to R382) -/

/-- A CAN frame: identifier word of the *CAN frame entry*, DLC, flags (bit 0 RTR, bit 1 ESI), receive time, data. -/
structure CanFrame where
  id : Nat
  dlc : Nat
  flags : Nat
  time : Nat
  data : Bytes
  deriving DecidableEq, Repr

/-- States of a transmit buffer, in the order of TX_STATUS (R377). -/
inductive TxState where
  | empty | pending | active | transmitted | cancelled | failed
  deriving DecidableEq, Repr

/-- A transmit buffer: its state and cause, its frame, a remembered cancel, and the channel and place in order of the
instance a notification frame carries. -/
structure TxBuf where
  state : TxState := .empty
  cause : Nat := 0
  frame : Option CanFrame := none
  cancel : Bool := false
  inst : Option (Fin 16 × Nat) := none
  deriving DecidableEq, Repr

/-- A CAN controller: receive FIFO (oldest first), whether a frame was lost since it was last below full, high-priority
buffer, transmit buffers, bytes of the TOA part being received with the next frame index and the running time of its first
frame, and the response frames waiting for buffer 0. -/
structure Can where
  fifo : List CanFrame := []
  lossy : Bool := false
  hp : Option CanFrame := none
  buf0 : TxBuf := {}
  buf1 : TxBuf := {}
  buf2 : TxBuf := {}
  rx : Option (Bytes × Nat × Nat) := none
  tx : List CanFrame := []
  deriving DecidableEq, Repr

/-! ### Power (R465 to R476) -/

/-- A step of a transition: a domain powers up or down. -/
inductive PowerStep where
  | up (d : Nat)
  | down (d : Nat)
  deriving DecidableEq, Repr

/-- A transition in progress (R474): the power states it leads from and to; its steps (first the one in progress), and
those that follow when every cluster has drained; whether a write given as a command of its own waits for its answer. -/
structure Transition where
  from_ : Nat
  target : Nat
  steps : List PowerStep
  later : List PowerStep
  own : Bool
  deriving DecidableEq, Repr

/-- Housekeeping/Power and the feed arbiter: the transition, the two filtered force pins, when a force ended, when each
feed last became healthy for each domain (key: 16 × feed + domain, running time), clusters that were LOST when they were
switched off, and whether THERMAL_WARNING was raised and not yet re-armed (R476). -/
structure Power where
  trans : Option Transition := none
  pinA : Bool := false
  pinB : Bool := false
  forceEnd : Nat := 0
  healthySince : SMap Nat := []
  lost : List Nat := []
  warned : Bool := false
  deriving DecidableEq, Repr

/-! ### Reset, boot and update (R483 to R491) -/

/-- Where a boot stands (R484, R489): the reset is held; a payload is being loaded; its image runs and settings are being
restored; STANDBY was reached; BOOT_FAIL. -/
inductive BootState where
  | inReset | loading | image | running | stopped
  deriving DecidableEq, Repr

/-- Boot: state, the headers of the two slots as last read, slots whose payload was tried, the slot being tried, when the
reset was released, and whether EXTEST, CLAMP or HIGHZ is loaded (R496). -/
structure Boot where
  state : BootState := .inReset
  headers : List Bytes := []
  tried : List Nat := []
  trying : Nat := 0
  releasedAt : Nat := 0
  tapHolds : Bool := false
  deriving DecidableEq, Repr

/-! ### Ageing (R499 to R504) -/

/-- A margin plan: trim in mV, skerry clock in MHz, presets by port, rows to re-map. -/
structure Plan where
  trim : Nat
  clock : Nat
  presets : SMap Nat
  spares : Nat
  deriving DecidableEq, Repr

/-- Housekeeping/Ageing: the proposal with its number, and the number of the last plan computed; when PLAN_INTERVAL last
ended (running time); ports whose eye was scanned since reset; presets accepted and waiting for their port's link; the
skerry clock accepted; the code on VID_CORE and when it last stepped; rows beyond their limits and not re-mapped, rows an
accepted plan is yet to re-map; and when each cluster was last switched off. -/
structure Ageing where
  proposal : Option (Nat × Plan) := none
  lastPlan : Nat := 0
  computedAt : Nat := 0
  scanned : List Nat := []
  presets : SMap Nat := []
  clock : Nat := 1000
  vid : Nat := 0
  vidAt : Option Nat := none
  wornRows : Nat := 0
  sparesDue : Nat := 0
  poweredAt : SMap Nat := []
  deriving DecidableEq, Repr

/-- At a reset VID_CORE is driven low (R510), and a proposal, its number and measurements are gone; the accepted plan
applies again (R504). -/
def Ageing.atReset (x : Ageing) : Ageing :=
  { x with proposal := none, lastPlan := 0, scanned := [], vid := 0, vidAt := none, wornRows := 0 }

end Sys2Proof.Machine
end

