-- ==== Sys2Proof/Machine/LhTypes.lean ====
section
/-! DEFINITION. What the Lighthouse holds (R422 to R449): inputs, output switches, axes, scopes of the degraded mode,
the activation in progress and the password. -/

namespace Sys2Proof.Machine

open Sys2Proof

/-- A safe input: filtered levels of A and B, running time since which the channels disagree and since which both show
demand in FAULT, discrepancy fault, channel faults, pulses stayed high and passed in a row by channel, running time since
which the contacts are closed, and whether a press of 0.1 to 5 s has ended (R426 to R429). -/
structure SiIn where
  a : Bool := false
  b : Bool := false
  disSince : Option Nat := none
  bothSince : Option Nat := none
  dis : Bool := false
  faultA : Bool := false
  faultB : Bool := false
  stayA : Nat := 0
  stayB : Nat := 0
  passA : Nat := 0
  passB : Nat := 0
  closedAt : Option Nat := none
  press : Bool := false
  deriving DecidableEq, Repr

/-- A safe output pair: tests passed in a row by its high-side and low-side switch (R431). -/
structure SoOut where
  passHigh : Nat := 0
  passLow : Nat := 0
  deriving DecidableEq, Repr

/-- An axis: running time at which SLS or SS1 began, the group it takes its parameters from, SS1-t, v0, SLS monitoring on,
axis-level causes latched, runs of R438, running time at which STO began, STO_READBACK_FAIL raised, and the brake kept
released after STO until SBC_DELAY (R433 to R439). -/
structure LhAxis where
  since : Nat := 0
  group : Nat := 0
  timed : Bool := false
  v0 : Nat := 0
  monitored : Bool := false
  latched : List Nat := []
  xrun : Nat := 0
  xmiss : Nat := 0
  stoAt : Nat := 0
  readback : Bool := false
  sbcHold : Bool := false
  deriving DecidableEq, Repr

/-- A scope of the degraded mode: cause code and reference of R451, the failed channels, and whether a second channel
failed (R442, R443). -/
structure Scope where
  cause : Nat
  ref : Nat
  failed : List Nat
  second : Bool
  deriving DecidableEq, Repr

/-- The Lighthouse: when LH was powered and when RUN began, self-test passed, inputs, outputs, axes, islands whose
containers are lost, scopes, when degraded mode began, the set to activate at the next cycle with who acknowledged it,
running times of wrong passwords, the end of the lockout, and the password. -/
structure Lh where
  startedAt : Nat := 0
  runAt : Nat := 0
  tested : Bool := false
  si : SMap SiIn := []
  so : SMap SoOut := []
  axes : SMap LhAxis := []
  lost : List Nat := []
  scopes : List Scope := []
  degradedAt : Nat := 0
  activate : Option (SMap Int × Who) := none
  wrong : List Nat := []
  lockUntil : Nat := 0
  password : Option Bytes := none
  deriving DecidableEq, Repr

end Sys2Proof.Machine
end

