-- ==== Sys2Proof/Machine/State.lean ====
section
/-! DEFINITION. The state of the block: every register, FIFO, buffer, counter, mode and queue the spec gives it, as
plain data, with the values of reset as the fields' defaults; the outcomes' reasons; and `State.reset`. -/

namespace Sys2Proof.Machine

open Sys2Proof

/-! ### Events and notifications (R339 to R342) -/

/-- An event raised and not yet placed (R340), with the wall time (where one is valid), the state of the PTP slave and the head's
role as it was raised (R452): EVENT_PLACE takes it. -/
structure Raised where
  source : Nat
  data0 : Nat
  data1 : Nat
  cycle : Nat
  netTime : Nat
  runTime : Nat
  extra : Bytes
  wall : Option Nat := none
  ptp : Bool := false
  junior : Bool := false
  deriving DecidableEq, Repr

/-- An event instance (R340). -/
structure EventInst where
  source : Nat
  channel : Nat
  seq : Nat
  cycle : Nat
  netTime : Nat
  data0 : Nat
  data1 : Nat
  deriving DecidableEq, Repr

/-- An instance in a channel's queue: the order in which it was placed, when (running time), and the paths that have not
sent it yet (R342, R364). -/
structure Queued where
  inst : EventInst
  order : Nat
  placedAt : Nat
  toaWaiting : List Nat
  canWaiting : Bool
  deriving DecidableEq, Repr

/-- A notification channel (R340, R342): next CHANNEL_SEQ, queue (oldest first), and the instances dropped since the
queue was full. -/
structure Channel where
  seq : Nat := 0
  queue : List Queued := []
  dropped : Nat := 0
  deriving DecidableEq, Repr

/-! ### Event recorder (R452 to R462) -/

/-- Token bucket of a source (R456); tokens in units of 10^-11 record. -/
structure Bucket where
  tokens : Nat := 16 * 10 ^ 11
  tLast : Nat := 0
  supp : Nat := 0
  deriving DecidableEq, Repr

/-- A record waiting for its MRAM write (R452, R458, R460). -/
structure RecEntry where
  code : Nat
  runTime : Nat
  wall : Nat
  wallValid : Bool
  cycle : Nat
  suppressed : Nat
  ptpLocked : Bool
  junior : Bool
  data0 : Nat
  data1 : Nat
  extra : Bytes
  deriving DecidableEq, Repr

/-- A fault being ridden through (R26, R460): its event source, the axes with interrupted cycles, the longest run,
the whole cycles since the last interrupted one, and whether the present cycle counts as none of these. -/
structure Ride where
  source : Nat
  axes : List Nat
  longest : Nat
  quiet : Nat
  hit : Bool
  deriving DecidableEq, Repr

/-- The recorder: flood FIFO and reserved places in one order, ring of slots (64 octets each; no octets: never
written), buckets, losses since the FIFO was full, the time of the last record write, faults ridden through, and steps of
wall time whose records TIME_SET is yet to queue. -/
structure Recorder where
  fifo : List RecEntry := []
  ring : SMap Bytes := []
  buckets : SMap Bucket := []
  lost : List (Nat × Nat) := []
  lossFirst : Option RecEntry := none
  lastWrite : Option Nat := none
  rides : List Ride := []
  steps : List RecEntry := []
  deriving DecidableEq, Repr

/-! ### Counters and bandwidth windows (R415 to R418) -/

/-- Performance counters: live values, values and flags at the last cycle start, the partial skerry-busy count, and
the window in progress (per port: bytes and wire time in ps, both directions). -/
structure Counters where
  live : SMap Nat := []
  flags : Nat := 0
  latched : SMap Nat := []
  latchedFlags : Nat := 0
  busyRest : Nat := 0
  wrapped : List Nat := []
  windowStart : Nat := 0
  rxBytes : SMap Nat := []
  txBytes : SMap Nat := []
  rxWire : SMap Nat := []
  txWire : SMap Nat := []
  deriving DecidableEq, Repr

/-! ### Acquisition (R403 to R412) and trace (R413, R414) -/

/-- A base sample or row: cycle counter, instant (network time, ns), per enabled channel its words (value, or minimum
and maximum), INVALID and SAT masks, and whether ACQ_PROCESS has processed it. -/
structure AcqRow where
  cycle : Nat
  instant : Nat
  words : List (Nat × Int × Int)
  invalid : Nat
  sat : Nat
  processed : Bool
  deriving DecidableEq, Repr

/-- The acquisition engine: rows in the ring, oldest first, with the number of rows dropped from its front; the cycle of
the first base sample; the run of base samples being reduced; the previous valid sample of the trigger channel with its
instant; edge readiness; when ARMED began; the numbers of the trigger row and of the first kept row, counted from the
start of the acquisition; a row that would have overwritten an unprocessed one; pulses due by pin and network time. -/
structure Acq where
  rows : List AcqRow := []
  dropped : Nat := 0
  startCycle : Nat := 0
  partial_ : Option AcqRow := none
  partialCount : Nat := 0
  prev : Option (Int × Nat) := none
  riseReady : Bool := false
  fallReady : Bool := false
  armedAt : Nat := 0
  trigRow : Option Nat := none
  first : Nat := 0
  overrun : Bool := false
  pulses : List (Nat × Nat) := []
  deriving DecidableEq, Repr

/-- An axis trace: rows by ring index, next ring index, rows stored (at most the depth), rows still to store while
STOPPING. -/
structure Trace where
  ring : SMap (List Nat) := []
  next : Nat := 0
  count : Nat := 0
  remaining : Nat := 0
  deriving DecidableEq, Repr

/-! ### Analogue inputs (R384 to R399) -/

/-- A modulator: the ADC channel being converted and its settings since the filter reset (order, decimation, samples,
gain code, reference, open-wire current, direction and threshold), network time of the actual start edge of the step in
ns, outputs and valid outputs since, channels the scan has yet to convert, a start held until an injected conversion ends, the result FIFO, whether results were lost since it was last below full, whether
ADC_PTP_UNLOCKED was raised in this period, when START_SOURCE took effect (network time), and the clock edge at which a
scan last started from IDLE. -/
structure Modulator where
  chan : Nat := 0
  order : Nat := 1
  dec : Nat := 256
  samples : Nat := 1
  gain : Nat := 0
  ext : Bool := false
  owCurrent : Nat := 0
  owDown : Bool := false
  owThreshold : Nat := 0
  start : Rat := 0
  k : Nat := 0
  valid : Nat := 0
  rest : List Nat := []
  held : Bool := false
  fifo : List Bytes := []
  lossy : Bool := false
  unlocked : Bool := false
  since : Nat := 0
  began : Option Rat := none
  deriving DecidableEq, Repr

/-! ### Time (R11, R57, R454) -/

/-- Timebase. `now`: running time in ns (the AON counter); `startNow`: its value at the start of the current cycle;
`tick`: cycles started since reset; `cyc`: the extended cycle number (R57), and `cycNext` the number the next cycle
takes where it does not follow on (R80). `stepPending`, `stepCarry`, `idleChange`: in 2^-16 ns, the head's correction
to apply, what is carried, and the idle-time change last applied (R77); `headRate`: the head's own rate in ppb (R78);
`marksFired`: cycle marks that fired in this cycle; `marks`: control, offset and tasks of each mark and `evtNotify` the pins selected for
notifications, as this cycle uses them (R56, R60); `quiet`: the Ferry's quiet period, `quietTick` the tick
in which it began (R140). `wall`: wall time minus
running time, ns TAI, once obtained (R454). -/
structure Clk where
  now : Nat := 0
  startNow : Nat := 0
  tick : Nat := 0
  cyc : Nat := 0
  cycNext : Option Nat := none
  stepPending : Int := 0
  stepCarry : Int := 0
  idleChange : Int := 0
  headRate : Int := 0
  marksFired : Nat := 0
  marks : List (Nat × Nat × Nat) := []
  evtNotify : List Nat := []
  quiet : Bool := false
  quietTick : Nat := 0
  wall : Option Int := none
  deriving DecidableEq, Repr

/-! ### Tarrilink (R30 to R127) -/

/-- A port. Times are in ns. `seen`, `admitted`, `violation`: what the guardian saw in this cycle (R51); `exch`: the
exchanges (delay, deviation) of the present measurement, oldest first (R67); `delay`, `unc`: measured delay and
uncertainty; `recent`: the last 16 delays (R74); `verify`: consecutive cycles within precision (R67), counted from tick
`doneAt` + 2 (R526); `devNow`, `devPrev`: deviation measured in this and in the previous cycle; `copy`: a valid
FEEDBACK came in this cycle; `t1`, `t1Prev`: send time of the frame to this port in this and in the previous cycle;
`upPos`, `upIdx`, `dnPos`, `dnIdx`: the procedure of R42 in each direction; `alignment`: alignment term in UI (R75);
`icbOffset`: next ICB chunk (R115). -/
structure Port where
  linkUp : Bool := false
  seen : Bool := false
  admitted : Bool := false
  violation : Bool := false
  cleanRun : Nat := 0
  exch : List (Rat × Rat) := []
  inPlan : Bool := false
  delay : Rat := 0
  unc : Rat := 0
  recent : List Rat := []
  planRaised : Bool := false
  remeasureAt : Option Nat := none
  doneAt : Option Nat := none
  noSync : Nat := 0
  verify : Nat := 0
  devNow : Option Rat := none
  devPrev : Option Rat := none
  initialRate : Int := 0
  isolatedAt : Nat := 0
  resumed : Bool := false
  missRun : Nat := 0
  lost : Bool := false
  copy : Bool := false
  t1 : Option Rat := none
  t1Prev : Option Rat := none
  upPos : Nat := 0
  upIdx : Nat := 0
  dnPos : Nat := 0
  dnIdx : Nat := 0
  alignment : Nat := 0
  mismatch : Nat := 0
  icbOffset : Nat := 0
  deriving DecidableEq, Repr

/-- An open mailbox transaction (R124, R125): its tag and generation, the request, who asked (session; TOA tag and
generation), the request's data and how much of it was sent, whether its last segment was sent, the response's data so
far, and the tick of its timeout. -/
structure Mbx where
  tag : Nat
  gen : Nat
  service : Nat
  index : Nat
  sub : Nat
  session : Nat
  toaTag : Nat
  toaGen : Nat
  data : Bytes
  sent : Nat
  finished : Bool
  resp : Bytes
  deadline : Nat
  deriving DecidableEq, Repr

/-- A POINTS transfer (R112, R113): content bits, sample cycle, parts done, and the packed values. -/
structure PointsXfer where
  content : Nat
  ocCount : Nat
  sample : Nat
  done : Nat
  data : Bytes
  deriving DecidableEq, Repr

/-- An accepted safety container of an island (R108): flags, STO read-back bits, and the safe speeds by local axis. -/
structure ScIn where
  flags : Nat
  axes : Nat
  speeds : List Int
  deriving DecidableEq, Repr

/-- An island, as the head knows it. Corrections are in 2^-16 ns. `fb`: the FEEDBACK kept in this cycle, `fbDone` when
the cycle's FEEDBACK is decided, `fbStale` when it repeats a SEQ (R276); `forwarded`: the other head's copy (R85);
`scSeqIn`: SC_SEQ last accepted, `scDone` when this cycle's container is accepted, `scIn` and `scAt` the last accepted
container and its running time; `sampleSeq`: last sample sequence; `toExpect`: TO_COUNT expected next (R122); `corr`,
`corrPrev`: this and the previous cycle's correction; `roundSum`, `roundIn`: sum and number of corrections of this rate
round (R78); `rateAdj`: rate adjustment to publish; `correcting`, `rateSent`, `startNow`, `startPrev`: R526; `tags`:
generation by tag, `memClasses`: input classes a memory error made invalid (R337); `nextTag`, `mbx`, `aborts`: the mailbox; `pointsIn`, `pointsOut`, `pointsSentAt`, `ocOut`, `ocLast`:
POINTS transfers; `seen`: the places (mini-slot IDs, and 65,536 plus the slot number) whose first copy came in this
cycle (R81). -/
structure Island where
  fb : Option Bytes := none
  fbDone : Bool := false
  fbStale : Bool := false
  forwarded : Option Bytes := none
  scSeqIn : Option Nat := none
  scDone : Bool := false
  scIn : Option ScIn := none
  scAt : Nat := 0
  sampleSeq : Option Nat := none
  toExpect : Option Nat := none
  corr : Int := 0
  corrPrev : Int := 0
  roundSum : Int := 0
  roundIn : Nat := 0
  rateAdj : Option Int := none
  correcting : Option Nat := none
  rateSent : Bool := false
  startNow : Option Int := none
  startPrev : Option Int := none
  tags : SMap Nat := []
  nextTag : Nat := 0
  mbx : List Mbx := []
  aborts : List (Nat × Nat) := []
  pointsIn : Option PointsXfer := none
  pointsOut : List PointsXfer := []
  pointsSentAt : Option Nat := none
  ocOut : Nat := 0
  ocLast : SMap Int := []
  relaySent : Bool := false
  seen : List Nat := []
  memClasses : List Nat := []
  deriving DecidableEq, Repr

/-- A relay payload (R126) with the tick at which it came. -/
structure Relay where
  src : Nat
  rseq : Nat
  data : Bytes
  tick : Nat
  deriving DecidableEq, Repr

/-- Network-wide startup and time state: cycles left of the listen timeout (R65), cycles without collision and whether
one was seen in this cycle (R66), the coldstart count and the network's name (R95), cycles within precision of the
other head (R64), the last k (R77), the rate round and the step awaiting the longer pipeline of two heads (R78, R86), the external term (R79), the relay queues (R47), and the
Lighthouse's container counter (R110). -/
structure Net where
  listenLeft : Nat := 0
  clean : Nat := 0
  collision : Bool := false
  coldCount : Nat := 0
  nameRank : Nat := 0
  nameCount : Nat := 0
  within : Nat := 0
  kLast : Nat := 0
  round : Nat := 0
  stepSum : Int := 0
  stepPrev : Int := 0
  extRate : Rat := 0
  extStep : Int := 0
  relays : SMap (List Relay) := []
  scSeq : Nat := 0
  deriving DecidableEq, Repr

/-- Dual head (R83 to R90): whether it is on and which channel this head drives (taken at START, R92), STANDBY_HEAD, the
run of equal digests, the mismatch run and this head's digest of the previous cycle by axis, the FEEDBACK frames the
peer has in this cycle, and the running time at which resynchronisation began. -/
structure Dual where
  on : Bool := false
  channel : Nat := 0
  standby : Bool := false
  equalRun : Nat := 0
  mismatch : SMap Nat := []
  digests : SMap Nat := []
  resyncAt : Nat := 0
  deriving DecidableEq, Repr

/-! ### Ferry, skerries and collector (R128 to R162) -/

/-- The arcs of a graph firing (R158): those that come from feedback, the other inputs, the outputs, and whether the
node is the graph's output node. -/
structure Firing where
  feedback : List Nat
  inputs : List Nat
  outputs : List Nat
  isOut : Bool
  deriving DecidableEq, Repr

/-- What a task computes: the loop task of an axis (command-producing or not), a firing of a graph node, and the
other kinds by name. -/
inductive TaskKind where
  | reconcile (axis : Nat)
  | speculate (axis : Nat)
  | full (axis : Nat)
  | firing (axis node : Nat) (arcs : Firing)
  | safetyFeed (island : Nat)
  | prefetch
  | wheelPlan
  | acqProcess
  | other
  deriving DecidableEq, Repr

/-- Where a task is in its life (R147). -/
inductive TaskPhase where
  | waiting
  | prefetched (skerry : Nat)
  | loaded (skerry : Nat)
  | executing (skerry : Nat)
  | blocked (skerry : Nat)
  | buffered (skerry : Nat)
  | accepted (skerry : Nat)
  deriving DecidableEq, Repr

/-- A task in a Ferry entry (R131). `id` rises in submission order. -/
structure Task where
  id : Nat
  kind : TaskKind
  level : Nat
  stream : Option Nat
  tag : Nat
  release : Nat
  deadline : Nat
  deps : List Nat
  tt : Bool
  phase : TaskPhase
  overruns : Nat
  cancelled : Bool
  deriving DecidableEq, Repr

/-- The Ferry and the collector: tasks in submission order, sources waiting for an entry of their group (R144), the next
task number, the skerry last accepted from (R149), results accepted in order, entries freed by cancellation and not yet
back in their group (R148), and the tick at which FERRY_ADMIT_FAIL was last raised (R143). -/
structure Ferry where
  tasks : List Task := []
  waitingSources : List Task := []
  nextId : Nat := 0
  lastSkerry : Nat := 63
  accepted : List Nat := []
  freedTt : Nat := 0
  freedOther : Nat := 0
  admitTick : Option Nat := none
  deriving DecidableEq, Repr

/-! ### Filter programs (R305 to R321) -/

/-- An invocation in progress, instruction by instruction (R306): the program, the axis point or acquisition channel
that uses it (axis times 4 plus point, or 512 plus channel), the input, the machine, and the word it delivered. -/
structure FilterRun where
  prog : Nat
  use : Nat
  x : Int
  m : Fm
  out : Option Int
  deriving DecidableEq, Repr

/-! ### Event wheel (R292 to R302) -/

/-- What a WHEEL_PLAN release found for an entry (R296): its tick, and the predicted crossing, if any, with the number of
further crossings in the same cycle. -/
structure WheelPlan where
  tick : Nat
  cross : Option (Int × Nat)
  deriving DecidableEq, Repr

/-- A wheel entry that was armed: the instant of its action where it is fixed (network time, ns), the cycle number in
which an action found late at arming executes, whether a periodic ANGLE entry is ready, and the two latest plans. -/
structure WheelEntry where
  instant : Option Int := none
  forced : Option Nat := none
  ready : Bool := true
  plan : Option WheelPlan := none
  planOld : Option WheelPlan := none
  deriving DecidableEq, Repr

/-- A timed point action sent to an island and not yet in the published image (R299, R301): instant, global point,
operation (1 set, 2 clear, 3 toggle). -/
structure SentAction where
  instant : Int
  point : Nat
  op : Nat
  deriving DecidableEq, Repr

/-! ### Answers and outputs -/

/-- Results of an access (R325), in the order of their codes. -/
inductive Ans where
  | ok | noObject | noSub | readOnly | writeOnly | role | password | grant | length | range | refused | busy | groupFailed
  deriving DecidableEq, Repr

/-- What the block gives to the outside. -/
inductive Out where
  /-- A Tarrilink frame: port, start in ns from the cycle start, the bytes after the EtherType (R93). -/
  | frame (port start : Nat) (bytes : Bytes)
  /-- A FEEDBACK frame of an island forwarded over the strait link (R85). -/
  | straitFeedback (island : Nat) (bytes : Bytes)
  /-- The state digests of the previous cycle sent to the other head (R87). -/
  | straitDigests (digests : List (Nat × Nat))
  /-- The answer to a write. -/
  | answer (a : Ans)
  /-- A pulse on EVT_OUT: pin, running time in ns, width in ns (R54, R341). -/
  | evtOut (pin time width : Nat)
  /-- A pulse of 100 ns on TRIG_IO (R412): pin, running time in ns. -/
  | trigOut (pin time : Nat)
  /-- What a read returns. -/
  | value (b : Bytes)
  /-- TOA parts handed to DTLS, or for sessions 8 and 9 to the CAN controllers: session, parts (R356). -/
  | toa (session : Nat) (parts : List Bytes)
  /-- A handshake_failure alert to a peer (R354). -/
  | alert (peer : Nat)
  /-- An Ethernet frame on an uplink port, 2 the internal one (R345). -/
  | ethernet (port : Nat) (frame : Bytes)
  /-- A PTP event message passed on with its correctionField, units of 2^-16 ns (R351). -/
  | ptpForward (port : Nat) (correction : Int)
  /-- A Delay_Req sent through a port (R352). -/
  | delayReq (port : Nat)
  /-- An ARP probe, announcement or reply (R346, R347): 0, 1 or 2, and the address. -/
  | arp (kind address : Nat)
  /-- An ICMP echo reply (R347): to whom, by way of which neighbour, with what data. -/
  | echoReply (peer via : Nat) (data : Bytes)
  /-- A CAN frame that starts on a controller (R376). -/
  | canFrame (c : Nat) (f : CanFrame)
  /-- An inactive firmware slot is erased, or bytes are programmed into it (R491). -/
  | flashErase (slot : Nat)
  | flashProgram (slot offset : Nat) (b : Bytes)
  /-- A new code on VID_CORE (R504). -/
  | vid (code : Nat)
  deriving DecidableEq, Repr

/-- Why the machine stops. -/
inductive Fault where
  /-- A filter instruction that no loaded program can hold, since the load check of R317 rejects it (raised by the
  filter instructions; safe: a device that has loaded its program never meets it). -/
  | illFormedFilterInstruction
  deriving DecidableEq, Repr

/-- Why a command is refused. -/
inductive Refusal where
  /-- The command's meaning is not written yet (raised by `exec` alone; safe). -/
  | notModelled (mnemonic : String)
  deriving DecidableEq, Repr

/-- The state of the block. -/
structure State where
  /-- Time: running, network and wall time, the cycle and its marks (R11, R57, R61, R454). -/
  clk : Clk := {}
  /-- The numeric entries of the object dictionary that differ from their defaults; of a configuration, schedule or
  safety entry the pending value (R16, R322, R330). -/
  od : SMap Int := []
  /-- The octet and text entries of the dictionary that are not empty (R16, R322). -/
  odB : SMap Bytes := []
  /-- The active values of the configuration, schedule and safety entries that differ from their defaults (R58, R330,
  R447). -/
  act : SMap Int := []
  /-- The committed schedule that awaits START, if there is one (R59). -/
  com : Option (SMap Int) := none
  /-- Events raised and not yet placed, oldest first (R340). -/
  raised : List Raised := []
  /-- The notification channels by number (R340, R342). -/
  channels : SMap Channel := []
  /-- The event recorder (R452 to R462). -/
  recorder : Recorder := {}
  /-- The performance counters and the bandwidth window (R415 to R418). -/
  counters : Counters := {}
  /-- The acquisition (R403 to R412). -/
  acq : Acq := {}
  /-- The axis traces by axis (R413, R414). -/
  traces : SMap Trace := []
  /-- The ports by number, A_0 to A_23 as 0 to 23 and B_0 to B_23 as 24 to 47 (R43 to R56, R62 to R75). -/
  ports : SMap Port := []
  /-- What the head holds for each island (R76 to R82, R98 to R127). -/
  islands : SMap Island := []
  /-- Startup, relay traffic and the external term (R47, R62 to R66, R76 to R80). -/
  net : Net := {}
  /-- The dual head (R83 to R92). -/
  dual : Dual := {}
  /-- The Ferry, the collector and the skerries (R128 to R158). -/
  ferry : Ferry := {}
  /-- The axes by number (R159 to R281). -/
  axes : SMap Axis := []
  /-- The on-chip encoder channels by number (R264 to R270). -/
  encs : SMap Enc := []
  /-- The masters by number (R291). -/
  masters : SMap Master := []
  /-- The receive copy of the point image by global point (R286). -/
  rxPts : SMap Int := []
  /-- The published copy of the input points (R286, R287). -/
  pubIn : SMap Int := []
  /-- The published copy of the output points (R288, R289). -/
  pubOut : SMap Int := []
  /-- Values of output points accepted and not yet published (R289). -/
  outPts : SMap Int := []
  /-- The armed entries of the event wheel by number (R292 to R302). -/
  wheel : SMap WheelEntry := []
  /-- Timed actions sent to islands and not yet due (R298, R299). -/
  sentActs : List SentAction := []
  /-- The axes whose table a wheel entry starts at the next cycle start (R302). -/
  wheelStarts : List Nat := []
  /-- The images of the LOADED filter programs by number (R318). -/
  fpLoaded : SMap Bytes := []
  /-- The filter-program invocation in progress, with its machine (R305 to R315). -/
  fm : Option FilterRun := none
  /-- The filter-program state of the acquisition channels (R315, R320). -/
  acqUse : SMap FpUse := []
  /-- The Lighthouse (R422 to R451). -/
  lh : Lh := {}
  /-- The modulators by number (R384 to R399). -/
  mods : SMap Modulator := []
  /-- FLAGS of each ADC channel's latest output (R398). -/
  adcFlags : SMap Nat := []
  /-- What was given to the outside, newest first: answers, frames, bytes read, pins. -/
  out : List Out := []
  /-- Instances placed in a channel's queue so far (R342). -/
  placed : Nat := 0
  /-- MRAM beside the recorder: the settings slots and the pointer ring (R332 to R336). -/
  mram : Mram := {}
  /-- The sessions 0 to 7 and the TOA peers on CAN, 8 and 9 (R353 to R364, R380). -/
  sessions : SMap Session := []
  /-- The uplink: switch, address, PTP slave (R344 to R352). -/
  uplink : Uplink := {}
  /-- The CAN controllers by number (R366 to R383). -/
  cans : SMap Can := []
  /-- Feeds, thermal state and the transition of power in progress (R465 to R476). -/
  power_ : Power := {}
  /-- Reset, boot, firmware update and fuses (R479 to R498). -/
  boot : Boot := {}
  /-- Ageing and the margin plan (R499 to R505). -/
  ageing : Ageing := {}
  /-- Free values drawn so far: the model's own counter (log 3). -/
  free : Nat := 0
  /-- The commands that wait, first in, first out. -/
  pending : List Instr := []
  deriving DecidableEq, Repr

/-- The machine right after reset. -/
def State.reset : State := {}

end Sys2Proof.Machine
end

