-- ==== Sys2Proof/Machine/Ops.lean ====
section
/-! DEFINITION. The named operations over the state: entries of the dictionary, counters, events, outputs, time, and
the parts every chapter updates. -/

namespace Sys2Proof.Machine

open Sys2Proof

/-- The outcome of a command: the next state. -/
abbrev Res := Host.Outcome State Fault Refusal

/-- A command that completes. -/
def done (s : State) : Res := .next s

/-! ### The object dictionary -/

/-- The value of a numeric entry; of a set member (R330, R58, R447) its pending value. -/
def State.rd (s : State) (k : Nat) : Int := SMap.get s.od (odDefault k) k

/-- A nonnegative value of a numeric entry. -/
def State.rdN (s : State) (k : Nat) : Nat := (s.rd k).toNat

/-- Write a numeric entry. -/
def State.wr (s : State) (k : Nat) (v : Int) : State := { s with od := SMap.put s.od (odDefault k) k v }

/-- Write a nonnegative value. -/
def State.wrN (s : State) (k : Nat) (v : Nat) : State := s.wr k v

/-- The active value of a set member. -/
def State.cf (s : State) (k : Nat) : Int := SMap.get s.act (odDefault k) k

/-- A nonnegative active value. -/
def State.cfN (s : State) (k : Nat) : Nat := (s.cf k).toNat

/-- The pending value of a set member, as a function of the entry. -/
def State.pend (s : State) : Nat → Int := s.rd

/-- A byte or text entry. -/
def State.rdB (s : State) (k : Nat) : Bytes := SMap.get s.odB [] k

/-- Write a byte or text entry. -/
def State.wrB (s : State) (k : Nat) (v : Bytes) : State := { s with odB := SMap.put s.odB [] k v }

/-- The value of a REAL32 entry. -/
def State.rdR (s : State) (k : Nat) : Rat := real32 (s.rdN k)

/-- The largest value of an entry's type (R324). -/
def odMax (k : Nat) : Nat :=
  match odRow k with
  | some r => match r.ty with
    | .u b => 2 ^ b - 1
    | .i b => 2 ^ (b - 1) - 1
    | .bool => 1
    | _ => 2 ^ 32 - 1
  | none => 2 ^ 32 - 1

/-- Count `n` more in a status counter; past the largest value of its type the counter reads a value the spec does
not give (log 4). -/
def State.bumpBy (s : State) (k n : Nat) : State :=
  let v := s.rdN k + n
  if v ≤ odMax k then s.wr k v else s.wr k (Config.counterPastEnd k)

/-- Count one. -/
def State.bump (s : State) (k : Nat) : State := s.bumpBy k 1

/-- Count one in a counter that saturates. -/
def State.bumpSat (s : State) (k : Nat) : State := s.wr k (min (s.rdN k + 1) (odMax k) : Nat)

/-- Set entries to 0. -/
def State.zero (s : State) : List Nat → State
  | [] => s
  | k :: r => (s.wr k 0).zero r

/-- A fold over a list with the state first. -/
def foldS {α : Type} (f : State → α → State) : State → List α → State
  | s, [] => s
  | s, x :: r => foldS f (f s x) r

/-- Entries of a map that `p` picks are replaced by those of another. -/
def replacePart (p : Nat → Bool) (m src : SMap Int) : SMap Int :=
  (src.filter (fun e => p e.1)).foldl (fun a e => SMap.insert a e.1 e.2) (m.filter (fun e => !p e.1))

/-- The entry belongs to the schedule set of R59. -/
def isSched (k : Nat) : Bool :=
  let x := k / 256
  let u := k % 256
  (Nat.beq x 0x2000 && Nat.ble 1 u && Nat.ble u 9) ||
  (Nat.ble 0x2002 x && Nat.ble x 0x2007) ||
  (Nat.ble 0x2100 x && Nat.ble x 0x212F && Nat.ble 2 u && Nat.ble u 4)

/-- The value is one the data type holds, REAL32 by its pattern (R324). -/
def OdType.holds (t : OdType) (v : Int) : Bool :=
  match t with
  | .bool => v == 0 || v == 1
  | .u b => decide (0 ≤ v ∧ v < 2 ^ b)
  | .i b => decide (-(2 ^ (b - 1)) ≤ v ∧ v < 2 ^ (b - 1))
  | .real32 => decide (0 ≤ v ∧ v < 2 ^ 32) && real32Finite v.toNat
  | _ => true

/-- The value lies in a range that depends on nothing else (R16); special ranges pass. -/
def OdRange.plain (r : OdRange) (v : Int) : Bool :=
  match r with
  | .any => true
  | .between lo hi => decide (lo ≤ v ∧ v ≤ hi)
  | .stepped lo hi st => decide (lo ≤ v ∧ v ≤ hi ∧ (v - lo) % st = 0)
  | .oneOf l => l.contains v
  | .orNone lo hi n => decide ((lo ≤ v ∧ v ≤ hi) ∨ v = n)
  | .real lo hi => decide (lo ≤ real32 v.toNat ∧ real32 v.toNat ≤ hi)
  | .special _ => true

/-! ### Time -/

/-- Cycle times in ns by the code of CYCLE_TIME (R61). -/
def cycleNs (code : Nat) : Nat := 15625 * 2 ^ code

/-- The active cycle time in ns. -/
def State.ct (s : State) : Nat := cycleNs (s.cfN K.CYCLE_TIME)

/-- The cycle counter (R57). -/
def State.cycle (s : State) : Nat := s.clk.cyc % 2 ^ 32

/-- The clock reaches `t`, ns of running time. -/
def State.at (s : State) (t : Nat) : State := { s with clk := { s.clk with now := max s.clk.now t } }

/-- The duration `d` has passed since `t0`. -/
def State.elapsed (s : State) (t0 d : Nat) : Bool := Nat.ble (t0 + d) s.clk.now

/-- Network time at the start of the current cycle (R57). -/
def State.netStart (s : State) : Nat := s.clk.cyc * s.ct

/-- Network time now, ns. -/
def State.netNow (s : State) : Nat := s.netStart + (s.clk.now - s.clk.startNow)

/-- Wall time, ns TAI; 0 until one was obtained (R454). -/
def State.wallNow (s : State) : Nat :=
  match s.clk.wall with
  | some w => (s.clk.now + w).toNat
  | none => 0

/-- Wall time as a record holds it: nothing until WALL_VALID (R452). -/
def State.wallStamp (s : State) : Option Nat := if s.rd K.WALL_VALID = 1 then some s.wallNow else none

/-- The ordinary-clock slave is locked (R352: SLAVE). -/
def State.ptpLocked (s : State) : Bool := s.rd K.PTP_PORT_STATE == 3

/-- POWER_STATE: 0 STANDBY, 1 CONFIG, 2 RUN (R477). -/
def State.power (s : State) : Nat := s.rdN K.POWER_STATE

/-- The head's network state: 0 OFF, 1 LISTEN, 2 COLDSTART, 3 INTEGRATE, 4 OPERATE (R91). -/
def State.netState (s : State) : Nat := s.rdN K.NETWORK_STATE

/-- Numbers of the power domains (R465); cluster j is domain 3 + j. -/
abbrev Dom.LH : Nat := 2
/-- NET_A. -/
abbrev Dom.NET_A : Nat := 11
/-- NET_B. -/
abbrev Dom.NET_B : Nat := 12
/-- CORE. -/
abbrev Dom.CORE : Nat := 13
/-- IFC. -/
abbrev Dom.IFC : Nat := 14
/-- ACQ. -/
abbrev Dom.ACQ : Nat := 15

/-- The domain is ON (R477). -/
def State.domainOn (s : State) (d : Nat) : Bool := s.rd (K.DOMAIN_STATE d) == 2

/-- The IO PLL is locked, so that the encoder, CAN and ADC units run (R481). -/
def State.ioClock (s : State) : Bool := bit (s.rdN K.PLL_LOCKED) 5

/-! ### Events and outputs -/

/-- Raise an event instance with EXTRA bytes (R340, R463). -/
def State.raiseX (s : State) (source : Nat) (data0 data1 : Nat) (extra : Bytes) : State :=
  { s with raised := s.raised ++ [
    { source := source, data0 := data0 % 2 ^ 32, data1 := data1 % 2 ^ 32,
      cycle := if s.power = 0 then 0 else s.cycle, netTime := s.netNow, runTime := s.clk.now, extra := extra
      wall := s.wallStamp, ptp := s.ptpLocked, junior := s.rd K.DH_ROLE == 2 }] }

/-- Raise an event instance (R340). -/
def State.raise (s : State) (source : Nat) (data0 data1 : Nat) : State := s.raiseX source data0 data1 []

/-- Draw a free value (log 3). -/
def State.draw (s : State) : State × Nat := ({ s with free := s.free + 1 }, Config.freeValue s.free)

/-- A data word of an event: the value, or a free value where no table gives one (log 10). -/
def State.word (s : State) : Option Nat → State × Nat
  | some v => (s, v)
  | none => s.draw

/-- Raise an event instance some of whose data words no table gives (R340, R463, log 10). -/
def State.raiseU (s : State) (source : Nat) (data0 data1 : Option Nat) (extra : Bytes) : State :=
  let a := s.word data0
  let b := a.1.word data1
  b.1.raiseX source a.2 b.2 extra

/-- Give something to the outside. -/
def State.emit (s : State) (o : Out) : State := { s with out := o :: s.out }

/-! ### Performance counters and traffic (R415 to R417) -/

/-- The counters run (R415). -/
def State.perfOn (s : State) : Bool := s.rd K.COUNTERS_RUNNING == 1 && s.domainOn Dom.ACQ

/-- Counter `c` counts the event (R415, R416): the even one of a chained pair counts none of its own. -/
def State.perfHits (s : State) (code sel c : Nat) : Bool :=
  let w := s.rdN (K.COUNTER_SELECT c)
  s.rdN (K.COUNTER_EVENT c) == code && (w == 0xFFFF || w == sel || code == 1 || code == 3) && !(c % 2 == 0 && s.rd (K.CHAIN (c / 2)) == 1)

/-- Add to a counter; one that wraps carries into its pair or is noted (R415, R416). -/
def State.perfAdd (s : State) (c n : Nat) : State :=
  let l := s.counters.live
  let v := SMap.get l 0 c + n
  let up := v / 2 ^ 32
  let l := SMap.put l 0 c (v % 2 ^ 32)
  if up = 0 then { s with counters := { s.counters with live := l } }
  else if c % 2 = 1 ∧ s.rd (K.CHAIN (c / 2)) = 1 then
    let h := SMap.get l 0 (c - 1) + up
    let past := s.counters.wrapped ++ (if h < 2 ^ 32 then [] else [c - 1])
    { s with counters := { s.counters with live := SMap.put l 0 (c - 1) (h % 2 ^ 32), wrapped := past } }
  else { s with counters := { s.counters with live := l, wrapped := s.counters.wrapped ++ [c] } }

/-- An event of the table of R415 happened `n` times. -/
def State.perf (s : State) (code sel n : Nat) : State :=
  if s.perfOn = false ∨ n = 0 then s
  else foldS (fun s c => s.perfAdd c n) s ((List.range 64).filter (s.perfHits code sel))

/-- Bytes and wire time (in ps) on a port of the window unit (R417), received or sent. -/
def State.traffic (s : State) (port : Nat) (rx : Bool) (bytes ps : Nat) : State :=
  if s.domainOn Dom.ACQ = false ∨ s.power = 0 then s
  else
    let c := s.counters
    let add (m : SMap Nat) (n : Nat) : SMap Nat := SMap.put m 0 port (SMap.get m 0 port + n)
    { s with counters := if rx then { c with rxBytes := add c.rxBytes bytes, rxWire := add c.rxWire ps }
        else { c with txBytes := add c.txBytes bytes, txWire := add c.txWire ps } }

/-- A Tarrilink frame of `len` bytes after the EtherType on a port (R37, R417). -/
def State.linkTraffic (s : State) (port : Nat) (rx : Bool) (len : Nat) : State :=
  let b := max 64 (len + 18)
  s.traffic port rx b (8000 * (b + 20))

/-- The head sends a Tarrilink frame. -/
def State.sendFrame (s : State) (port start : Nat) (bytes : Bytes) : State :=
  (s.linkTraffic port false bytes.length).emit (.frame port start bytes)

/-- A write's effect and its answer. -/
abbrev WRes := State × Ans

/-- A write that was accepted. -/
def WRes.ok (s : State) : WRes := (s, .ok)

/-- The command form of a write: its effect, and the answer given out. -/
def answered (r : WRes) : Res := .next (r.1.emit (.answer r.2))

/-! ### Parts of the state by number -/

/-- A port (0 to 23 are A_0 to A_23, 24 to 47 are B_0 to B_23). -/
def State.port (s : State) (p : Nat) : Port := SMap.get s.ports {} p
/-- Replace a port. -/
def State.setPort (s : State) (p : Nat) (x : Port) : State := { s with ports := SMap.put s.ports {} p x }
/-- Update a port. -/
def State.updPort (s : State) (p : Nat) (f : Port → Port) : State := s.setPort p (f (s.port p))

/-- An island. -/
def State.island (s : State) (n : Nat) : Island := SMap.get s.islands {} n
/-- Replace an island. -/
def State.setIsland (s : State) (n : Nat) (x : Island) : State := { s with islands := SMap.put s.islands {} n x }
/-- Update an island. -/
def State.updIsland (s : State) (n : Nat) (f : Island → Island) : State := s.setIsland n (f (s.island n))

/-- Input classes of an island were refreshed (R287, R337): its inputs are valid unless a memory error hit another class. -/
def State.inputsFresh (s : State) (n : Nat) (classes : List Nat) : State :=
  let s := s.updIsland n (fun i => { i with memClasses := i.memClasses.filter (fun c => !classes.contains c) })
  s.wr (K.INPUTS_VALID n) (if (s.island n).memClasses.isEmpty then 1 else 0)

/-- An axis. -/
def State.axis (s : State) (a : Nat) : Axis := SMap.get s.axes {} a
/-- Replace an axis. -/
def State.setAxis (s : State) (a : Nat) (x : Axis) : State := { s with axes := SMap.put s.axes {} a x }
/-- Update an axis. -/
def State.updAxis (s : State) (a : Nat) (f : Axis → Axis) : State := s.setAxis a (f (s.axis a))

/-- A master. -/
def State.master (s : State) (m : Nat) : Master := SMap.get s.masters {} m
/-- Replace a master. -/
def State.setMaster (s : State) (m : Nat) (x : Master) : State := { s with masters := SMap.put s.masters {} m x }

/-- An on-chip encoder channel. -/
def State.enc (s : State) (c : Nat) : Enc := SMap.get s.encs {} c
/-- Replace a channel. -/
def State.setEnc (s : State) (c : Nat) (x : Enc) : State := { s with encs := SMap.put s.encs {} c x }
/-- Update a channel. -/
def State.updEnc (s : State) (c : Nat) (f : Enc → Enc) : State := s.setEnc c (f (s.enc c))

/-- Update the Ferry. -/
def State.updFerry (s : State) (f : Ferry → Ferry) : State := { s with ferry := f s.ferry }

/-- Update the timebase. -/
def State.updClk (s : State) (f : Clk → Clk) : State := { s with clk := f s.clk }
/-- Update the network's state. -/
def State.updNet (s : State) (f : Net → Net) : State := { s with net := f s.net }
/-- Update the dual-head state. -/
def State.updDual (s : State) (f : Dual → Dual) : State := { s with dual := f s.dual }

/-- A fault inside the fault model begins to be ridden through (R26, R460). -/
def State.startRide (s : State) (source : Nat) : State :=
  { s with recorder := { s.recorder with
      rides := s.recorder.rides ++ [{ source := source, axes := [], longest := 0, quiet := 0, hit := true }] } }

end Sys2Proof.Machine
end

