-- ==== Sys2Proof/Machine/Adc.lean ====
section
/-! DEFINITION. The analogue inputs (R384 to R401): scans, injected conversions, outputs and results of the two
modulators. -/

namespace Sys2Proof.Machine

open Sys2Proof

/-- A modulator. -/
def State.modl (s : State) (m : Nat) : Modulator := SMap.get s.mods {} m
/-- Replace it. -/
def State.setModl (s : State) (m : Nat) (x : Modulator) : State := { s with mods := SMap.put s.mods {} m x }

/-- MOD_STATE: 0 IDLE, 1 SCANNING, 2 INJECTING. -/
def State.modState (s : State) (m : Nat) : Nat := s.rdN (K.MOD_STATE m)

/-- A modulator clock in ns: 1 / 8.192 MHz (R384). -/
def modClock : Rat := 15625 / 128

/-- Order and decimation of an ADC channel (R389). -/
def State.sinc (s : State) (c : Nat) : Nat × Nat :=
  match s.rdN (K.FILTER_PRESET c) with
  | 1 => (3, 163840)
  | 2 => (3, 409600)
  | 3 => (3, 819200)
  | _ => (s.rdN (K.SINC_ORDER c), s.rdN (K.DECIMATION_6C10 c))

/-- The filter is reset for an ADC channel at an edge (R388), from which its settings apply (R395). -/
def State.adcReset (s : State) (m c : Nat) (edge : Rat) (samples : Nat) : State :=
  let f := s.sinc c
  s.setModl m { (s.modl m) with
    chan := c, order := f.1, dec := f.2, samples := samples, gain := s.rdN (K.GAIN c)
    ext := s.rd (K.REFERENCE c) == 1, owCurrent := s.rdN (K.OW_CURRENT c), owDown := s.rd (K.OW_DIRECTION c) == 1
    owThreshold := s.rdN (K.OW_THRESHOLD c), start := edge, k := 0, valid := 0 }

/-- The enabled ADC channels of a modulator, ascending (R390). -/
def State.adcEnabled (s : State) (m : Nat) : List Nat :=
  (List.range 32).filter (fun c => s.rd (K.CH_ENABLE c) == 1 && s.rdN (K.MODULATOR c) == m)

/-- A scan is over (R390). -/
def State.scanDone (s : State) (m : Nat) : State :=
  (s.wr (K.SCAN_COUNT m) (wrapU 32 (s.rd (K.SCAN_COUNT m) + 1))).wr (K.MOD_STATE m) 0

/-- A scan starts at an edge (R390); one with no enabled channel completes at once. -/
def State.scanBegin (s : State) (m : Nat) (edge : Rat) : State :=
  match s.adcEnabled m with
  | [] => s.scanDone m
  | c :: r =>
    let s := (s.wr (K.MOD_STATE m) 1).adcReset m c edge (s.rdN (K.SAMPLES c))
    s.setModl m { (s.modl m) with rest := r }

/-- A start instant (R391, R392): an overrun while a scan runs, held during an injected conversion. -/
def State.scanStart (s : State) (m : Nat) (edge : Rat) : State :=
  match s.modState m with
  | 0 =>
    let s := s.scanBegin m edge
    if s.modState m = 1 then s.setModl m { (s.modl m) with began := some edge } else s
  | 1 => (s.bump (K.SCAN_OVERRUNS m)).raise Ev.ADC_SCAN_OVERRUN m 0
  | _ => s.setModl m { (s.modl m) with held := true }

/-- The running scan started from IDLE in this very modulator clock and has delivered nothing (R393). -/
def State.scanJustBegan (s : State) (m : Nat) (edge : Rat) : Bool :=
  s.modState m == 1 && (s.modl m).began == some edge && (s.modl m).start == edge && (s.modl m).k == 0

/-- An injected request (R393): it goes before a scan that starts in the same modulator clock, which then waits. -/
def State.inject (s : State) (m : Nat) (edge : Rat) : State :=
  if s.scanJustBegan m edge then
    let s := (s.wr (K.MOD_STATE m) 2).adcReset m (s.rdN (K.INJ_CHANNEL m)) edge 1
    s.setModl m { (s.modl m) with held := true }
  else if s.modState m ≠ 0 then (s.bump (K.INJ_DROPPED m)).raiseU Ev.ADC_INJ_DROPPED (some m) none []
  else (s.wr (K.MOD_STATE m) 2).adcReset m (s.rdN (K.INJ_CHANNEL m)) edge 1

/-- The modulator clock edge at or after now, `edge` 1/128 ns later (R391). -/
def State.edgeAt (s : State) (edge : Nat) : Rat := (s.netNow : Rat) + (edge : Rat) / 128

/-- ADC_SCAN_START (R391): `t` is a start instant of START_SOURCE, and the clock edge follows it by `edge` 1/128 ns. -/
def execAdcScanStart (modulator : Fin 2) (edge : Fin 15626) (t : Nat) (s : State) : Res :=
  let m := modulator.val
  let s := s.at t
  let at_ := s.edgeAt edge.val
  if s.domainOn Dom.IFC = false ∨ s.ioClock = false then done s
  else match s.rdN (K.START_SOURCE m) with
    | 1 => if s.modState m = 1 then done s else done (s.scanStart m at_)
    | 2 => if (s.netNow - (s.modl m).since) % (1000 * s.rdN (K.TIMER_PERIOD m)) = 0 then done (s.scanStart m at_) else done s
    | 3 =>
      let n := s.netNow - s.rdN (K.CYCLE_DELAY m)
      if s.power ≠ 0 ∧ n % s.ct = 0 ∧ n / s.ct % s.rdN (K.CYCLE_DIVIDER m) = 0 then done (s.scanStart m at_) else done s
    | 5 =>
      if s.rd K.EXT_STATE = 1 then done ((s.setModl m { (s.modl m) with unlocked := false }).scanStart m at_)
      else
        let s := s.bump (K.PTP_STARTS_SKIPPED m)
        if (s.modl m).unlocked then done s
        else done ((s.setModl m { (s.modl m) with unlocked := true }).raiseU Ev.ADC_PTP_UNLOCKED (some m) none [])
    | _ => done s

/-- A write of INJ_REQUEST (R393). -/
def injRequest (m edge : Nat) (s : State) : WRes :=
  if s.rd (K.INJ_SOURCE m) = 2 ∧ s.domainOn Dom.IFC then .ok (s.inject m (s.edgeAt edge)) else .ok s

/-- INJ_REQUEST. -/
def execInjRequest (modulator : Fin 2) (edge : Fin 15626) (t : Nat) (s : State) : Res :=
  answered (injRequest modulator.val edge.val (s.at t))

/-- An ADC_START action of the wheel on a modulator (R394). -/
def State.adcWheel (s : State) (m edge : Nat) : State :=
  if s.domainOn Dom.IFC = false then s
  else if s.rd (K.START_SOURCE m) = 4 then s.scanStart m (s.edgeAt edge)
  else if s.rd (K.INJ_SOURCE m) = 1 then s.inject m (s.edgeAt edge)
  else s.bump (K.WHEEL_IGNORED m)

/-! ### Outputs (R385, R386, R396 to R398) -/

/-- The code of an output and whether it was clipped (R385, R386), from Vdiff and VREF in V; `overload`: the weighting
window holds a sample taken in overload. With VREF 0 the spec gives no code, and the code is a free value (log 43). -/
def State.adcCode (s : State) (gain : Nat) (vdiff vref : Rat) (overload : Bool) : State × Int × Bool :=
  if vref = 0 then
    let d := s.draw
    (d.1, wrapS 24 d.2, overload)
  else
    let raw := roundHalfUp (vdiff * ((2 ^ gain : Nat) : Rat) / vref * 8388608)
    let c := satS 24 raw
    if overload then (s, if raw < 0 then -8388608 else 8388607, true) else (s, c, c != raw)

/-- The bytes of an ADC result entry (R398). -/
def adcEntry (code : Int) (chan flags scan : Nat) (time : Int) : Bytes :=
  leInt 4 code ++ leBytes 1 chan ++ leBytes 1 flags ++ leBytes 2 scan ++ leInt 8 time

/-- An entry meets the result FIFO of 256 entries (R398). -/
def State.adcPush (s : State) (m : Nat) (e : Bytes) : State :=
  let x := s.modl m
  if 256 ≤ x.fifo.length then
    let s := s.bump (K.FIFO_OVERRUNS_6C00 m)
    if x.lossy then s else (s.setModl m { x with lossy := true }).raise Ev.ADC_FIFO_OVERRUN m 0
  else (s.setModl m { x with fifo := x.fifo ++ [e] }).wrN (K.FIFO_LEVEL_6C00 m) (x.fifo.length + 1)

/-- ADC_OUTPUT (R398): the filter delivers its next output; `vref` is ADC_REFP - ADC_REFN. -/
def execAdcOutput (modulator : Fin 2) (vdiff vref : Rat) (overload : Bool) (t : Nat) (s : State) : Res :=
  let m := modulator.val
  let s := s.at t
  let x := s.modl m
  if s.modState m = 0 ∨ x.samples ≤ x.valid ∨ s.ioClock = false then done s
  else
    let c := x.chan
    let k := x.k + 1
    let inj : Bool := s.modState m == 2
    let valid : Bool := Nat.ble x.order k
    let (s, code, ovr) := s.adcCode x.gain vdiff (if x.ext then vref else 5 / 4) overload
    let thr : Int := x.owThreshold * 8388608
    let ow : Bool := valid && x.owCurrent != 0 && (if x.owDown then decide (code * 1000 ≤ -thr) else decide (thr ≤ code * 1000))
    let flags := b2n valid + 2 * b2n ovr + 4 * b2n ow + 8 * b2n inj + 16 * (x.order - k)
    let time := roundHalfUp (x.start + ((k : Rat) - (x.order : Rat) / 2) * (x.dec : Rat) * modClock)
    let old := SMap.get s.adcFlags 0 c
    let s := { s with adcFlags := SMap.put s.adcFlags 0 c (2 * b2n ovr + (if valid then 4 * b2n ow else old / 4 * 4)) }
    let s := if ovr then s.bump (K.OVR_COUNT c) else s
    let s := if ovr && !bit old 1 then s.raiseU Ev.ADC_OVER_RANGE (some c) none [] else s
    let s := if ow then s.bump (K.OPEN_WIRE_COUNT c) else s
    let s := if ow && !bit old 2 then s.raiseU Ev.ADC_OPEN_WIRE (some c) none [] else s
    let s := if valid then
        let v := real32Bits (((code - s.rd (K.OFFSET c) : Int) : Rat) * s.rdR (K.SCALE c))
        (((s.wr (K.CH_CODE c) code).wrN (K.CH_VALUE c) v).wrN (K.CH_FLAGS c) flags).wr (K.CH_TIME c) (wrapU 64 time)
      else s
    let s := s.setModl m { (s.modl m) with k := k, valid := if valid then x.valid + 1 else x.valid }
    let s := s.perf 15 c 1
    let mode : Nat := s.rdN (K.FIFO_MODE m)
    let e := adcEntry code c flags (if inj then 0 else s.rdN (K.SCAN_COUNT m)) time
    if Nat.beq mode 2 || (Nat.beq mode 1 && valid) then done (s.adcPush m e) else done s

/-- ADC_STEP_COMPLETE (R390, R391): the step's last valid output has come. The scan goes on with the next channel or is
complete; in CONTINUOUS the next one follows, without a reset where one channel alone is enabled; a start held during an
injected conversion begins. -/
def execAdcStepComplete (modulator : Fin 2) (s : State) : Res :=
  let m := modulator.val
  let x := s.modl m
  let stop : Rat := x.start + (x.k : Rat) * (x.dec : Rat) * modClock
  if s.modState m = 0 ∨ x.valid < x.samples then done s
  else if s.modState m = 2 then
    let s := (s.wr (K.MOD_STATE m) 0).setModl m { x with held := false }
    if x.held then done (s.scanBegin m stop) else done s
  else match x.rest with
    | c :: r =>
      let s := s.adcReset m c stop (s.rdN (K.SAMPLES c))
      done (s.setModl m { (s.modl m) with rest := r })
    | [] =>
      let s := s.scanDone m
      if s.rd (K.START_SOURCE m) ≠ 1 then done s
      else if s.adcEnabled m = [x.chan] then done ((s.wr (K.MOD_STATE m) 1).setModl m { x with valid := 0 })
      else done (s.scanBegin m (stop + modClock))

/-- A read of RESULT_READ (R398): the oldest entry is returned and removed, or a value of length 0. -/
def resultRead (m : Nat) (s : State) : State × Bytes :=
  let x := s.modl m
  match x.fifo with
  | [] => (s, [])
  | e :: r => ((s.setModl m { x with fifo := r, lossy := false }).wrN (K.FIFO_LEVEL_6C00 m) r.length, e)

/-- RESULT_READ. -/
def execResultRead (modulator : Fin 2) (s : State) : Res :=
  let r := resultRead modulator.val s
  done (r.1.emit (.value r.2))

/-! ### Writes (R394, R395) and the loss of IFC (R399) -/

/-- Two enabled channels on different modulators share an input while either has an open-wire current (R395). -/
def State.owShared (s : State) : Bool :=
  let on := (List.range 32).filter (fun c => s.rd (K.CH_ENABLE c) == 1)
  let ins (c : Nat) : List Int := [s.rd (K.AIN_POS c), s.rd (K.AIN_NEG c)].filter (· < 24)
  on.any (fun c => on.any (fun d => s.rd (K.MODULATOR c) != s.rd (K.MODULATOR d)
    && (s.rd (K.OW_CURRENT c) != 0 || s.rd (K.OW_CURRENT d) != 0) && (ins c).any (ins d).contains))

/-- A write to an ADC object is refused (R394, R395): ADC_REFUSAL 1 OW_SHARED, 2 WHEEL_BOTH. -/
def State.adcRefusal (s : State) (k : Nat) (v : Int) : Nat :=
  let t := s.wr k v
  if 0x6C00 ≤ k / 256 ∧ k / 256 ≤ 0x6C01 ∧ t.rd (K.START_SOURCE (k / 256 - 0x6C00)) = 4 ∧ t.rd (K.INJ_SOURCE (k / 256 - 0x6C00)) = 1 then 2
  else if 0x6C10 ≤ k / 256 ∧ k / 256 ≤ 0x6C2F ∧ t.owShared ∧ s.owShared = false then 1
  else 0

/-- A write to an ADC object takes effect; a change of START_SOURCE or of its timing starts it anew. -/
def State.adcWrite (s : State) (k : Nat) (v : Int) : WRes :=
  let c := s.adcRefusal k v
  if c ≠ 0 then (s.wrN K.ADC_REFUSAL c, .refused)
  else
    let s := s.wr k v
    if 0x6C00 ≤ k / 256 ∧ k / 256 ≤ 0x6C01 ∧ k % 256 ≤ 6 then
      let m := k / 256 - 0x6C00
      .ok (s.setModl m { (s.modl m) with since := s.netNow, unlocked := false })
    else .ok s

/-- IFC leaves power (R399). -/
def State.adcOff (s : State) : State :=
  let s := { s with mods := [], adcFlags := [] }
  let s := foldS (fun s m => s.zero [K.MOD_STATE m, K.FIFO_LEVEL_6C00 m]) s [0, 1]
  foldS (fun s c => s.zero [K.CH_CODE c, K.CH_VALUE c, K.CH_FLAGS c, K.CH_TIME c]) s (List.range 32)

end Sys2Proof.Machine
end

