-- ==== Sys2Proof/Machine/Operands.lean ====
section
/-! DEFINITION. The operand forms of the network: the schedule's arithmetic (R33 to R45), the point maps and packing
(R107, R283), the island configuration block (R114), and the bytes of every Tarrilink frame (R93 to R126). -/

namespace Sys2Proof.Machine

open Sys2Proof

/-- A value of a set as a natural number. -/
def nat (g : Nat → Int) (k : Nat) : Nat := (g k).toNat

/-! ### The schedule -/

/-- The scalar values of a schedule, ns (R61). -/
structure Sched where
  ct : Nat
  slots : Nat
  len : Nat
  apUp : Nat
  apDown : Nat
  minis : Nat
  miniLen : Nat
  apMini : Nat
  prec : Nat
  deriving DecidableEq, Repr

/-- The schedule of a set of values. -/
def schedOf (g : Nat → Int) : Sched :=
  { ct := cycleNs (nat g K.CYCLE_TIME), slots := nat g K.STATIC_SLOTS, len := nat g K.SLOT_LENGTH,
    apUp := nat g K.AP_UP, apDown := nat g K.AP_DOWN, minis := nat g K.MINISLOTS,
    miniLen := nat g K.MINISLOT_LENGTH, apMini := nat g K.AP_MINISLOT, prec := nat g K.PRECISION_ASSUMED }

/-- The active schedule. -/
def State.sched (s : State) : Sched := schedOf s.cf

/-- Upstream role of a slot (R35). -/
def upRole (g : Nat → Int) (k : Nat) : Nat :=
  if k = 0 then 1 else if k = 1 then 0 else field (nat g (K.SLOT_ROLE (k - 2))) 0 4

/-- Downstream role of a slot (R35). -/
def downRole (g : Nat → Int) (k : Nat) : Nat :=
  if k = 0 then 0 else if k = 1 then 2 else field (nat g (K.SLOT_ROLE (k - 2))) 4 4

/-- The slot's port mask includes the island (R36); slots 0 and 1 reach every island. -/
def slotMask (g : Nat → Int) (k n : Nat) : Bool :=
  if k < 2 then true else bit (nat g (K.SLOT_PORT_MASK (k - 2))) n

/-- The numbers `a, a + 1, …` below `b`. -/
def fromTo (a b : Nat) : List Nat := (List.range (b - a)).map (· + a)

/-- The highest slot with a role (R33). -/
def topSlot (g : Nat → Int) : Nat :=
  (fromTo 2 (nat g K.STATIC_SLOTS)).foldl
    (fun h k => if upRole g k = 0 ∧ downRole g k = 0 then h else max h k) 1

/-- The static end (R33). -/
def staticEnd (g : Nat → Int) : Nat := (topSlot g + 1) * nat g K.SLOT_LENGTH

/-- The end of the dynamic segment (R42). -/
def dynEnd (g : Nat → Int) : Nat := staticEnd g + nat g K.MINISLOTS * nat g K.MINISLOT_LENGTH

/-- The network idle time (R34); negative where the segments exceed the cycle. -/
def idleTime (g : Nat → Int) : Int := (cycleNs (nat g K.CYCLE_TIME) : Int) - dynEnd g

/-- The guardian margin of a port (R48). -/
def margin (g : Nat → Int) (p : Nat) : Nat :=
  2 * nat g K.PRECISION_ASSUMED + nat g (K.PLANNED_UNCERTAINTY p)

/-- The island of a port. -/
def portIsland (p : Nat) : Nat := p % 24

/-- The channel of a port: 0 A, 1 B. -/
def portChannel (p : Nat) : Nat := p / 24

/-- The owner entry of a mini-slot ID (R40). -/
def owner (g : Nat → Int) (id : Nat) : Nat := nat g (K.MINISLOT_OWNER id)
/-- Its island. -/
def ownerIsland (o : Nat) : Nat := field o 0 5
/-- Its direction: downstream. -/
def ownerDown (o : Nat) : Bool := bit o 7
/-- Its service: 0 UNUSED, 1 MAILBOX, 2 POINTS, 3 RELAY. -/
def ownerService (o : Nat) : Nat := field o 8 4

/-- The IDs an island's link owns in one direction, ascending (R42). -/
def ownedIds (g : Nat → Int) (n : Nat) (down : Bool) : List Nat :=
  (List.range (nat g K.MINISLOTS)).filter (fun id =>
    let o := owner g id
    ownerService o != 0 && ownerIsland o == n && ownerDown o == down)

/-! ### The points of an island -/

/-- A run of points: count, type, class, output, SAFE_HOLD (R114). -/
structure PointRun where
  count : Nat
  ty : Nat
  cls : Nat
  output : Bool
  safeHold : Bool
  deriving DecidableEq, Repr

/-- The run of a RUN entry (R304). -/
def runOf (v : Nat) : PointRun :=
  { count := field v 0 16, ty := field v 16 3, cls := field v 19 2, output := bit v 21, safeHold := bit v 22 }

/-- The point runs of an island (R283). -/
def pointRuns (g : Nat → Int) (n : Nat) : List PointRun :=
  (List.range (nat g (K.RUN_COUNT n))).map (fun j => runOf (nat g (K.RUN n j)))

/-- The number of points of an island. -/
def pointCount (g : Nat → Int) (n : Nat) : Nat := ((pointRuns g n).map (·.count)).sum

/-- Points in a list of runs that `p` picks. -/
def countRuns (p : PointRun → Bool) (l : List PointRun) : Nat := ((l.filter p).map (·.count)).sum

/-- `n` rounded up to a multiple of 4. -/
def pad4 (n : Nat) : Nat := (n + 3) / 4 * 4

/-- Bytes of the packed values of the runs that `p` picks (R37, R107). -/
def packedBytes (p : PointRun → Bool) (l : List PointRun) : Nat :=
  pad4 ((countRuns (fun r => p r && r.ty == 0) l + 7) / 8 + countRuns (fun r => p r && r.ty == 1) l
    + 2 * countRuns (fun r => p r && (r.ty == 2 || r.ty == 3)) l + 4 * countRuns (fun r => p r && r.ty == 4) l)

/-- Bytes of FAST points of an island in one direction (R37: P). -/
def fastBytes (g : Nat → Int) (n : Nat) (down : Bool) : Nat :=
  packedBytes (fun r => r.cls == 0 && r.output == down) (pointRuns g n)

/-- The class stands in a CONTENT octet: MEDIUM, SLOW, ON_CHANGE are bits 0, 1, 2 (R112). -/
def inContent (content cls : Nat) : Bool := decide (1 ≤ cls) && bit content (cls - 1)

/-- Bytes of a POINTS transfer of some content (R112: V). -/
def pointsBytes (g : Nat → Int) (n : Nat) (down : Bool) (content : Nat) : Nat :=
  packedBytes (fun r => inContent content r.cls && r.output == down) (pointRuns g n)

/-- The local points of an island with their types, classes and directions, by local number (R283). -/
def localPoints : Nat → List PointRun → List (Nat × PointRun)
  | _, [] => []
  | k, r :: l => (List.range r.count).map (fun j => (k + j, r)) ++ localPoints (k + r.count) l

/-- Order the points that `p` picks by class, then by number. -/
def byClass (p : PointRun → Bool) (l : List (Nat × PointRun)) : List (Nat × PointRun) :=
  (List.range 4).flatMap (fun c => l.filter (fun e => p e.2 && e.2.cls == c))

/-- The packing order of R107 of the points that `p` picks: BIT, U8, 16-bit, I32. -/
def packOrder (p : PointRun → Bool) (l : List (Nat × PointRun)) : List (List (Nat × PointRun)) :=
  [byClass (fun r => p r && r.ty == 0) l, byClass (fun r => p r && r.ty == 1) l,
   byClass (fun r => p r && (r.ty == 2 || r.ty == 3)) l, byClass (fun r => p r && r.ty == 4) l]

/-- Bits packed 8 to a byte, first in bit 0. -/
def packBits : List Bool → Bytes
  | [] => []
  | b0 :: b1 :: b2 :: b3 :: b4 :: b5 :: b6 :: b7 :: r =>
    BitVec.ofNat 8 (b2n b0 + 2 * b2n b1 + 4 * b2n b2 + 8 * b2n b3 + 16 * b2n b4 + 32 * b2n b5 + 64 * b2n b6
      + 128 * b2n b7) :: packBits r
  | l => [BitVec.ofNat 8 ((List.range l.length).foldl (fun a j => a + 2 ^ j * b2n (l.getD j false)) 0)]

/-- Pack values by the local number (R107). -/
def packPoints (p : PointRun → Bool) (l : List (Nat × PointRun)) (val : Nat → Int) : Bytes :=
  match packOrder p l with
  | [bits, u8, w16, i32] =>
    let b := packBits (bits.map (fun e => val e.1 != 0)) ++ u8.flatMap (fun e => leInt 1 (val e.1))
      ++ w16.flatMap (fun e => leInt 2 (val e.1)) ++ i32.flatMap (fun e => leInt 4 (val e.1))
    padTo (pad4 b.length) b
  | _ => []

/-- The value of `k` octets of a point's type. -/
def pointValue (ty : Nat) (b : Bytes) (off : Nat) : Int :=
  if ty = 1 then uAt b off 1 else if ty = 2 then sAt b off 2 else if ty = 3 then uAt b off 2 else sAt b off 4

/-- Take `size`-octet values one after another from an offset. -/
def takeWords (size off : Nat) (b : Bytes) : List (Nat × PointRun) → List (Nat × Int)
  | [] => []
  | e :: r => (e.1, pointValue e.2.ty b off) :: takeWords size (off + size) b r

/-- Unpack values (R107): local number and value. -/
def unpackPoints (p : PointRun → Bool) (l : List (Nat × PointRun)) (b : Bytes) : List (Nat × Int) :=
  match packOrder p l with
  | [bits, u8, w16, i32] =>
    let nb := (bits.length + 7) / 8
    (List.range bits.length).zipWith (fun j e => (e.1, if bit (uAt b (j / 8) 1) (j % 8) then (1 : Int) else 0)) bits
      ++ takeWords 1 nb b u8 ++ takeWords 2 (nb + u8.length) b w16
      ++ takeWords 4 (nb + u8.length + 2 * w16.length) b i32
  | _ => []

/-- Smallest and largest value of a point type (R290). -/
def pointRange (ty : Nat) : Int × Int :=
  match ty with
  | 0 => (0, 1)
  | 1 => (0, 255)
  | 2 => (-32768, 32767)
  | 3 => (0, 65535)
  | _ => (-2147483648, 2147483647)

/-- The local points of the run list from local number `k` on: the run that holds local number `j`. -/
def runAt : Nat → List PointRun → Nat → Option PointRun
  | _, [], _ => none
  | k, r :: l, j => if j < k + r.count then some r else runAt (k + r.count) l j

/-- The island, local number and run of a global point (R283). -/
def pointOwner (g : Nat → Int) (p : Nat) : Option (Nat × Nat × PointRun) :=
  (List.range 24).findSome? (fun n =>
    let f := nat g (K.FIRST_POINT n)
    if f ≤ p ∧ f < 262144 then (runAt 0 (pointRuns g n) (p - f)).map (fun r => (n, p - f, r)) else none)

/-- A point is a BIT input of class FAST (R251). -/
def fastBitInput (g : Nat → Int) (p : Nat) : Bool :=
  match pointOwner g p with
  | some (_, _, r) => r.ty == 0 && r.cls == 0 && !r.output
  | none => false

/-! ### Islands and axes -/

/-- The mapped axes of an island by local number (R127): AXIS_MAP 1 to 16, none as 255. -/
def axisMap (g : Nat → Int) (n : Nat) : List Nat := (List.range 16).map (fun j => nat g (K.AXIS_MAP n j))

/-- The number of axes of an island (R127: AXES). -/
def islandAxes (g : Nat → Int) (n : Nat) : Nat := (axisMap g n).countP (fun a => a < 128)

/-- The island is PRESENT. -/
def present (g : Nat → Int) (n : Nat) : Bool := g (K.PRESENT n) != 0

/-- The island and local number of an axis, if it is mapped on a present island. -/
def axisPlace (g : Nat → Int) (a : Nat) : Option (Nat × Nat) :=
  ((List.range 24).flatMap (fun n => if present g n then
      ((List.range 16).filter (fun j => nat g (K.AXIS_MAP n j) = a)).map (fun j => (n, j)) else [])).head?

/-- The axis of an island's local number. -/
def axisAt (g : Nat → Int) (n j : Nat) : Option Nat :=
  let a := nat g (K.AXIS_MAP n j)
  if a < 128 then some a else none

/-- The axis is configured (R163). -/
def axisOn (g : Nat → Int) (a : Nat) : Bool := g (K.AXIS_TYPE a) != 0

/-- The configured axes, ascending. -/
def axesOn (g : Nat → Int) : List Nat := (List.range 128).filter (axisOn g)

/-- Two-bridge axis: every stepper type (R163). -/
def twoBridge (g : Nat → Int) (a : Nat) : Bool := decide (2 ≤ g (K.AXIS_TYPE a))

/-- AXIS_MODE of the island configuration block (R114). -/
def axisMode (g : Nat → Int) (a : Nat) : Nat :=
  if 128 ≤ a then 0 else if g (K.AXIS_TYPE a) = 0 then 0 else if g (K.AXIS_TYPE a) = 1 then 1 else 2

/-! ### Wire time -/

/-- Wire bytes of a frame with `n` bytes after the EtherType (R37, R93). -/
def wireBytes (n : Nat) : Nat := max 84 (n + 38)

/-- Wire time in ns (R31, R37). -/
def wireNs (n : Nat) : Nat := 8 * wireBytes n

/-- Bytes after the EtherType of FEEDBACK and COMMAND (R103, R104). -/
def cyclicLen (g : Nat → Int) (n : Nat) (down : Bool) : Nat := 32 + 16 * islandAxes g n + fastBytes g n down

/-- Bytes after the EtherType of the longest POINTS frame of an island in one direction (R37, R113). -/
def pointsLen (g : Nat → Int) (n : Nat) (down : Bool) : Nat := 20 + min 1480 (pointsBytes g n down 7)

/-- Bytes after the EtherType of the largest downstream RELAY frame (R37). -/
def relayLen : Nat := 16 + 4 * 68

/-- Bytes after the EtherType of a SYNC frame (R101). -/
def syncLen : Nat := 46
/-- Bytes after the EtherType of a STARTUP frame (R102). -/
def startupLen : Nat := 122

/-- Preamble and start delimiter, ns: time-stamps mark the first bit after them (R100). -/
def sfdNs : Nat := 64

/-! ### The header -/

/-- Fields of the Tarrilink header (R95). -/
structure Header where
  ty : Nat
  version : Nat
  island : Nat
  flags : Nat
  netName : Nat
  cycle : Nat
  id : Nat
  seq : Nat
  deriving DecidableEq, Repr

/-- Read a header. -/
def headerOf (f : Bytes) : Header :=
  { ty := field (uAt f 0 1) 0 4, version := field (uAt f 0 1) 4 4, island := uAt f 1 1, flags := uAt f 2 1,
    netName := uAt f 3 1, cycle := uAt f 4 4, id := uAt f 8 2, seq := uAt f 10 2 }

/-- Write a header (version 1). -/
def Header.bytes (h : Header) : Bytes :=
  leBytes 1 (h.ty + 16 * h.version) ++ leBytes 1 h.island ++ leBytes 1 h.flags ++ leBytes 1 h.netName
    ++ leBytes 4 h.cycle ++ leBytes 2 h.id ++ leBytes 2 h.seq

/-- The network's name (R95). -/
def netName (rank count : Nat) : Nat := 128 * (rank % 2) + count % 128

/-- The header of a frame the head sends now. -/
def State.header (s : State) (ty n channel flags id seq : Nat) : Header :=
  { ty := ty, version := 1, island := n, flags := channel % 2 + flags, netName := netName s.net.nameRank s.net.nameCount,
    cycle := s.cycle, id := id, seq := seq }

/-! ### The safety container -/

/-- The bytes the container's CRC covers (R109). -/
def scInput (n dir cyc : Nat) (head4 : Bytes) (words : List Bytes) : Bytes :=
  leBytes 1 n ++ leBytes 1 dir ++ leBytes 2 cyc ++ head4 ++ words.flatten

/-- The container's CRC as received in a FEEDBACK frame of `a` axes is right (R109). -/
def scUpOk (n a : Nat) (f : Bytes) : Bool :=
  uAt f 16 4 == crc32c (scInput n 0x55 (uAt f 4 4) (slice f 12 4)
    ((List.range a).map (fun j => slice f (32 + 16 * j + 10) 2)))

/-- Container header of a COMMAND frame: SC_SEQ, SC_FLAGS, SC_AXES and SC_CRC (R108, R109). -/
def scDown (n cyc seq flags axes : Nat) (words : List Nat) : Bytes :=
  let h := leBytes 1 seq ++ leBytes 1 flags ++ leBytes 2 axes
  h ++ leBytes 4 (crc32c (scInput n 0xAA cyc h (words.map (leBytes 2))))

/-! ### Records of the frames -/

/-- FEEDBACK axis record (R103). -/
structure FbRec where
  iA : Int
  iB : Int
  pos : Nat
  edgeT : Nat
  safeSpeed : Int
  indexDelta : Int
  status : Nat
  temp : Nat
  deriving DecidableEq, Repr

/-- Axis record `j` of a FEEDBACK frame. -/
def fbRec (f : Bytes) (j : Nat) : FbRec :=
  let o := 32 + 16 * j
  { iA := sAt f o 2, iB := sAt f (o + 2) 2, pos := uAt f (o + 4) 4, edgeT := uAt f (o + 8) 2,
    safeSpeed := sAt f (o + 10) 2, indexDelta := sAt f (o + 12) 2, status := uAt f (o + 14) 1, temp := uAt f (o + 15) 1 }

/-- COMMAND axis record (R104). -/
structure CmdRec where
  dutyU : Int
  dutyV : Int
  dutyW : Int
  applyAt : Nat
  pwm : Bool
  late : Bool
  hold : Bool
  twoBridge : Bool
  curTrip : Nat
  safeWord : Nat
  deriving DecidableEq, Repr

/-- The bytes of a COMMAND axis record. -/
def CmdRec.bytes (r : CmdRec) : Bytes :=
  leInt 2 r.dutyU ++ leInt 2 r.dutyV ++ leInt 2 r.dutyW ++ leBytes 4 r.applyAt
    ++ leBytes 2 (b2n r.pwm + 2 * b2n r.late + 4 * b2n r.hold + 8 * b2n r.twoBridge)
    ++ leBytes 2 r.curTrip ++ leBytes 2 r.safeWord

/-- SYNC frame (R101). -/
structure SyncFrame where
  t2 : Rat
  t3 : Rat
  icbDigest : Nat
  otherNet : Nat
  caps : Nat
  minApUp : Nat
  applySetup : Nat
  toLatency : Nat
  vendor : Nat
  deriving DecidableEq, Repr

/-- A time field in units of 1/16 ns (R100), in ns. -/
def sixteenth (n : Nat) : Rat := (n : Rat) / 16

/-- Read a SYNC frame. -/
def syncOf (f : Bytes) : SyncFrame :=
  { t2 := sixteenth (uAt f 12 4), t3 := sixteenth (uAt f 16 4), icbDigest := uAt f 20 4, otherNet := uAt f 24 1,
    caps := uAt f 25 1, minApUp := uAt f 26 2, applySetup := uAt f 28 2, toLatency := uAt f 30 2, vendor := uAt f 32 4 }

/-- MAILBOX frame (R123). -/
structure MailFrame where
  tag : Nat
  gen : Nat
  kind : Nat
  service : Nat
  status : Nat
  index : Nat
  sub : Nat
  len : Nat
  offset : Nat
  data : Bytes
  deriving DecidableEq, Repr

/-- Read a MAILBOX frame. -/
def mailOf (f : Bytes) : MailFrame :=
  { tag := uAt f 12 1, gen := field (uAt f 13 1) 0 2, kind := field (uAt f 13 1) 2 2, service := uAt f 14 1,
    status := uAt f 15 1, index := uAt f 16 2, sub := uAt f 18 1, len := uAt f 20 2, offset := uAt f 22 4,
    data := slice f 26 (uAt f 20 2) }

/-- Write the body of a MAILBOX frame. -/
def MailFrame.bytes (m : MailFrame) : Bytes :=
  leBytes 1 m.tag ++ leBytes 1 (m.gen % 4 + 4 * m.kind) ++ leBytes 1 m.service ++ leBytes 1 m.status ++ leBytes 2 m.index
    ++ leBytes 1 m.sub ++ [0] ++ leBytes 2 m.len ++ leBytes 4 m.offset ++ m.data

/-- The bytes of a relay entry (R126). -/
def relayEntry (src dest rseq : Nat) (data : Bytes) : Bytes :=
  leBytes 1 src ++ leBytes 1 dest ++ leBytes 1 data.length ++ leBytes 1 rseq ++ padTo (pad4 data.length) data

/-! ### The island configuration block -/

/-- ID entries of the block (R114): every ID the island owns in either direction. -/
def icbIds (g : Nat → Int) (n : Nat) : List Nat :=
  (List.range (nat g K.MINISLOTS)).filter (fun id =>
    ownerService (owner g id) != 0 && ownerIsland (owner g id) == n)

/-- Slot entries of the block (R114). -/
def icbSlots (g : Nat → Int) (n : Nat) : List Nat :=
  (fromTo 2 (nat g K.STATIC_SLOTS)).filter (fun k =>
    (upRole g k != 0 || downRole g k != 0) && slotMask g k n)

/-- Descriptor octet of a run (R114). -/
def PointRun.descriptor (r : PointRun) : Nat := r.ty + 8 * r.cls + 32 * b2n r.output + 64 * b2n r.safeHold

/-- The block without its digest (R114). -/
def icbBody (g : Nat → Int) (n : Nat) : Bytes :=
  let runs := pointRuns g n
  let ids := icbIds g n
  let slots := icbSlots g n
  let len := 36 + 4 * ids.length + 2 * slots.length + 4 * runs.length
  leBytes 2 1 ++ leBytes 2 len ++ leBytes 1 n ++ leBytes 1 (islandAxes g n) ++ leBytes 1 (nat g (K.PWM_DIV n))
    ++ leBytes 1 (nat g (K.PHASE_MEDIUM n)) ++ leBytes 2 (nat g (K.PHASE_SLOW n)) ++ leBytes 2 runs.length
    ++ leBytes 2 ids.length ++ leBytes 1 slots.length ++ [0]
    ++ ((axisMap g n).flatMap (fun a => leBytes 1 (axisMode g a)))
    ++ ids.flatMap (fun id => leBytes 2 id ++ leBytes 2 (owner g id))
    ++ slots.flatMap (fun k => leBytes 1 k ++ leBytes 1 (nat g (K.SLOT_ROLE (k - 2))))
    ++ runs.flatMap (fun r => leBytes 2 r.count ++ leBytes 1 r.descriptor ++ [0])

/-- The digest of an island's block; 0 while the island is not configured (R114, R127). -/
def icbDigest (g : Nat → Int) (n : Nat) : Nat := if present g n then crc32c (icbBody g n) else 0

/-- The block (R114). -/
def icb (g : Nat → Int) (n : Nat) : Bytes := icbBody g n ++ leBytes 4 (icbDigest g n)

/-- ICB_LENGTH (R127): 36 while the island is not configured. -/
def icbLength (g : Nat → Int) (n : Nat) : Nat := if present g n then (icb g n).length else 36

end Sys2Proof.Machine
end

