-- ==== Sys2Proof/Machine/Guardian.lean ====
section
/-! DEFINITION. The guardians (R48 to R53, R68): windows, the mini-slot procedure, admission, owner and validity
checks, and the guardian state of a port. -/

namespace Sys2Proof.Machine

open Sys2Proof

/-- Guardian states (R62). -/
abbrev G.DISABLED : Nat := 0
/-- LINK_DOWN. -/
abbrev G.LINK_DOWN : Nat := 1
/-- INTEGRATING. -/
abbrev G.INTEGRATING : Nat := 2
/-- OPEN. -/
abbrev G.OPEN : Nat := 3
/-- SYNC_EXCLUDED. -/
abbrev G.SYNC_EXCLUDED : Nat := 4
/-- ISOLATED. -/
abbrev G.ISOLATED : Nat := 5

/-- Guardian state of a port. -/
def State.guard (s : State) (p : Nat) : Nat := s.rdN (K.GUARD_STATE p)

/-- Set it. -/
def State.setGuard (s : State) (p g : Nat) : State := s.wrN (K.GUARD_STATE p) g

/-- The port carries an integrated island's frames: OPEN or SYNC_EXCLUDED (R70). -/
def State.portOpen (s : State) (p : Nat) : Bool := s.guard p == G.OPEN || s.guard p == G.SYNC_EXCLUDED

/-- The port carries STARTUP and SYNC: INTEGRATING, or ISOLATED with STARTUP (R68). -/
def State.portStarting (s : State) (p : Nat) : Bool :=
  s.guard p == G.INTEGRATING || (s.guard p == G.ISOLATED && (s.port p).resumed)

/-- The island is integrated (R70). -/
def State.integrated (s : State) (n : Nat) : Bool := s.portOpen n || s.portOpen (24 + n)

/-- The integrated islands, ascending. -/
def State.integratedList (s : State) : List Nat := (List.range 24).filter s.integrated

/-- The correcting port of an island (R526): it stays while it is starting up with a measurement within plan; else the
first of the island's ports that is. -/
def State.chooseCorrecting (s : State) (n : Nat) : State :=
  let ok (p : Nat) : Bool := s.portStarting p && (s.port p).inPlan && (s.port p).doneAt.isSome
  let keep : Bool := match (s.island n).correcting with
    | some p => ok p
    | none => false
  if keep then s
  else s.updIsland n (fun x => { x with correcting := if ok n then some n else if ok (24 + n) then some (24 + n) else none })

/-- What follows when a port of island `n` leaves or joins the open states: an island that is no longer integrated
starts its sequences anew and its inputs are not valid (R287). -/
def State.afterPort (s : State) (n : Nat) : State :=
  let s := s.chooseCorrecting n
  if s.integrated n then s
  else (s.updIsland n (fun x => { x with
      sampleSeq := none, toExpect := none, rateSent := false, roundIn := 0,
      pointsOut := [], pointsIn := none })).wr (K.INPUTS_VALID n) 0

/-- A port enters INTEGRATING with a fresh measurement (R67). -/
def State.enterIntegrating (s : State) (p : Nat) : State :=
  (((s.setGuard p G.INTEGRATING).updPort p (fun x => { x with
      exch := [], inPlan := false, planRaised := false, remeasureAt := none, doneAt := none, noSync := 0, verify := 0,
      devNow := none, devPrev := none, mismatch := 0, icbOffset := 0, resumed := false }))).afterPort (portIsland p)

/-- A port whose link is up starts integrating while the head is in COLDSTART or OPERATE (R67). -/
def State.tryIntegrate (s : State) (p : Nat) : State :=
  if s.guard p = G.LINK_DOWN ∧ (s.port p).linkUp ∧ (s.netState = 2 ∨ s.netState = 4) then s.enterIntegrating p else s

/-- Every port in turn. -/
def State.tryIntegrateAll (s : State) : State := foldS State.tryIntegrate s (List.range 48)

/-- The measured delay in units of 1/16 ns, as events carry it (R463). -/
def Port.delay16 (x : Port) : Nat := (roundHalfUp (x.delay * 16)).toNat

/-! ### Admission -/

/-- Receive path from the reference plane to the MAC time-stamp of a port, ns (R75). -/
def State.rxConst (s : State) (p : Nat) : Rat :=
  let al : Rat := ((s.port p).alignment : Rat) * (4 / 5)
  if s.cf (K.PHY_MODE p) = 0 then 152 + al else 104 + (s.rdN (K.PHY_RX_LATENCY p) : Rat) + al

/-- The instant of a frame's first bit after the SFD at the reference plane, from its MAC time-stamp, ns from cycle
start (R75, R100). -/
def State.planeTime (s : State) (p mac : Nat) : Rat := (mac : Rat) - s.rxConst p

/-- Where the guardian expects a frame (R49). -/
inductive Place where
  | slot (k : Nat)
  | mini (id : Nat)
  deriving DecidableEq, Repr

/-- Upstream static slots that carry a frame on an open port of an island (R36). -/
def upSlots (g : Nat → Int) (n : Nat) : List Nat :=
  0 :: (fromTo 2 (nat g K.STATIC_SLOTS)).filter (fun k => upRole g k == 3 && slotMask g k n)

/-- The occupancy of a frame in mini-slots, ns (R42). -/
def occupancy (aMs t m lms : Nat) : Nat := (aMs + t + m + lms - 1) / lms * lms

/-- The guardian's step through the IDs a link owns, for a frame that starts at `t`: the position and number of the ID
the frame takes, the ID, and whether the frame starts inside its window. A frame outside every window takes the last
position passed, else the next one. -/
def walkIds (d : Rat) (m aMs lms : Nat) (t : Rat) : List Nat → Nat → Nat → Option (Nat × Nat) → Nat × Nat × Option Nat
  | [], pos, idx, prev => match prev with
    | some (pp, pi) => (pp, pi, none)
    | none => (pos, idx, none)
  | id :: r, pos, idx, prev =>
    let e : Rat := (pos : Rat) + aMs + d
    if e + m < t then walkIds d m aMs lms t r (pos + lms) (idx + 1) (some (pos, idx))
    else if e - m ≤ t then (pos, idx, some id)
    else match prev with
      | some (pp, pi) => (pp, pi, none)
      | none => (pos, idx, none)

/-- What the guardian did with a frame: where it was admitted, and whether it was cut. -/
structure Admit where
  place : Option Place
  cut : Bool
  deriving DecidableEq, Repr

/-- Count a boundary violation of a port's cycle (R49, R51). -/
def State.violate (s : State) (p k : Nat) : State :=
  ((s.bump k).perf 9 p 1).updPort p (fun x => { x with violation := true })

/-- The guardian's decision on a frame that starts at `t` and carries `len` bytes after the EtherType (R49), on an open
port. -/
def State.guardianAdmit (s : State) (p : Nat) (t : Rat) (len : Nat) : State × Admit :=
  let c := s.sched
  let n := portIsland p
  let x := s.port p
  let d := x.delay
  let m := margin s.cf p
  let T := wireNs len
  let s := s.setPort p { x with seen := true }
  match (upSlots s.cf n).find? (fun k => decide (absR (t - ((k * c.len + c.apUp : Nat) : Rat) - d) ≤ m)) with
  | some k =>
    let s := ((s.bump (K.ADMITTED p)).perf 8 p 1).updPort p (fun x => { x with admitted := true })
    if (((k + 1) * c.len : Nat) : Rat) < t + T then (s.violate p (K.OVERRUN p), { place := some (.slot k), cut := true })
    else (s, { place := some (.slot k), cut := false })
  | none =>
    if t < (staticEnd s.cf : Nat) then (s.violate p (K.OUT_OF_WINDOW p), { place := none, cut := false })
    else
      let ids := ownedIds s.cf n false
      let pos0 := if x.upIdx = 0 then staticEnd s.cf else x.upPos
      let (pos, idx, id) := walkIds d m c.apMini c.miniLen t (ids.drop x.upIdx) pos0 x.upIdx none
      let s := s.updPort p (fun x => { x with upPos := pos + occupancy c.apMini T m c.miniLen, upIdx := idx + 1 })
      match id with
      | none => (s.violate p (K.OUT_OF_WINDOW p), { place := none, cut := false })
      | some i =>
        let s := ((s.bump (K.ADMITTED p)).perf 8 p 1).updPort p (fun x => { x with admitted := true })
        if ((dynEnd s.cf : Nat) : Rat) + d < t + T then
          (s.violate p (K.OVERRUN p), { place := some (.mini i), cut := true })
        else (s, { place := some (.mini i), cut := false })

/-- Frame types that a place allows (R35, R40, R96). -/
def Place.ty (g : Nat → Int) : Place → Nat
  | .slot 0 => 3
  | .slot _ => 5
  | .mini id => match ownerService (owner g id) with
    | 1 => 6
    | 2 => 5
    | _ => 7

/-- The owner check of R50 and the reserved types of R96: none passes, a counter names the discard. -/
def State.ownerCheck (s : State) (p : Nat) (pl : Place) (h : Header) : Option Nat :=
  match pl with
  | .slot _ => if h.ty = Place.ty s.cf pl then none else some (K.ROLE_MISMATCH p)
  | .mini id =>
    if h.ty = 0 ∨ 7 < h.ty then some (K.ROLE_MISMATCH p)
    else if h.id = id then none
    else
      let o := owner s.cf h.id
      if h.id < s.cfN K.MINISLOTS ∧ ownerService o ≠ 0 ∧ ownerIsland o ≠ portIsland p then some (K.FOREIGN_ID p)
      else some (K.ID_MISMATCH p)

/-- The validity of an upstream frame at the head (R98), but for its length. -/
def State.validUp (s : State) (p : Nat) (envOk : Bool) (h : Header) (ty : Nat) : Bool :=
  envOk && h.version == 1 && h.ty == ty && h.island == portIsland p && h.cycle == s.cycle
    && h.netName == netName s.net.nameRank s.net.nameCount

/-- A frame arriving on a port in an operating network: the guardian, the owner check and the validity checks. The
place is answered for a frame that passes all of them. On a port that is not open the frame is discarded (R52, R68). -/
def State.arrive (s : State) (p mac : Nat) (envOk : Bool) (f : Bytes) : State × Option Place :=
  if s.portOpen p then
    let t := s.planeTime p mac - sfdNs
    let s := s.linkTraffic p true f.length
    let (s, a) := s.guardianAdmit p t f.length
    match a.place with
    | none => (s, none)
    | some pl =>
      let h := headerOf f
      match s.ownerCheck p pl h with
      | some k => (s.bump k, none)
      | none => if a.cut = false ∧ s.validUp p envOk h (Place.ty s.cf pl) then (s, some pl) else (s, none)
  else (s, none)

/-! ### The guardian state of a port (R51, R52) -/

/-- One port at the end of a cycle (R51, R67): its violation and clean runs, and the run of verification cycles. -/
def State.portEnd (s : State) (p : Nat) : State :=
  let x := s.port p
  if s.portOpen p then
    if x.violation then (s.bumpSat (K.VIOLATION_RUN p)).updPort p (fun x => { x with cleanRun := 0 })
    else if x.admitted then (s.wr (K.VIOLATION_RUN p) 0).updPort p (fun x => { x with cleanRun := x.cleanRun + 1 })
    else s
  else if s.portStarting p then
    s.updPort p (fun x => { x with
      verify := if x.devNow.isSome then x.verify else 0, noSync := if x.devNow.isSome then 0 else x.noSync + 1 })
  else s

/-- GUARDIAN_END_OF_CYCLE (R51, R64): every port's runs, and the head's count of cycles without collision. -/
def guardianEnd (s : State) : State :=
  let s := foldS State.portEnd s (List.range 48)
  s.updNet (fun x => { x with clean := if s.netState = 2 then (if x.collision then 0 else x.clean + 1) else x.clean,
                              collision := false })

/-- GUARDIAN_END_OF_CYCLE. -/
def execGuardianEndOfCycle (s : State) : Res := done (guardianEnd s)

/-- PORT_SYNC_EXCLUDED (R52): an OPEN port's violation run reached 3. -/
def execPortSyncExcluded (port : Fin 48) (s : State) : Res :=
  let p := port.val
  if s.guard p = G.OPEN ∧ 3 ≤ s.rdN (K.VIOLATION_RUN p) then
    done ((s.setGuard p G.SYNC_EXCLUDED).raise Ev.PORT_SYNC_EXCLUDED p (s.port p).delay16)
  else done s

/-- PORT_ISOLATED (R52): a SYNC_EXCLUDED port's violation run reached 8. -/
def execPortIsolated (port : Fin 48) (s : State) : Res :=
  let p := port.val
  if s.guard p = G.SYNC_EXCLUDED ∧ 8 ≤ s.rdN (K.VIOLATION_RUN p) then
    let s := ((s.setGuard p G.ISOLATED).bump (K.ISOLATIONS p)).updPort p (fun x => { x with
      isolatedAt := s.clk.tick, resumed := false })
    done ((s.afterPort (portIsland p)).raise Ev.PORT_ISOLATED p (s.port p).delay16)
  else done s

/-- PORT_READMITTED (R52): a SYNC_EXCLUDED port's clean run reached 8. -/
def execPortReadmitted (port : Fin 48) (s : State) : Res :=
  let p := port.val
  if s.guard p = G.SYNC_EXCLUDED ∧ 8 ≤ (s.port p).cleanRun then
    done (((s.setGuard p G.OPEN).wr (K.VIOLATION_RUN p) 0).raise Ev.PORT_READMITTED p (s.port p).delay16)
  else done s

/-- The link of an enabled port is lost (R52, R81). -/
def State.portLinkLost (s : State) (p : Nat) : State :=
  if s.guard p ≠ G.DISABLED ∧ (s.port p).linkUp then
    let d := (s.port p).delay16
    let s := (s.setGuard p G.LINK_DOWN).updPort p (fun x => { x with linkUp := false, resumed := false })
    ((s.afterPort (portIsland p)).startRide Ev.PORT_LINK_LOST).raise Ev.PORT_LINK_LOST p d
  else s

/-- PORT_LINK_LOST (R52): the port enters LINK_DOWN; the loss is a fault to be ridden through (R26). -/
def execPortLinkLost (port : Fin 48) (s : State) : Res := done (s.portLinkLost port.val)

/-- ISLAND_COLDSTART (R63): a STARTUP frame from an island is discarded and counted. -/
def execIslandColdstart (port : Fin 48) (s : State) : Res :=
  let p := port.val
  if s.guard p = G.DISABLED ∨ s.guard p = G.LINK_DOWN then done s else done (s.bump (K.ISLAND_COLDSTART p))

/-- ISOLATION_HOLD_EXPIRY (R67): an isolated port with its link up resumes STARTUP and admits SYNC. -/
def execIsolationHoldExpiry (port : Fin 48) (s : State) : Res :=
  let p := port.val
  let x := s.port p
  if s.guard p = G.ISOLATED ∧ x.resumed = false ∧ x.linkUp ∧ x.isolatedAt + s.rdN K.ISOLATION_HOLD ≤ s.clk.tick then
    done (s.setPort p { x with
      resumed := true, exch := [], inPlan := false, planRaised := false, remeasureAt := none,
      doneAt := none, noSync := 0, verify := 0, devNow := none, devPrev := none, mismatch := 0, icbOffset := 0 })
  else done s

/-- A port is closed by ENABLE (R52). -/
def State.closePort (s : State) (p : Nat) : State :=
  ((s.setGuard p G.DISABLED).updPort p (fun x => { x with linkUp := false, resumed := false })).afterPort (portIsland p)

/-- The port's domain is powered and this head uses its channel (R67, R83). -/
def State.portUsable (s : State) (p : Nat) : Bool :=
  s.domainOn (if portChannel p = 0 then Dom.NET_A else Dom.NET_B) &&
    (!s.dual.on || s.dual.channel == portChannel p)

/-- A write of ENABLE of a port (R52, R60, R67). -/
def portEnableWrite (p : Nat) (v : Bool) (s : State) : WRes :=
  let s := s.wr (K.ENABLE p) (b2i v)
  if v then
    if s.guard p = G.DISABLED ∧ s.portUsable p then .ok (s.setGuard p G.LINK_DOWN) else .ok s
  else if s.guard p = G.DISABLED then .ok s
  else .ok (s.closePort p)

/-- PORT_ENABLE_WRITE. -/
def execPortEnableWrite (port : Fin 48) (v : Bool) (s : State) : Res := answered (portEnableWrite port.val v s)

/-- An accepted equalisation preset takes effect as the link of a port (48 the strait link) is acquired (R504). -/
def State.takePreset (s : State) (p : Nat) : State :=
  match SMap.find s.ageing.presets p with
  | some v => { s.wrN (K.EQ_PRESET p) v with ageing := { s.ageing with presets := SMap.erase s.ageing.presets p } }
  | none => s

/-- PCS_LINK_UP (R67, R75): the link is up with its alignment term, in UI. -/
def execPcsLinkUp (port : Fin 48) (alignment : Fin 8) (s : State) : Res :=
  let p := port.val
  if s.guard p = G.DISABLED then done s
  else done (((s.takePreset p).updPort p (fun x => { x with linkUp := true, alignment := alignment.val })).tryIntegrate p)

end Sys2Proof.Machine
end

