-- ==== Sys2Proof/Machine/Startup.lean ====
section
/-! DEFINITION. Network startup and the integration of ports: R63 to R75, R101, R102, R115, R526, R528. -/

namespace Sys2Proof.Machine

open Sys2Proof

/-- Codes of NETWORK_STATE (R91). -/
abbrev N.OFF : Nat := 0
/-- LISTEN. -/
abbrev N.LISTEN : Nat := 1
/-- COLDSTART. -/
abbrev N.COLDSTART : Nat := 2
/-- INTEGRATE. -/
abbrev N.INTEGRATE : Nat := 3
/-- OPERATE. -/
abbrev N.OPERATE : Nat := 4

/-- Codes of DH_STATE (R92). -/
abbrev DH.SINGLE : Nat := 0
/-- ALONE. -/
abbrev DH.ALONE : Nat := 1
/-- ACTIVE. -/
abbrev DH.ACTIVE : Nat := 2
/-- RESYNC. -/
abbrev DH.RESYNC : Nat := 3
/-- VERIFY. -/
abbrev DH.VERIFY : Nat := 4
/-- STANDBY. -/
abbrev DH.STANDBY : Nat := 5

/-- DH_STATE. -/
def State.dhState (s : State) : Nat := s.rdN K.DH_STATE
/-- DH_ROLE: 0 NONE, 1 SENIOR, 2 JUNIOR. -/
def State.dhRole (s : State) : Nat := s.rdN K.DH_ROLE
/-- The strait link is up. -/
def State.straitUp (s : State) : Bool := s.rd K.STRAIT_STATE == 2

/-- Set the network state. -/
def State.setNet (s : State) (v : Nat) : State := s.wrN K.NETWORK_STATE v

/-- The listen timer starts: LISTEN_BASE + 2 × COLDSTART_RANK cycles (R65). -/
def State.startListen (s : State) : State :=
  s.updNet (fun x => { x with listenLeft := s.rdN K.LISTEN_BASE + 2 * s.rdN K.COLDSTART_RANK })

/-- A port when the network state becomes OFF (R67). -/
def State.portOff (s : State) (p : Nat) : State :=
  if s.guard p = G.DISABLED then s
  else (((s.setGuard p G.LINK_DOWN).wr (K.VIOLATION_RUN p) 0).updPort p (fun x => { x with
      cleanRun := 0, resumed := false, exch := [], inPlan := false, doneAt := none, remeasureAt := none, verify := 0,
      recent := [], t1 := none, t1Prev := none, devNow := none, devPrev := none })).afterPort (portIsland p)

/-- The network state becomes OFF with a STOP_REASON (R64, R67, R89). -/
def State.toOff (s : State) (reason : Nat) : State :=
  let s := (foldS State.portOff (s.setNet N.OFF) (List.range 48)).wrN K.STOP_REASON reason
  if s.dhState = DH.SINGLE then s
  else ((s.wrN K.DH_STATE (if s.rd K.DUAL_HEAD = 1 then DH.ALONE else DH.SINGLE)).wr K.DH_ROLE 0).updDual
    (fun x => { x with standby := false })

/-- A port's guardian follows ENABLE, its domain and the head's channel at START (R67, R83, R92). -/
def State.portAtStart (s : State) (p : Nat) : State :=
  if s.rd (K.ENABLE p) = 1 ∧ s.portUsable p then
    (if s.guard p = G.DISABLED then s.setGuard p G.LINK_DOWN else s)
  else if s.guard p = G.DISABLED then s else s.closePort p

/-- The committed schedule becomes active (R59). -/
def State.activateSchedule (s : State) : State :=
  match s.com with
  | some c => { s with act := replacePart isSched s.act c, com := none }
  | none => s

/-- The write of START (R64, R59, R89, R92). -/
def networkStart (s : State) : WRes :=
  if s.netState ≠ N.OFF then (s, .refused)
  else if s.power = 0 then (s.wrN K.STOP_REASON 2, .refused)
  else
    let s := s.activateSchedule
    let on := s.rd K.DUAL_HEAD = 1
    let s := s.updDual (fun x => { x with on := on, channel := s.rdN K.HEAD_CHANNEL, standby := false })
    let s := if on then (s.wrN K.DH_STATE DH.ALONE).wr K.DH_ROLE 0 else s.wrN K.DH_STATE DH.SINGLE
    let s := foldS State.portAtStart s (List.range 48)
    let s := foldS (fun s n => s.updIsland n (fun x => { x with rateSent := false, startNow := none, startPrev := none }))
      s (List.range 24)
    .ok ((s.setNet N.LISTEN).startListen)

/-- NETWORK_START. -/
def execNetworkStart (s : State) : Res := answered (networkStart s)

/-- The write of STOP (R64); in OFF it changes nothing. -/
def networkStop (s : State) : WRes :=
  if s.netState = N.OFF then .ok s else .ok (s.toOff 1)

/-- NETWORK_STOP. -/
def execNetworkStop (s : State) : Res := answered (networkStop s)

/-- LISTEN_TIMEOUT (R64, R66, R80): the head enters COLDSTART under a new name; network time becomes TAI while the PTP
slave is locked, with the first cycle at the next whole multiple of the cycle time, and 0 otherwise. -/
def execListenTimeout (t : Nat) (s : State) : Res :=
  let s := s.at t
  if s.netState = N.LISTEN ∧ s.net.listenLeft = 0 then
    let first := if s.ptpLocked then (s.wallNow + s.ct - 1) / s.ct else 0
    let s := s.updNet (fun x => { x with
      coldCount := x.coldCount + 1, nameRank := s.rdN K.COLDSTART_RANK, nameCount := x.coldCount + 1, clean := 0,
      collision := false })
    done (((s.setNet N.COLDSTART).updClk (fun c => { c with cycNext := some first })).tryIntegrateAll)
  else done s

/-- COLDSTART_COMPLETE (R64, R84): eight cycles without collision; in dual-head mode the head takes the senior role. -/
def execColdstartComplete (s : State) : Res :=
  if s.netState = N.COLDSTART ∧ 8 ≤ s.net.clean then
    let s := s.setNet N.OPERATE
    done ((if s.dual.on then s.wrN K.DH_ROLE 1 else s).tryIntegrateAll)
  else done s

/-- A collision in COLDSTART with a head of rank `other` (R64, R66), at most once in a cycle. -/
def State.collide (s : State) (other : Nat) : State :=
  if s.netState = N.COLDSTART ∧ s.net.collision = false then
    let own := s.rdN K.COLDSTART_RANK
    let s := s.updNet (fun x => { x with collision := true })
    if other < own then
      (((s.setNet N.LISTEN).startListen).bump K.COLLISIONS).raiseU Ev.COLDSTART_COLLISION none (some s.cycle) []
    else if other = own then (s.toOff 3).raiseU Ev.RANK_CONFLICT none (some s.cycle) []
    else s
  else s

/-- STRAIT_STARTUP (R66): a STARTUP frame that names the network of a head of coldstart rank `rank` and coldstart count
`count` comes over the strait link. -/
def execStraitStartup (rank : Fin 2) (count : Fin 128) (s : State) : Res :=
  if s.straitUp ∧ netName rank.val count.val ≠ netName s.net.nameRank s.net.nameCount then done (s.collide rank.val)
  else done s

/-- STRAIT_HEAD_SEEN (R64): a listening head of a dual-head network takes time and the network's name from the running
head; `cyc` is the extended number of its next cycle. -/
def execStraitHeadSeen (rank : Fin 2) (count : Fin 128) (cyc : Nat) (s : State) : Res :=
  if s.netState = N.LISTEN ∧ s.dual.on ∧ s.straitUp then
    let s := s.updNet (fun x => { x with nameRank := rank.val, nameCount := count.val, within := 0 })
    done ((s.setNet N.INTEGRATE).updClk (fun c => { c with cycNext := some cyc }))
  else done s

/-- DH_NO_STRAIT (R64): a listening dual head sees a running network's island frame while the strait link is down. -/
def execDhNoStrait (_port : Fin 48) (s : State) : Res :=
  if s.netState = N.LISTEN ∧ s.dual.on ∧ s.straitUp = false then
    done ((s.startListen).raiseU Ev.DH_NO_STRAIT none (some s.cycle) [])
  else done s

/-! ### Integration of a port -/

/-- The cause of a mismatch of R528, 0 for none. -/
def State.mismatchCause (s : State) (n : Nat) (y : SyncFrame) : Nat :=
  if present s.cf n = false then 5
  else if y.icbDigest ≠ icbDigest s.cf n then 1
  else if s.rd (K.EXPECTED_VENDOR n) ≠ 0 ∧ (y.vendor : Int) ≠ s.rd (K.EXPECTED_VENDOR n) then 2
  else if field y.caps 0 5 < islandAxes s.cf n then 3
  else if s.cfN K.AP_UP < y.minApUp then 4
  else 0

/-- The identity an island reports in SYNC (R127). -/
def State.storeSync (s : State) (n : Nat) (y : SyncFrame) : State :=
  (((((s.wrN (K.VENDOR n) y.vendor).wrN (K.CAPS n) y.caps).wrN (K.MIN_AP_UP n) y.minApUp).wrN (K.APPLY_SETUP n)
    y.applySetup).wrN (K.TO_LATENCY n) y.toLatency).wrN (K.REPORTED_ICB_DIGEST n) y.icbDigest

/-- Delay and deviation of an exchange (R73), ns. -/
def exchange (t1 t2 t3 t4 : Rat) : Rat × Rat := (((t4 - t1) - (t3 - t2)) / 2, ((t2 - t1) - (t4 - t3)) / 2)

/-- A valid SYNC on a port: identity, mismatch (R528), exchange (R67, R73) and verification (R526). -/
def State.takeSync (s : State) (p : Nat) (t4 : Rat) (y : SyncFrame) : State :=
  let n := portIsland p
  let s := s.storeSync n y
  let cause := s.mismatchCause n y
  let fresh := cause ≠ 0 ∧ ((s.port p).mismatch = 0 ∨ s.rd (K.ISLAND_MISMATCH_CAUSE n) ≠ cause)
  let s := s.wrN (K.ISLAND_MISMATCH_CAUSE n) cause
  let s := if fresh then s.raise Ev.ISLAND_MISMATCH p cause else s
  let s := s.updPort p (fun x => { x with mismatch := cause })
  match (s.port p).t1 with
  | none => s
  | some t1 =>
    let e := exchange t1 y.t2 y.t3 t4
    s.updPort p (fun x =>
      let counted := x.inPlan && (match x.doneAt with | some k => Nat.ble (k + 2) s.clk.tick | none => false)
      let ok := decide (absR e.2 ≤ (s.cfN K.PRECISION_ASSUMED : Rat)) && cause == 0
      { x with
        devNow := some e.2, noSync := 0
        exch := if x.doneAt.isNone && x.remeasureAt.isNone && x.exch.length < 16 then x.exch ++ [e] else x.exch
        verify := if counted then (if ok then x.verify + 1 else 0) else x.verify })

/-- SYNC_RECEIVED (R68): the guardian admits a SYNC anywhere from L to 2 L - T; other frames on such a port are
discarded without a count. `mac` is the MAC time-stamp in ns from cycle start, `envOk` the checks of FCS, address and
EtherType (R98). -/
def execSyncReceived (port : Fin 48) (mac : Nat) (envOk : Bool) (f : Bytes) (s : State) : Res :=
  let p := port.val
  let h := headerOf f
  if s.portStarting p ∧ h.ty = 1 then
    let c := s.sched
    let t4 := s.planeTime p mac
    let t := t4 - sfdNs
    let s := s.linkTraffic p true f.length
    if t < (c.len : Nat) ∨ ((2 * c.len : Nat) : Rat) - wireNs f.length < t then done (s.bump (K.OUT_OF_WINDOW p))
    else
      let s := (s.bump (K.ADMITTED p)).perf 8 p 1
      if s.validUp p envOk h 1 ∧ syncLen ≤ f.length then
        let y := syncOf f
        let s := s.takeSync p t4 y
        if bit h.flags 2 then done (s.collide (y.otherNet / 128)) else done s
      else done s
  else done s

/-- Mean of a list. -/
def meanR (l : List Rat) : Rat := if l.length = 0 then 0 else l.sum / l.length

/-- Largest of a list; 0 of an empty one. -/
def maxOf : List Rat → Rat
  | [] => 0
  | x :: r => r.foldl maxR x

/-- Smallest of a list; 0 of an empty one. -/
def minOf : List Rat → Rat
  | [] => 0
  | x :: r => r.foldl minR x

/-- Publish a port's measured delay and uncertainty in units of 1/16 ns (R74, R91). -/
def State.publishDelay (s : State) (p : Nat) (l : List Rat) : State :=
  let d := meanR l
  let u := (maxOf l - minOf l) / 2 + 2
  ((s.updPort p (fun x => { x with delay := d, unc := u, recent := l })).wr (K.MEASURED_DELAY p)
    (roundHalfUp (d * 16))).wr (K.MEASURED_UNCERTAINTY p) (min (roundHalfUp (u * 16)) 65535)

/-- SYNC_MEASUREMENT_COMPLETE (R67, R48, R526): 16 exchanges are complete. -/
def execSyncMeasurementComplete (port : Fin 48) (s : State) : Res :=
  let p := port.val
  let x := s.port p
  if s.portStarting p ∧ 16 ≤ x.exch.length ∧ x.doneAt = none ∧ x.remeasureAt = none then
    let s := s.publishDelay p (x.exch.map (·.1))
    let y := s.port p
    if y.delay ≤ (s.cfN (K.PLANNED_DELAY p) : Rat) ∧ y.unc ≤ (s.cfN (K.PLANNED_UNCERTAINTY p) : Rat) then
      let d1 := ((x.exch.map (·.2)).head?).getD 0
      let d16 := ((x.exch.map (·.2)).getLast?).getD 0
      let rate := satS 16 (roundHalfUp (-(d16 - d1) * 1000000000 / (15 * s.ct : Nat)))
      done ((s.updPort p (fun z => { z with
        inPlan := true, doneAt := some s.clk.tick, initialRate := rate, verify := 0 })).chooseCorrecting (portIsland p))
    else
      done ((s.updPort p (fun z => { z with inPlan := false, remeasureAt := some (s.clk.tick + 1024) })).raise
        Ev.PORT_DELAY_PLAN p y.delay16)
  else done s

/-- PORT_REMEASURE_TIMEOUT (R67): 1,024 cycles after a measurement outside plan a new one begins. -/
def execPortRemeasureTimeout (port : Fin 48) (s : State) : Res :=
  let p := port.val
  match (s.port p).remeasureAt with
  | some k => if s.portStarting p ∧ k ≤ s.clk.tick then
      done (s.updPort p (fun x => { x with exch := [], remeasureAt := none, doneAt := none, inPlan := false }))
    else done s
  | none => done s

/-- SYNC_ABSENT_TIMEOUT (R67): no SYNC for 64 cycles restarts the count of exchanges. -/
def execSyncAbsentTimeout (port : Fin 48) (s : State) : Res :=
  let p := port.val
  if s.portStarting p ∧ 64 ≤ (s.port p).noSync then
    done ((s.updPort p (fun x => { x with
      exch := [], noSync := 0, verify := 0, doneAt := none, inPlan := false })).chooseCorrecting (portIsland p))
  else done s

/-- PORT_OPEN (R67): eight cycles within precision and no mismatch. -/
def execPortOpen (port : Fin 48) (s : State) : Res :=
  let p := port.val
  let x := s.port p
  if s.portStarting p ∧ x.inPlan ∧ 8 ≤ x.verify ∧ x.mismatch = 0 then
    let s := (s.setGuard p G.OPEN).wr (K.VIOLATION_RUN p) 0
    let s := s.updPort p (fun z => { z with cleanRun := 0, resumed := false, t1Prev := none, upIdx := 0, dnIdx := 0 })
    done (s.afterPort (portIsland p))
  else done s

/-! ### STARTUP frames (R102, R526, R115) -/

/-- CORR and RATE_ADJ of a STARTUP frame on a port, with CORR_VALID and RATE_VALID (R526). -/
def State.startupCorr (s : State) (p : Nat) : Option Int × Option Int :=
  let n := portIsland p
  let x := s.port p
  let i := s.island n
  let after : Bool := match x.doneAt with | some k => Nat.blt k s.clk.tick | none => false
  if s.integrated n = false ∧ i.correcting = some p ∧ after then
    match x.devPrev with
    | some d => (some (-(roundHalfUp (d * 65536) + i.startPrev.getD 0)), if i.rateSent then none else some x.initialRate)
    | none => (none, none)
  else (none, none)

/-- The island configuration block is being transferred on a port (R115). -/
def State.icbWanted (s : State) (p : Nat) : Bool :=
  let n := portIsland p
  present s.cf n && (s.port p).mismatch == 1 && s.rd (K.ICB_TRANSFER n) == 1

/-- The bytes of a STARTUP frame (R102). -/
def State.startupBytes (s : State) (p : Nat) (t1 : Nat) (corr rate : Option Int) : Bytes :=
  let c := s.sched
  let n := portIsland p
  let x := s.port p
  let want := s.icbWanted p
  let block := if want then icb s.cf n else []
  (s.header 2 n (portChannel p) (8 * b2n rate.isSome + 32 * b2n corr.isSome) 0xFFFF 0).bytes
    ++ leBytes 1 (s.cfN K.CYCLE_TIME) ++ leBytes 1 c.slots ++ leBytes 2 c.minis ++ leBytes 4 c.len ++ leBytes 4 c.apUp
    ++ leBytes 4 c.apDown ++ leBytes 2 c.miniLen ++ leBytes 2 c.apMini ++ leBytes 8 s.netStart ++ leBytes 4 (16 * t1)
    ++ leInt 4 (corr.getD 0) ++ leInt 2 (rate.getD 0) ++ leBytes 2 block.length
    ++ leBytes 4 (icbDigest s.cf n) ++ leBytes 2 (if want then x.icbOffset else 0)
    ++ padTo 64 (if want then slice block x.icbOffset 64 else [])

/-- A head frame still on the wire at its closing instant is cut, counted and reported (R53). -/
def State.headOverrun (s : State) (p : Nat) : State :=
  (s.bump (K.HEAD_OVERRUN p)).raise Ev.HEAD_OVERRUN p (s.port p).delay16

/-- STARTUP_SEND (R64, R67, R102): in downstream slot 0 of a port that is starting up, in COLDSTART and OPERATE. `late`
is by how many ns the frame starts after its action point. -/
def execStartupSend (port : Fin 48) (late : Nat) (s : State) : Res :=
  let p := port.val
  let n := portIsland p
  if (s.netState = N.COLDSTART ∨ s.netState = N.OPERATE) ∧ s.portStarting p then
    let c := s.sched
    let start := c.apDown + late
    if c.len < start + wireNs startupLen then done (s.headOverrun p)
    else
      let (corr, rate) := s.startupCorr p
      let f := s.startupBytes p (start + sfdNs) corr rate
      let blockLen := if s.icbWanted p then icbLength s.cf n else 0
      let s := s.updPort p (fun x => { x with
        t1 := some ((start + sfdNs : Nat) : Rat)
        icbOffset := if blockLen = 0 then 0 else if x.icbOffset + 64 < blockLen then x.icbOffset + 64 else 0 })
      let s := s.updIsland n (fun i => { i with
        startNow := if corr.isSome then corr else i.startNow, rateSent := i.rateSent || rate.isSome })
      done (s.sendFrame p start f)
  else done s

end Sys2Proof.Machine
end

