-- ==== Sys2Proof/Machine/Sync.lean ====
section
/-! DEFINITION. One network time: the averaging of deviations, corrections, rates and the steering towards PTP
(R76 to R80, R86). -/

namespace Sys2Proof.Machine

open Sys2Proof

/-- Both heads are ACTIVE (R86). -/
def State.dhActive (s : State) : Bool := s.dhState == DH.ACTIVE

/-- The deviation of a port in this cycle: this head's, or in dual-head mode the other head's (in 2^-16 ns). -/
def State.devOf (s : State) (peer : List (Nat × Int)) (p : Nat) : Option Rat :=
  match (s.port p).devNow with
  | some d => some d
  | none => if s.dhActive then (SMap.find peer p).map (fun v => (v : Rat) / 65536) else none

/-- The port's state lets its deviation into the sync set: OPEN, or a port of the other head. -/
def State.devOpen (s : State) (peer : List (Nat × Int)) (p : Nat) : Bool :=
  s.guard p == G.OPEN || (s.dhActive && (s.port p).devNow.isNone && (SMap.find peer p).isSome)

/-- An island's deviation over the ports that `use` picks, if any has one. -/
def State.islandDev (s : State) (peer : List (Nat × Int)) (use : Nat → Bool) (n : Nat) : Option Rat :=
  let l := ([n, 24 + n].filter use).filterMap (s.devOf peer)
  if l.isEmpty then none else some (meanR l)

/-- The sync set's deviations: the head's 0, and each island of SYNC_ISLAND_MASK with an OPEN port measured (R76). -/
def State.syncSet (s : State) (peer : List (Nat × Int)) : List Rat :=
  0 :: ((List.range 24).filter (fun n => bit (s.rdN K.SYNC_ISLAND_MASK) n)).filterMap
    (s.islandDev peer (s.devOpen peer))

/-- Insert into an ascending list. -/
def insertAsc (x : Rat) : List Rat → List Rat
  | [] => [x]
  | y :: r => if x ≤ y then x :: y :: r else y :: insertAsc x r

/-- Sort ascending. -/
def sortAsc (l : List Rat) : List Rat := l.foldl (fun a x => insertAsc x a) []

/-- The retained deviations: without the `k` smallest and `k` largest (R77). -/
def retained (l : List Rat) (k : Nat) : List Rat := ((sortAsc l).drop k).take (l.length - 2 * k)

/-- A time in ns as 2^-16 ns. -/
def fix16 (x : Rat) : Int := roundHalfUp (x * 65536)

/-- The external term towards TAI (R79). Without a locked slave the last rate is held; a junior head without the strait
link holds it as well (R86). -/
def State.extUpdate (s : State) : State :=
  if s.rd K.EXT_MODE = 0 then
    ((s.wr K.EXT_STATE 0).wr K.EXT_RATE 0).updNet (fun x => { x with extRate := 0, extStep := 0 })
  else
    let hold := s.dhRole = 2 ∧ s.straitUp = false
    let s :=
      if hold then s
      else if s.ptpLocked then
        let x : Int := ((s.clk.startNow : Int) + s.clk.wall.getD 0) - s.netStart
        let s := s.wr K.EXT_OFFSET (satS 32 x)
        if s.rd K.EXT_STEP_LIMIT < x.natAbs then
          ((s.wr K.EXT_STATE 3).updNet (fun y => { y with extRate := 0 })).raise Ev.PTP_OFFSET_LARGE
            (toUnsigned 32 (satS 32 x)) s.cycle
        else
          let lim : Rat := s.rd K.EXT_RATE_MAX
          let r := maxR (-lim) (minR lim ((x : Rat) / (s.rd K.EXT_TIME_CONSTANT : Rat)))
          (s.wr K.EXT_STATE 1).updNet (fun y => { y with extRate := r })
      else if s.rd K.EXT_STATE = 2 then s
      else (s.wr K.EXT_STATE 2).raiseU Ev.PTP_HOLDOVER none (some s.cycle) []
    (s.wr K.EXT_RATE (roundHalfUp s.net.extRate)).updNet (fun y => { y with
      extStep := fix16 (y.extRate * (s.ct : Rat) / 1000000000) })

/-- The corrections of one island: corr_i = step - dev_i, 0 where no port has a measurement (R77). -/
def State.correctIsland (s : State) (peer : List (Nat × Int)) (step : Int) (n : Nat) : State :=
  if s.integrated n then
    let d := s.islandDev peer (fun p => s.portOpen p || s.devOpen peer p) n
    let c := match d with
      | some d => step - fix16 d
      | none => step
    let member := !(bit (s.rdN K.SYNC_ISLAND_MASK) n) || (s.islandDev peer (s.devOpen peer) n).isSome
    let s := match d with
      | some d => s.wr (K.ISLAND_DEVIATION n) (satS 32 (roundHalfUp (d * 256)))
      | none => s
    s.updIsland n (fun i => { i with
      corr := if s.dhActive then i.corrPrev else c
      corrPrev := c
      roundSum := i.roundSum + c
      roundIn := if member then i.roundIn + 1 else i.roundIn })
  else s

/-- SYNC_CORRECTION (R76, R77, R79): once per cycle after slot 0. `peer` are the deviations the other head measured by
port (R86). -/
def execSyncCorrection (peer : List (Nat × Int)) (s : State) : Res :=
  if s.netState = N.COLDSTART ∨ s.netState = N.OPERATE then
    let l := s.syncSet peer
    let ns := l.length
    let k := min (s.rdN K.K_DISCARD) ((ns - 1) / 3)
    let v := retained l k
    let lim : Int := s.rd K.STEP_MAX * 65536
    let step := clampI (-lim) lim (fix16 (meanR v))
    let s := if k ≠ s.net.kLast ∧ (k : Int) < s.rd K.K_DISCARD then s.raise Ev.SYNC_K_REDUCED k s.cycle else s
    let s := ((((s.wrN K.SYNC_NODES_USED ns).wrN K.K_USED k).wr K.LAST_STEP (satS 32 (shrHalfUp step 8))).wr
      K.PRECISION_ESTIMATE (min (roundHalfUp (maxOf v - minOf v)) 65535))
    let own := if s.dhActive then s.net.stepPrev else step
    let s := (s.updNet (fun x => { x with
      kLast := k, round := x.round + 1, stepSum := x.stepSum + own, stepPrev := step })).updClk
      (fun c => { c with stepPending := own })
    let s := foldS (fun s n => s.correctIsland peer step n) s (List.range 24)
    done s.extUpdate
  else done s

/-- The least idle time of R45, ns: 0.5 µs, and the largest planned delay plus the largest margin of enabled ports. -/
def leastIdle (s : State) (g : Nat → Int) : Nat :=
  let ports := (List.range 48).filter (fun p => s.rd (K.ENABLE p) = 1)
  let d := ports.foldl (fun a p => max a (nat g (K.PLANNED_DELAY p))) 0
  let m := ports.foldl (fun a p => max a (margin g p)) 0
  max 500 (d + m)

/-- CLOCK_CORRECTION_APPLY (R77): the head's step and external step change the idle time; a shortening below the least
idle time is carried into the next cycle. -/
def execClockCorrectionApply (s : State) : Res :=
  if s.netState = N.COLDSTART ∨ s.netState = N.OPERATE then
    let total := s.clk.stepPending + s.net.extStep + s.clk.stepCarry
    let low : Int := -((idleTime s.cf - leastIdle s s.cf) * 65536)
    let applied := if total < low then low else total
    done ((s.updClk (fun c => { c with idleChange := applied, stepCarry := total - applied, stepPending := 0 })).updNet
      (fun x => { x with extStep := 0 }))
  else done s

/-- A sum of corrections over a round as a rate in ppb, clamped to ±RATE_STEP_MAX (R78). -/
def State.roundRate (s : State) (sum : Int) : Int :=
  let lim := s.rd K.RATE_STEP_MAX
  clampI (-lim) lim (roundHalfUp ((sum : Rat) * 1000000000 / ((65536 * s.net.round * s.ct : Nat) : Rat)))

/-- One island at the end of a rate round (R78): one that joined during the round is left out. -/
def State.rateIsland (s : State) (n : Nat) : State :=
  let i := s.island n
  let full := s.integrated n && i.roundIn == s.net.round
  let r := s.roundRate i.roundSum
  let s := if full then s.wr (K.ISLAND_RATE_CORR n) r else s
  s.updIsland n (fun i => { i with rateAdj := if full then some r else none, roundSum := 0, roundIn := 0 })

/-- RATE_ROUND_END (R78). -/
def execRateRoundEnd (s : State) : Res :=
  if s.net.round ≠ 0 ∧ s.rdN K.RATE_ROUND ≤ s.net.round then
    let r := s.roundRate s.net.stepSum
    let s := foldS State.rateIsland s (List.range 24)
    done ((s.updNet (fun x => { x with round := 0, stepSum := 0 })).updClk (fun c => { c with headRate := c.headRate + r }))
  else done s

end Sys2Proof.Machine
end

