-- ==== Sys2Proof/Machine/Schedule.lean ====
section
/-! DEFINITION. The commit of a schedule (R38 to R45, R59, R524). -/

namespace Sys2Proof.Machine

open Sys2Proof

/-- A slot's role entry (R61): upstream 0 or 3, downstream 0, 3 or 4. -/
def slotRoleOk (v : Int) : Bool :=
  let u := field v.toNat 0 4
  let d := field v.toNat 4 4
  decide (0 ≤ v ∧ v < 256) && (u == 0 || u == 3) && (d == 0 || d == 3 || d == 4)

/-- An owner entry (R61): island to 23, direction, service to 3, every other bit 0. -/
def minislotOwnerOk (v : Int) : Bool :=
  let n := v.toNat
  decide (0 ≤ v) && n == field n 0 5 + 128 * field n 7 1 + 256 * field n 8 2 && decide (field n 0 5 < 24)

/-- A value of the schedule set is in range (R59, check 1). -/
def schedValueOk (k : Nat) (v : Int) : Bool :=
  match odRow k with
  | none => false
  | some r => match r.range with
    | .special .slotRole => slotRoleOk v
    | .special .minislotOwner => minislotOwnerOk v
    | x => r.ty.holds v && x.plain v

/-- The ports in the order of R524: ascending island, A before B. -/
def portsByIsland : List Nat := (List.range 24).flatMap (fun n => [n, 24 + n])

/-- A failure of a commit: the fields of SCHED_COMMIT_RESULT (R524). -/
structure SchedFail where
  code : Nat
  mid : Nat
  high : Nat
  deriving DecidableEq, Repr

/-- SCHED_COMMIT_RESULT of a failure. -/
def SchedFail.word (f : SchedFail) : Nat := f.code + 256 * f.mid + 65536 * f.high

/-- The enabled ports in order. -/
def State.enabledPorts (s : State) : List Nat := portsByIsland.filter (fun p => s.rd (K.ENABLE p) = 1)

/-- Check 2 for one action point (R38, R524). -/
def apCheck (s : State) (g : Nat → Int) (which ap len : Nat) : Option SchedFail :=
  if len ≤ ap then some ⟨3, 0xFF, which⟩
  else match s.enabledPorts.find? (fun p => decide (ap < margin g p)) with
    | some p => some ⟨3, portIsland p, which⟩
    | none => none

/-- The lengths (bytes after the EtherType) of the longest frames of a slot on a port, with their action points,
upstream first (R39, R96, R524). `c` is the active configuration. -/
def slotFrames (g c : Nat → Int) (n k : Nat) (configured : Bool) : List (Nat × Nat) :=
  let up := nat g K.AP_UP
  let dn := nat g K.AP_DOWN
  if configured = false then
    if k = 0 then [(dn, startupLen)] else if k = 1 then [(up, syncLen)] else []
  else if k = 0 then [(up, cyclicLen c n false), (dn, startupLen)]
  else if k = 1 then [(up, syncLen), (dn, cyclicLen c n true)]
  else if slotMask g k n then
    (if upRole g k = 3 then [(up, pointsLen c n false)] else [])
      ++ (if downRole g k = 3 then [(dn, pointsLen c n true)]
          else if downRole g k = 4 then [(dn, relayLen)] else [])
  else []

/-- Check 3 on one port: the first slot that does not fit (R39). -/
def slotFit (g c : Nat → Int) (p : Nat) : Option SchedFail :=
  let n := portIsland p
  let conf := present c n
  let len := nat g K.SLOT_LENGTH
  match (List.range (nat g K.STATIC_SLOTS)).find? (fun k => (slotFrames g c n k conf).any (fun e =>
      decide (len < e.1 + wireNs e.2 + nat g (K.PLANNED_DELAY p) + margin g p))) with
  | some k => some ⟨4, n, k⟩
  | none => none

/-- An owner entry is allowed (R40, R59 check 6). -/
def ownerAllowed (c : Nat → Int) (o : Nat) : Bool :=
  ownerService o == 0 || (present c (ownerIsland o) && Nat.ble (ownerService o) 3
    && !(ownerDown o && ownerService o == 3))

/-- The axis-cycle load limit at a cycle time (R20, R21). -/
def loadOk (c : Nat → Int) (ct : Nat) : Bool := Nat.ble ((axesOn c).length * 1000000000) (4096000 * ct)

/-- No graph-mode axis below 62.5 µs (R157). -/
def graphTimeOk (c : Nat → Int) (ct : Nat) : Bool :=
  Nat.ble 62500 ct || (List.range 32).all (fun e => decide (127 < c (K.GRAPH_AXIS e)))

/-- The first of a list of results. -/
def firstSome {α : Type} : List (Unit → Option α) → Option α
  | [] => none
  | f :: r => match f () with
    | some x => some x
    | none => firstSome r

/-- Checks 1 to 7 of a commit (R59) of the schedule values `g` against the active configuration `c`. -/
def schedCheck (s : State) (g c : Nat → Int) : Option SchedFail :=
  firstSome [
    fun _ => ((s.od.filter (fun e => isSched e.1)).find? (fun e => !schedValueOk e.1 e.2)).map
      (fun e => ⟨2, e.1 % 256, e.1 / 256⟩),
    fun _ => apCheck s g 0 (nat g K.AP_UP) (nat g K.SLOT_LENGTH),
    fun _ => apCheck s g 1 (nat g K.AP_DOWN) (nat g K.SLOT_LENGTH),
    fun _ => apCheck s g 2 (nat g K.AP_MINISLOT) (nat g K.MINISLOT_LENGTH),
    fun _ => s.enabledPorts.findSome? (slotFit g c),
    fun _ => if idleTime g < leastIdle s g then some ⟨5, 0, 0⟩ else none,
    fun _ => ((List.range 16).find? (fun m => bit (s.rdN (K.MARK_CONTROL m)) 0
      && Nat.ble (cycleNs (nat g K.CYCLE_TIME)) (s.rdN (K.MARK_OFFSET m)))).map (fun m => ⟨6, 0, m⟩),
    fun _ => ((List.range (nat g K.MINISLOTS)).find? (fun id => !ownerAllowed c (owner g id))).map
      (fun id => ⟨7, ownerIsland (owner g id), id⟩),
    fun _ => if loadOk c (cycleNs (nat g K.CYCLE_TIME)) && graphTimeOk c (cycleNs (nat g K.CYCLE_TIME)) then none
      else some ⟨8, 0, 0⟩]

/-- The schedule entries of a map. -/
def schedPart (m : SMap Int) : SMap Int := m.filter (fun e => isSched e.1)

/-- The write of the key to SCHED_COMMIT (R59). -/
def schedCommit (s : State) : WRes :=
  match s.integratedList with
  | n :: _ => (s.wrN K.SCHED_COMMIT_RESULT (SchedFail.word ⟨1, n, 0⟩), .refused)
  | [] =>
    match schedCheck s s.rd s.cf with
    | some f => (s.wrN K.SCHED_COMMIT_RESULT f.word, .refused)
    | none =>
      let s := (({ s with com := some (schedPart s.od) }).wr K.SCHED_COMMIT_RESULT 0).bump K.SCHED_COMMITS
      let s := if s.netState = N.OFF then s.activateSchedule else s
      .ok (s.raise Ev.SCHED_COMMIT 0 0x2000)

/-- SCHED_COMMIT. -/
def execSchedCommit (s : State) : Res := answered (schedCommit s)

end Sys2Proof.Machine
end

