-- ==== Sys2Proof/Machine/Access.lean ====
section
/-! DEFINITION. Range checks of written values (R16, R325 check 9), those that depend on other entries among them. -/

namespace Sys2Proof.Machine

open Sys2Proof

/-- The REAL32 value of a written pattern. -/
def realOf (v : Int) : Rat := real32 v.toNat

/-- Point run entry (R304): a type to 4, and no bit outside the descriptor. -/
def mapRunOk (v : Int) : Bool :=
  let n := v.toNat
  decide (field n 16 3 ≤ 4) && field n 23 9 == 0

/-- A contiguous network mask. -/
def maskOk (v : Int) : Bool := (List.range 33).any (fun k => v == ((2 ^ 32 - 2 ^ (32 - k) : Nat) : Int))

/-- Cycle mark control (R61): enable, event, pin, width. -/
def markControlOk (v : Int) : Bool := decide (0 ≤ v ∧ v < 65536)

/-- Ranges that depend on other entries. -/
def specialOk (s : State) (k : Nat) (v : Int) : SpecialRange → Bool
  | .slotRole => slotRoleOk v
  | .minislotOwner => minislotOwnerOk v
  | .markOffset => decide (0 ≤ v ∧ v < s.ct)
  | .markControl => markControlOk v
  | .syncIslandMask => decide (0 ≤ v ∧ v < 2 ^ 24)
  | .posDiv => (v == 1 || v == 2 || v == 4) && v % (max 1 (s.rd (k - 1))) == 0
  | .lead => realOf v == 0 || decide (b32 (1 / 1000000000) ≤ realOf v ∧ realOf v ≤ 10)
  | .withinImax => decide (absR (realOf v) ≤ s.rdR (odKey (k / 256 + 11) 1))
  | .realNonneg => decide (0 ≤ realOf v)
  | .realPos => decide (0 < realOf v)
  | .realNonzero => realOf v != 0
  | .loadedProgram => v == 65535 || (decide (v < 64) && s.rd (K.FP_STATE v.toNat) == 1)
  | .overspeed => decide (s.rd (k - 1) ≤ v)
  | .softMin => decide (v < s.rd (k + 1))
  | .softMax => decide (s.rd (k - 1) < v)
  | .upToImax => decide (b32 (1 / 100) ≤ realOf v) && decide (realOf v ≤ s.rdR (odKey ((k / 256) / 32 * 32 + 12) 1))
  | .upToIrun => decide (0 ≤ realOf v ∧ realOf v ≤ s.rdR (k - 1))
  | .upToVelMax => decide (1 ≤ v ∧ v ≤ s.rd (odKey ((k / 256) / 32 * 32 + 12) 4))
  | .upToSearchVel => decide (1 ≤ v ∧ v ≤ s.rd (k - 1))
  | .fastBitInput => decide (v < 262144) || v == 0xFFFF_FFFF
  | .upToSegAlloc => decide (v ≤ s.cf (odKey (k / 256) 1))
  | .withinVelMax => decide (v.natAbs ≤ s.rd (odKey ((k / 256) / 32 * 32 + 12) 4))
  | .nonzero => v != 0
  | .masterRef => decide (v < if s.rd (k - 1) = 3 then 8 else 128)
  | .mapRun => mapRunOk v
  | .contiguousMask => maskOk v
  | _ => true

/-- A written value lies inside its type and range (R325, check 9). -/
def valueOk (s : State) (k : Nat) (v : Int) : Bool :=
  match odRow k with
  | none => false
  | some r => r.ty.holds v && match r.range with
    | .special x => specialOk s k v x
    | x => x.plain v

end Sys2Proof.Machine
end

