-- ==== Sys2Proof/Machine/Loops.lean ====
section
/-! DEFINITION. Stage arithmetic and the control law (R163 to R180): block floating point, coefficients, gain table,
insertion points, outer stages, current stage, and the chain of one axis-cycle. -/

namespace Sys2Proof.Machine

open Sys2Proof

/-! ### Block floating point (R12, R13, R166, R168) -/

/-- The quantum of a stage exponent (R12). -/
def quantum (e : Int) : Rat := pow2 (e - 23)

/-- An exact number of quanta leaves an accumulator: rounded half up and saturated to 24 bits (R13, R308). -/
def leave (x : Rat) : Int := satS 24 (roundHalfUp x)

/-- That value saturates. -/
def leaves (x : Rat) : Bool := satS 24 (roundHalfUp x) != roundHalfUp x

/-- A value enters a stage (R166). -/
def toStage (e : Int) (x : Rat) : Int := leave (x / quantum e)

/-- It saturates on entering. -/
def toStageSat (e : Int) (x : Rat) : Bool := leaves (x / quantum e)

/-- The value of a mantissa. -/
def ofStage (e m : Int) : Rat := (m : Rat) * quantum e

/-- Mantissa and coefficient exponent (R168). -/
def coefOf (c : Rat) : Int × Int :=
  if c = 0 then (0, 0)
  else
    let e := ilog2 (absR c) + 1
    let m := roundHalfUp (c * pow2 (23 - e))
    if m = 2 ^ 23 then (2 ^ 22, e + 1) else (m, e)

/-- The value a converted coefficient stands for (R168). -/
def coefVal (c : Rat) : Rat := ((coefOf c).1 : Rat) * pow2 ((coefOf c).2 - 23)

/-- Velocity in turns/s of R8 units. -/
def turnsOf (v : Int) : Rat := (v : Rat) / 65536

/-- R8 units of a velocity in turns/s, rounded half up and saturated. -/
def r8Of (v : Rat) : Int := satS 32 (roundHalfUp (v * 65536))

/-! ### Gain table (R175 to R177) -/

/-- Coefficients of an outer stage: exponent, gains, derivative filter, feed-forward, limit in quanta, gain table,
anti-windup. -/
structure Law where
  e : Int
  kp : Rat
  kits : Rat
  kd : Rat
  alphaD : Option Rat
  ff : Rat
  lim : Int
  scaleKi : Bool
  gtX : List Int
  gtY : List Rat
  gtS : List Rat
  directional : Bool
  hold : Bool
  deriving DecidableEq, Repr

/-- Segment, factor and slope of an error magnitude, breakpoints from index `k` (R176). -/
def gainFrom (L : Law) (ae : Int) : Nat → List Int → Nat × Rat × Rat
  | k, [] => (k, L.gtY.getD (k - 1) 1, 0)
  | k, x :: r =>
    if ae ≤ x then
      if k = 0 then (0, L.gtY.getD 0 1, 0)
      else (k, L.gtY.getD (k - 1) 1 + L.gtS.getD (k - 1) 0 * ofStage L.e (ae - L.gtX.getD (k - 1) 0), L.gtS.getD (k - 1) 0)
    else gainFrom L ae (k + 1) r

/-- The gain table at an error magnitude: segment, factor and slope (R176); off, the factor is 1. At the last
breakpoint the segment is the number of breakpoints. -/
def gainAt (L : Law) (ae : Int) : Nat × Rat × Rat :=
  match L.gtX with
  | [] => (0, 1, 0)
  | x :: r =>
    if ae ≤ x then (0, L.gtY.getD 0 1, 0)
    else if L.gtX.getD (L.gtX.length - 1) 0 ≤ ae then (L.gtX.length, L.gtY.getD (L.gtX.length - 1) 1, 0)
    else gainFrom L ae 1 r

/-! ### Insertion points (R178 to R180) -/

/-- Biquad coefficients b0, b1, b2, a1, a2. -/
structure BiqCo where
  b0 : Rat
  b1 : Rat
  b2 : Rat
  a1 : Rat
  a2 : Rat
  deriving DecidableEq, Repr

/-- The active elements of a point. -/
structure PtCo where
  lp : Option Rat := none
  b1 : Option BiqCo := none
  b2 : Option BiqCo := none
  deriving DecidableEq, Repr

/-- Coefficients of a biquad (R180): type 1 NOTCH, 2 LOW_PASS; `k` is K. -/
def biqCo (ty : Nat) (f0 width depth k : Rat) : Option BiqCo :=
  if ty = 1 then
    let q := f0 / width
    let n := 1 / (1 + k / q + k * k)
    let b1 := 2 * (k * k - 1) * n
    some {
      b0 := coefVal ((1 + depth * k / q + k * k) * n), b1 := coefVal b1, b2 := coefVal ((1 - depth * k / q + k * k) * n),
      a1 := coefVal b1, a2 := coefVal ((1 - k / q + k * k) * n) }
  else if ty = 2 then
    let n := 1 / (1 + 2 * width * k + k * k)
    let b0 := k * k * n
    some {
      b0 := coefVal b0, b1 := coefVal (2 * b0), b2 := coefVal b0, a1 := coefVal (2 * (k * k - 1) * n),
      a2 := coefVal ((1 - 2 * width * k + k * k) * n) }
  else none

/-- Low-pass: output in exact quanta. -/
def lpOut (al : Rat) (y x : Int) : Rat := (y : Rat) + al * ((x : Rat) - y)

/-- Biquad: output in exact quanta. -/
def biqOut (c : BiqCo) (s : Biq) (x : Int) : Rat := c.b0 * x + c.b1 * s.x1 + c.b2 * s.x2 - c.a1 * s.y1 - c.a2 * s.y2

/-- A biquad's delay words after an execution. -/
def Biq.next (s : Biq) (x y : Int) : Biq := { x1 := x, x2 := s.x1, y1 := y, y2 := s.y1 }

/-- The linear elements of a point (R179): output, state after, saturation. -/
def linRun (c : PtCo) (st : PointSt) (x : Int) : Int × PointSt × Bool :=
  let y0 := match c.lp with
    | some al => leave (lpOut al st.lp x)
    | none => x
  let s0 : Bool := match c.lp with
    | some al => leaves (lpOut al st.lp x)
    | none => false
  let st0 : PointSt := if c.lp.isSome then { st with lp := y0 } else st
  let y1 := match c.b1 with
    | some b => leave (biqOut b st.b1 y0)
    | none => y0
  let s1 : Bool := match c.b1 with
    | some b => leaves (biqOut b st.b1 y0)
    | none => false
  let st1 : PointSt := if c.b1.isSome then { st0 with b1 := st.b1.next y0 y1 } else st0
  let y2 := match c.b2 with
    | some b => leave (biqOut b st.b2 y1)
    | none => y1
  let s2 : Bool := match c.b2 with
    | some b => leaves (biqOut b st.b2 y1)
    | none => false
  let st2 : PointSt := if c.b2.isSome then { st1 with b2 := st.b2.next y1 y2 } else st1
  (y2, st2, s0 || s1 || s2)

/-- How a point runs its filter program: from state and input, the invocation's outcome; none where no program of
non-zero length is selected (R314). -/
abbrev FpRun := Option (FpUse → Int → FpOut)

/-- What an execution of a point gives. -/
structure PtOut where
  y : Int
  st : PointSt
  sat : Bool
  fp : Option FpOut
  deriving DecidableEq, Repr

/-- An execution of a point (R179). -/
def ptRun (c : PtCo) (f : FpRun) (st : PointSt) (x : Int) : PtOut :=
  let l := linRun c st x
  match f with
  | none => { y := l.1, st := l.2.1, sat := l.2.2, fp := none }
  | some g =>
    let o := g st.fp l.1
    { y := o.y, st := { l.2.1 with fp := o.use }, sat := l.2.2 || o.sat, fp := some o }

/-- Every delay word equals the input; the filter program's state is 0 (R189). -/
def ptSteady (x : Int) : PointSt :=
  { lp := x, b1 := { x1 := x, x2 := x, y1 := x, y2 := x }, b2 := { x1 := x, x2 := x, y1 := x, y2 := x }, fp := {} }

/-! ### Outer stages (R169, R172 to R174) -/

/-- An execution of an outer stage. -/
structure OuterOut where
  st : OuterSt
  run : StageRun
  sat : Bool
  deriving DecidableEq, Repr

/-- The control law of R169 at an error `err` (after the insertion points), derivative input `dm` (exact quanta),
feed-forward value `ff` and inner direction. `satIn`: a value saturated on the way in. -/
def outerRun (L : Law) (w : OuterSt) (err : Int) (dm : Rat) (ff innerDir : Int) (satIn : Bool) : OuterOut :=
  let i := clampI (-L.lim) L.lim w.i
  let g := gainAt L err.natAbs
  let gi : Rat := if L.scaleKi then g.2.1 else 1
  let dfx : Rat := match L.alphaD with
    | some al => (w.df : Rat) + al * (dm - w.df)
    | none => dm
  let df := leave dfx
  let ux : Rat := L.kp * g.2.1 * err + i - L.kd * df + L.ff * ff
  let u := leave ux
  let dir : Int := if L.lim < u then 1 else if u < -L.lim then -1 else if L.hold then innerDir else 0
  let ix : Rat := (i : Rat) + L.kits * gi * err
  let i' := if dir = 0 ∨ (L.directional ∧ err.sign = -dir) then clampI (-L.lim) L.lim (leave ix) else i
  { st := { w with i := i', df := df, dir := dir, seg := g.1, out := clampI (-L.lim) L.lim u }
    run := { e := err, u := u, dir := dir, seg := g.1 }
    sat := satIn || leaves ux || (L.kd != 0 && leaves dfx) }

/-! ### Current stage (R170 to R172) -/

/-- Coefficients of the current stage. -/
structure CurLaw where
  e : Int
  kp : Rat
  kits : Rat
  lim : Int
  deriving DecidableEq, Repr

/-- PI output of a component: error, output, saturation. -/
def curRun (L : CurLaw) (i set fb : Int) : Int × Int × Bool :=
  let err := satS 24 (set - fb)
  let ux : Rat := L.kp * err + clampI (-L.lim) L.lim i
  (err, leave ux, err != set - fb || leaves ux)

/-- A component's integrator after an execution (R171, R172); in an alignment anti-windup is inactive (R220). -/
def curInt (L : CurLaw) (i err dir : Int) (align : Bool) : Int :=
  let i0 := clampI (-L.lim) L.lim i
  if align ∨ dir = 0 ∨ err.sign = -dir then clampI (-L.lim) L.lim (leave ((i0 : Rat) + L.kits * err)) else i0

/-! ### The chain (R163 to R165, R195) -/

/-- What an execution of the chain needs besides words and measured inputs: which stages run, coefficients, points,
profile, the velocity set-point where the position stage is open (turns/s), the current set-point where the velocity
stage is open (A), set-points given directly (R220, R221), the angle of R216 (turns) on a two-bridge axis, and the
clamp of R433. -/
structure Ctx where
  runPos : Bool
  runVel : Bool
  closed : Nat
  threePhase : Bool
  pos : Law
  vel : Law
  cur : CurLaw
  velTs : Rat
  pt0 : PtCo
  pt1 : PtCo
  pt2 : PtCo
  pt3 : PtCo
  fp0 : FpRun
  fp1 : FpRun
  fp2 : FpRun
  fp3 : FpRun
  prof : Profile
  velSet : Rat
  iqSet : Rat
  direct : Option (Rat × Rat)
  theta : Rat
  align : Bool
  vClamp : Option Rat

/-- What an execution of the chain gives: the words but for the current stage's integrators and dirs, the executions,
the set-points, errors and PI outputs of the components, saturation in the position, velocity and current stage, and the
invocations by point. -/
structure ChainOut where
  words : Words
  pos : Option StageRun
  vel : Option StageRun
  e0 : Int
  e1 : Int
  u0 : Int
  u1 : Int
  satP : Bool
  satV : Bool
  satC : Bool
  fps : List (Nat × FpOut)
  deriving DecidableEq, Repr

/-- Direction of the inner stage of the velocity stage at its last execution (R169). -/
def velInner (c : Ctx) (w : Words) : Int :=
  if c.threePhase then w.d1 else if w.d0 ≠ 0 ∨ w.d1 ≠ 0 then w.vel.out.sign else 0

/-- The position error in turns: the exact 64-bit difference (R166). -/
def posErr (p fb : Int) : Rat := (wrapS 64 (p - fb) : Rat) * pow2 (-32)

/-- The position stage, if it runs. -/
def chainPos (c : Ctx) (w : Words) (inp : Inputs) : Words × Option StageRun × Bool × List (Nat × FpOut) :=
  if !c.runPos then (w, none, false, [])
  else
    let x := posErr c.prof.p inp.pos
    let p := ptRun c.pt0 c.fp0 w.pt0 (toStage c.pos.e x)
    let o := outerRun c.pos w.pos p.y (toStage c.pos.e (turnsOf inp.speed)) (toStage c.pos.e c.prof.v) w.vel.dir
      (toStageSat c.pos.e x || p.sat)
    ({ w with pos := o.st, pt0 := p.st }, some o.run, o.sat, (p.fp.map (fun f => (0, f))).toList)

/-- The velocity set-point, turns/s, before VEL_SET (R165, R190, R433). -/
def velSetOf (c : Ctx) (w : Words) : Rat :=
  let v := if 3 ≤ c.closed then ofStage c.pos.e w.pos.out else c.velSet
  match c.vClamp with
  | some l => if l < v then l else if v < -l then -l else v
  | none => v

/-- The velocity stage, if it runs; `inner` is its inner stage's direction. -/
def chainVel (c : Ctx) (w : Words) (inp : Inputs) (inner : Int) : Words × Option StageRun × Bool × List (Nat × FpOut) :=
  if !c.runVel then (w, none, false, [])
  else
    let vs := velSetOf c w
    let p1 := ptRun c.pt1 c.fp1 w.pt1 (toStage c.vel.e vs)
    let p2 := ptRun c.pt2 c.fp2 w.pt2 (toStage c.vel.e (turnsOf inp.speed))
    let err := satS 24 (p1.y - p2.y)
    let o := outerRun c.vel w.vel err (((p2.y - w.vel.fbPrev : Int) : Rat) / c.velTs) (toStage c.vel.e c.prof.a) inner
      (toStageSat c.vel.e vs || toStageSat c.vel.e (turnsOf inp.speed) || p1.sat || p2.sat || err != p1.y - p2.y)
    ({ w with vel := { o.st with fbPrev := p2.y }, pt1 := p1.st, pt2 := p2.st }, some o.run, o.sat,
      (p1.fp.map (fun f => (1, f))).toList ++ (p2.fp.map (fun f => (2, f))).toList)

/-- The component set-points of a torque current: the q component on a three-phase axis (R170), the rotation of R216 on a
two-bridge axis. -/
def setPair (c : Ctx) (iq : Int) : Int × Int :=
  if c.threePhase then (0, iq)
  else (leave (-(iq : Rat) * Config.sinTurn c.theta), leave ((iq : Rat) * Config.cosTurn c.theta))

/-- The current stage up to its PI outputs. -/
def chainCur (c : Ctx) (w : Words) (inp : Inputs) : Words × (Int × Int × Bool) × (Int × Int × Bool) × List (Nat × FpOut) :=
  match c.direct with
  | some d =>
    let s0 := toStage c.cur.e d.1
    let s1 := toStage c.cur.e d.2
    let r0 := curRun c.cur w.i0 s0 (toStage c.cur.e inp.i0)
    let r1 := curRun c.cur w.i1 s1 (toStage c.cur.e inp.i1)
    ({ w with set := some (s0, s1) }, r0,
      (r1.1, r1.2.1, r1.2.2 || toStageSat c.cur.e d.1 || toStageSat c.cur.e d.2 || toStageSat c.cur.e inp.i0
        || toStageSat c.cur.e inp.i1), [])
  | none =>
    let iq := if 2 ≤ c.closed then ofStage c.vel.e w.vel.out else c.iqSet
    let p := ptRun c.pt3 c.fp3 w.pt3 (toStage c.cur.e iq)
    let sp := setPair c p.y
    let r0 := curRun c.cur w.i0 sp.1 (toStage c.cur.e inp.i0)
    let r1 := curRun c.cur w.i1 sp.2 (toStage c.cur.e inp.i1)
    ({ w with set := some sp, pt3 := p.st }, r0,
      (r1.1, r1.2.1, r1.2.2 || p.sat || toStageSat c.cur.e iq || toStageSat c.cur.e inp.i0 || toStageSat c.cur.e inp.i1),
      (p.fp.map (fun f => (3, f))).toList)

/-- The chain of one axis-cycle, in the order position, velocity, current (R165). -/
def chain (c : Ctx) (w : Words) (inp : Inputs) : ChainOut :=
  let inner := velInner c w
  let p := chainPos c w inp
  let v := chainVel c p.1 inp inner
  let k := chainCur c v.1 inp
  { words := k.1, pos := p.2.1, vel := v.2.1, e0 := k.2.1.1, e1 := k.2.2.1.1, u0 := k.2.1.2.1, u1 := k.2.2.1.2.1
    satP := p.2.2.1, satV := v.2.2.1, satC := k.2.1.2.2 || k.2.2.1.2.2, fps := p.2.2.2 ++ v.2.2.2 ++ k.2.2.2 }

/-- The words with the current stage's integrators and dirs (R171). -/
def integrate (c : Ctx) (o : ChainOut) (d0 d1 : Int) : Words :=
  let w := o.words
  { w with
    i0 := curInt c.cur w.i0 o.e0 d0 c.align, i1 := curInt c.cur w.i1 o.e1 d1 c.align, d0 := d0, d1 := d1 }

end Sys2Proof.Machine
end

