-- ==== Sys2Proof/Machine/Motion.lean ====
section
/-! DEFINITION. Motion generation (R230 to R261): sources, ticks, segment tables, ramps, gearing, homing,
step/direction, and the motion commands. -/

namespace Sys2Proof.Machine

open Sys2Proof

/-! ### Sources (R230) -/

/-- IDLE. -/
abbrev Src.IDLE : Nat := 0
/-- TABLE. -/
abbrev Src.TABLE : Nat := 1
/-- RAMP. -/
abbrev Src.RAMP : Nat := 2
/-- JOG. -/
abbrev Src.JOG : Nat := 3
/-- HOMING. -/
abbrev Src.HOMING : Nat := 4
/-- STEPDIR. -/
abbrev Src.STEPDIR : Nat := 5
/-- GEAR. -/
abbrev Src.GEAR : Nat := 6
/-- STOP. -/
abbrev Src.STOP : Nat := 7

/-- The profile source of an axis. -/
def State.source (s : State) (a : Nat) : Nat := s.rdN (K.SOURCE a)
/-- The set-point position p_set. -/
def State.pSet (s : State) (a : Nat) : Int := s.rd (K.SETPOINT_POS a)
/-- The motion words of an axis. -/
def State.mot (s : State) (a : Nat) : Motion := (s.axis a).mot
/-- Update the motion words. -/
def State.updMot (s : State) (a : Nat) (f : Motion → Motion) : State :=
  s.updAxis a (fun x => { x with mot := f x.mot })

/-- Set p_set. -/
def State.setP (s : State) (a : Nat) (p : Int) : State := s.wr (K.SETPOINT_POS a) (wrapS 64 p)

/-- Set v_p and a_p, with their readouts (R260). -/
def State.setVA (s : State) (a : Nat) (v acc : Rat) : State :=
  ((s.updMot a (fun m => { m with v := v, a := acc })).wr (K.PROFILE_VEL_NOW a) (r8Of v)).wr (K.PROFILE_ACC_NOW a)
    (real32Bits acc)

/-- The source becomes IDLE: p_set holds, v_p is 0 (R230). -/
def State.goIdle (s : State) (a : Nat) : State :=
  ((s.wr (K.SOURCE a) Src.IDLE).wr (K.RAMP_PHASE a) 0).setVA a 0 0

/-- A table in progress or waiting ends as ABORTED, and its queue is cleared (R243). -/
def State.abortTable (s : State) (a : Nat) : State :=
  if s.rd (K.MOVE_STATE a) = 1 ∨ s.rd (K.MOVE_STATE a) = 2 then
    ((s.wr (K.MOVE_STATE a) 4).wr (K.QUEUE_LEVEL a) 0).updMot a (fun m => { m with queue := [], begun := false, ending := 0 })
  else s

/-- A homing sequence in progress ends as ABORTED (R253). -/
def State.abortHoming (s : State) (a : Nat) : State :=
  if s.source a = Src.HOMING then (s.wr (K.HOMING_STATE a) 7).wr (K.HOMING_RESULT a) 4 else s

/-- Another source takes over. -/
def State.endSource (s : State) (a : Nat) : State := (s.abortHoming a).abortTable a

/-- A ramp's parameters: position mode and target, vmax, acc, dec_eff, v_t; no object's later value bears on it. -/
def State.setRamp (s : State) (a : Nat) (pos : Bool) (target : Int) (vmax acc dec vt : Rat) : State :=
  s.updMot a (fun m => { m with rampPos := pos, target := target, vmax := vmax, acc := acc, dec := dec, vt := vt, decKey := 0 })

/-- Source STOP: a velocity-mode ramp to 0 (R246) at the deceleration of object entry `key`, whose later values take
effect too (R245). -/
def State.startStop (s : State) (a key : Nat) (ending : Nat) : State :=
  ((s.endSource a).wr (K.SOURCE a) Src.STOP |>.setRamp a false 0 0 (s.rdR key) (s.rdR key) 0).updMot a
    (fun m => { m with ending := ending, decKey := key })

/-- The axis's index and time tag of a move. -/
def State.moveDone (s : State) (a tag : Nat) : State := s.raise Ev.MOVE_DONE a tag

/-! ### Timing of the ticks (R231) -/

/-- The velocity stage runs in this cycle (R164). -/
def velDue (g : Nat → Int) (a cyc : Nat) : Bool :=
  let d := max 1 (nat g (K.VEL_DIV a))
  cyc % d == a % d

/-- The position stage runs in this cycle (R164). -/
def posDue (g : Nat → Int) (a cyc : Nat) : Bool :=
  let d := max 1 (nat g (K.POS_DIV a))
  cyc % d == a % d

/-- The closed level of an axis (R185). -/
def State.level (s : State) (a : Nat) : Nat := s.rdN (K.CLOSED_LEVEL a)

/-- A profile tick occurs in this cycle. -/
def State.tickDue (s : State) (a : Nat) : Bool :=
  if 3 ≤ s.level a then posDue s.cf a s.cycle else 2 ≤ s.level a && velDue s.cf a s.cycle

/-- Δt in seconds. -/
def State.tickDt (s : State) (a : Nat) : Rat :=
  let d := if 3 ≤ s.level a then s.cfN (K.POS_DIV a) else s.cfN (K.VEL_DIV a)
  b64 (((d * s.ct : Nat) : Rat) / 1000000000)

/-! ### Ramps (R244) -/

/-- Clamp of a rational. -/
def clampR (lo hi x : Rat) : Rat := if x < lo then lo else if hi < x then hi else x

/-- A tick of a ramp from p and v: p′, v′, a_p, and whether the move is done. -/
def rampStep (m : Motion) (p : Int) (v dt : Rat) : Int × Rat × Rat × Bool :=
  let rem := b64 (wrapS 64 (m.target - p)) * pow2 (-32)
  let vg := if m.rampPos then
      clampR (-m.vmax) m.vmax ((sgnR rem : Rat) * sqrt64 (b64 (b64 (2 * m.dec) * absR rem)))
    else m.vt
  let lim := b64 ((if absR v < absR vg ∧ (sgnR vg = sgnR v ∨ v = 0) then m.acc else m.dec) * dt)
  let v' := b64 (v + clampR (-lim) lim (b64 (vg - v)))
  let p' := wrapS 64 (p + roundHalfUp (b64 (b64 (b64 (b64 (v + v') / 2) * dt) * 4294967296)))
  let left := wrapS 64 (m.target - p')
  if m.rampPos ∧ (left = 0 ∨ left.sign ≠ sgnR rem) then (m.target, 0, b64 ((0 - v) / dt), true)
  else (p', v', b64 ((v' - v) / dt), false)

/-- RAMP_PHASE (R244). -/
def rampPhase (v v' : Rat) : Int := if absR v < absR v' then 1 else if absR v' = absR v then 2 else 3

/-- Run the axis's ramp for one tick. -/
def State.rampTick (s : State) (a : Nat) : State × Bool :=
  let m := s.mot a
  let r := rampStep m (s.pSet a) m.v (s.tickDt a)
  (((s.setP a r.1).setVA a r.2.1 r.2.2.1).wr (K.RAMP_PHASE a) (rampPhase m.v r.2.1), r.2.2.2)

/-! ### Segment tables (R233 to R243) -/

/-- CAM flag of a segment. -/
def Seg.cam (g : Seg) : Bool := bit g.flags 0
/-- REL flag. -/
def Seg.rel (g : Seg) : Bool := bit g.flags 1
/-- END flag. -/
def Seg.last (g : Seg) : Bool := bit g.flags 2
/-- MARKER flag. -/
def Seg.marker (g : Seg) : Bool := bit g.flags 3

/-- A segment's end position: END_POS, relative to the origin where REL is set; a marker takes its predecessor's end
(R234, R235). -/
def Seg.p1 (g : Seg) (p0 origin : Int) : Int :=
  if g.marker then p0 else if g.rel then wrapS 64 (g.endPos + origin) else g.endPos

/-- A segment's end velocity. -/
def Seg.v1 (g : Seg) (v0 : Int) : Int := if g.marker then v0 else g.endVel

/-- The Hermite curve of R235 at `el`: p, dp/dx and d²p/dx² in 2^-32 turn per unit and per unit². -/
def hermite (p0 v0 p1 v1 : Int) (t : Rat) (el dur : Nat) : Int × Rat × Rat :=
  let dp := b64 (wrapS 64 (p1 - p0))
  let w0 := b64 (b64 ((v0 : Rat) * 65536) * t)
  let w1 := b64 (b64 ((v1 : Rat) * 65536) * t)
  let tau := b64 (b64 el / b64 dur)
  let u := b64 (1 - tau)
  let tt := b64 (tau * tau)
  let h01 := b64 (tt * b64 (3 - b64 (2 * tau)))
  let h10 := b64 (b64 (tau * u) * u)
  let h11 := b64 (tt * b64 (tau - 1))
  let p := wrapS 64 (p0 + roundHalfUp (b64 (b64 (b64 (h01 * dp) + b64 (h10 * w0)) + b64 (h11 * w1))))
  let t3 := b64 (b64 (3 * tau) * tau)
  let d1 := b64 (b64 (b64 (b64 (b64 (6 * tau) * u) * dp) + b64 (b64 (b64 (1 - b64 (4 * tau)) + t3) * w0)) +
    b64 (b64 (t3 - b64 (2 * tau)) * w1))
  let d2 := b64 (b64 (b64 (b64 (6 - b64 (12 * tau)) * dp) + b64 (b64 (b64 (6 * tau) - 4) * w0)) +
    b64 (b64 (b64 (6 * tau) - 2) * w1))
  (p, b64 (d1 / t), b64 (d2 / b64 (t * t)))

/-- The segment in progress: the head of the queue, or in REPEAT the pattern's place. -/
def Motion.cur (m : Motion) : Option Seg := if m.mode = 2 then m.queue[m.idx]? else m.queue.head?

/-- The segment may be used at a tick (R239). -/
def Seg.usableAt (g : Seg) (tick : Nat) : Bool :=
  match g.usable with
  | some t => Nat.ble t tick && g.bad == 0
  | none => false

/-- How a walk over boundaries ended: in a segment, at the table's end, or short of a usable segment. -/
inductive Walk where
  | inside | finished | short
  deriving DecidableEq, Repr

/-- Pass the end of the segment in progress (R236, R240): its end becomes the next start, it leaves the queue but in
REPEAT, where the pattern goes round with a new origin. -/
def Motion.pass (m : Motion) (g : Seg) : Motion :=
  let m1 : Motion := { m with
    p0 := g.p1 m.p0 m.origin, v0 := g.v1 m.v0, el := m.el - g.dur }
  if m.mode = 2 then
    if m.idx + 1 < m.count then { m1 with idx := m.idx + 1 } else { m1 with idx := 0, origin := m1.p0 }
  else { m1 with queue := m.queue.drop 1, left := m.left - 1 }

/-- The table ends behind this segment (R240). -/
def Motion.endsAt (m : Motion) (g : Seg) : Bool :=
  match m.mode with
  | 0 => g.last || Nat.ble m.left 1
  | 1 => g.last
  | _ => false

/-- Pass boundaries while el reaches the segment's duration, at most `n` of them (R236, R237): the motion words, the
segments passed (oldest first), and how it ended. -/
def walkTable (tick : Nat) : Nat → Motion → List Seg → Motion × List Seg × Walk
  | 0, m, l => (m, l, .inside)
  | n + 1, m, l =>
    match m.cur with
    | none => (m, l, .short)
    | some g =>
      if !g.usableAt tick then (m, l, .short)
      else if m.el < g.dur then (m, l, .inside)
      else
        let m1 := m.pass g
        let m2 : Motion := match m1.cur with
          | some h => if h.cam = g.cam ∨ h.marker then m1 else { m1 with el := 0 }
          | none => m1
        if m.endsAt g then (m2, l ++ [g], .finished) else walkTable tick n m2 (l ++ [g])

/-- A table ends in an underflow (R242): p_set at the end of the last usable segment, then STOP at QUICK_STOP_DEC or
IDLE; segments whose append has taken effect leave the queue. -/
def State.underflow (s : State) (a : Nat) (speed : Rat) : State :=
  let m := s.mot a
  let bad : Nat := (m.cur.map (·.bad)).getD 0
  let s := if bad = 0 then s else
    (((s.wr (K.LAST_SEG_REJECT a) bad).bump (K.SEG_REJECTS a))).raise Ev.SEG_REJECT a bad
  let q := m.queue.filter (fun g => Nat.blt s.clk.tick g.at_)
  let s := ((s.setP a m.p0).setVA a speed 0).updMot a (fun m => { m with queue := q, begun := false })
  let s := (((s.wr (K.QUEUE_LEVEL a) q.length).wr (K.MOVE_STATE a) 5).bump (K.UNDERFLOWS a)).bump K.POOL_UNDERFLOWS
  let s := s.raise Ev.SEG_UNDERFLOW a (s.rdN (K.CURRENT_TAG a))
  if speed = 0 then s.goIdle a else s.startStop a (K.QUICK_STOP_DEC a) 0

/-- Segments passed: counts and marker events (R234, R259). -/
def State.passed (s : State) (a : Nat) (l : List Seg) : State :=
  foldS (fun s g => if g.marker then s.raise Ev.SEG_MARKER a g.tag else s)
    (if l.isEmpty then s else s.bumpBy (K.SEGMENTS_DONE a) l.length) l

/-- Master of an axis. -/
def State.camMaster (s : State) (a : Nat) : Nat := s.rdN (K.CAM_MASTER a)

/-- The master's position in master-angle units (R237). -/
def camUnits (pm : Int) : Int := pm / 256

/-- Advance el by the master's advance with the debt of R237: el, BACK_DEBT. -/
def camAdvance (adv : Int) (el debt : Nat) : Nat × Nat :=
  if adv < 0 then
    let back := min (-adv).toNat el
    (el - back, debt + ((-adv).toNat - back))
  else
    let repay := min adv.toNat debt
    (el + adv.toNat - repay, debt - repay)

/-- A tick of a table (R235 to R242). -/
def State.tableTick (s : State) (a : Nat) : State :=
  let m := s.mot a
  let mas := s.master (s.camMaster a)
  let A := camUnits mas.pos
  -- the table's first tick: its origin, start, and A_prev
  let first := !m.begun
  let m : Motion := if first then
      { m with begun := true, origin := s.pSet a, p0 := s.pSet a, v0 := r8Of m.v, el := 0, idx := 0, aPrev := A }
    else m
  let isCam := (m.cur.map Seg.cam).getD false
  let adv := A - m.aPrev
  let e := camAdvance adv m.el (s.rdN (K.BACK_DEBT a))
  let m : Motion := if first then m
    else if isCam then { m with el := e.1, aPrev := A }
    else { m with el := m.el + 256 * s.cfN (K.POS_DIV a), aPrev := A }
  let s := if first ∨ !isCam then s else
    ((s.wr (K.BACK_DEBT a) e.2).wr (K.CAM_ADVANCE a) (satS 32 adv)).wr (K.MASTER_POS_USED a) mas.pos
  let w := walkTable s.clk.tick (if isCam then 8 else 2 * m.queue.length + 8) m []
  let reps := (w.2.1.length + m.idx - w.1.idx) / max 1 m.count
  let s := (s.updMot a (fun _ => w.1)).passed a w.2.1
  let s := if m.mode = 2 ∧ 0 < reps then s.bumpBy (K.REPEATS_DONE a) reps else s
  let s := s.wr (K.QUEUE_LEVEL a) w.1.queue.length
  match w.2.2, w.1.cur with
  | .inside, some g =>
    let past := Nat.ble g.dur w.1.el && !g.marker
    let el := min w.1.el g.dur
    let s := s.wr (K.CURRENT_TAG a) g.tag
    let s := s.wr (K.MOTION_FLAGS a) (setBit (s.rdN (K.MOTION_FLAGS a)) 3 (isCam && past))
    let s := if isCam && past then s.bump (K.CAM_CATCHUPS a) else s
    if g.dur = 0 then s
    else if g.cam then
      let h := hermite w.1.p0 w.1.v0 (g.p1 w.1.p0 w.1.origin) g.endVel ((g.dur : Rat) / 16777216) el g.dur
      (s.setP a h.1).setVA a (b64 (h.2.1 * pow2 (-32) * mas.v)) (b64 (h.2.2 * pow2 (-32) * (mas.v * mas.v)))
    else
      let h := hermite w.1.p0 w.1.v0 (g.p1 w.1.p0 w.1.origin) g.endVel
        (b64 ((g.dur : Rat) * s.ct / 256 / 1000000000)) el g.dur
      (s.setP a h.1).setVA a (b64 (h.2.1 * pow2 (-32))) (b64 (h.2.2 * pow2 (-32)))
  | .finished, _ =>
    let lastCam := ((w.2.1.getLast?).map Seg.cam).getD false
    let v := if lastCam then turnsOf w.1.v0 * mas.v else turnsOf w.1.v0
    let s := (s.setP a w.1.p0).wr (K.CURRENT_TAG a) (((w.2.1.getLast?).map (·.tag)).getD 0)
    if v = 0 then (((s.goIdle a).wr (K.MOVE_STATE a) 3).updMot a (fun m => { m with begun := false })).moveDone a
        (s.rdN (K.CURRENT_TAG a))
    else
      let s := (s.setVA a v 0).wr (K.SOURCE a) Src.STOP
      (s.setRamp a false 0 0 (s.rdR (K.PROFILE_DEC a)) (s.rdR (K.PROFILE_DEC a)) 0).updMot a
        (fun m => { m with ending := 1, decKey := K.PROFILE_DEC a })
  | _, _ => s.underflow a (if isCam then turnsOf w.1.v0 * mas.v else turnsOf w.1.v0)

/-! ### Gear and step/direction (R249, R255) -/

/-- A tick of GEAR. -/
def State.gearTick (s : State) (a : Nat) : State :=
  let mas := s.master (s.camMaster a)
  let m := s.mot a
  let m : Motion := if m.begun then m else { m with begun := true, pm0 := mas.pos, gearOrigin := s.pSet a }
  let s := s.updMot a (fun _ => m)
  let num := s.rd (K.GEAR_NUM a)
  let den := s.rd (K.GEAR_DEN a)
  let ratio : Rat := (num : Rat) / den
  ((s.setP a (m.gearOrigin + roundHalfUp (((mas.pos - m.pm0 : Int) : Rat) * num / den))).setVA a (ratio * mas.v)
    (ratio * mas.a)).wr (K.MASTER_POS_USED a) mas.pos

/-- The reconstructed step position of a capture (R255). -/
def stepPos (c : Cap) : Rat :=
  if c.q = 0 then c.n
  else b64 ((c.n : Rat) - (c.sign : Rat) * b64 (1 - minR 1 (b64 (((c.age.getD 0 : Nat) : Rat) / c.q))))

/-- The capture a tick uses: that of STEP_DELAY cycles before (R255). -/
def State.stepCap (s : State) (a : Nat) : Cap :=
  ((s.enc (s.rdN (K.STEP_CHANNEL a))).caps[s.rdN (K.STEP_DELAY a)]?).getD { n := 0, age := none, sign := 0, q := 0 }

/-- A tick of STEPDIR. -/
def State.stepTick (s : State) (a : Nat) : State :=
  let c := s.stepCap a
  let x := stepPos c
  let size := s.rd (K.STEP_SIZE a)
  let dt := s.tickDt a
  let v := b64 (b64 ((x - (s.mot a).sPrev) * size) * pow2 (-32) / dt)
  let acc := b64 ((v - (s.mot a).v) / dt)
  (((s.setP a (s.rd (K.STEP_ORIGIN a) + roundHalfUp (b64 (x * size)))).setVA a v acc).wr (K.STEP_COUNT a)
    (wrapS 32 c.n)).updMot a (fun m => { m with sPrev := x })

/-! ### Homing (R250 to R254) -/

/-- The direction of search of a method (R250). -/
def homeDirOf (meth : Nat) : Int := if meth = 2 ∨ meth = 4 ∨ meth = 6 ∨ meth = 8 then -1 else 1

/-- The reference switch of a method: 0 home, 1 negative limit, 2 positive limit; none for methods 7 to 9. -/
def homeRef (meth : Nat) : Option Nat :=
  if 1 ≤ meth ∧ meth ≤ 4 then some 0 else if meth = 5 then some 2 else if meth = 6 then some 1 else none

/-- The point of a switch where one is named (R251). -/
def State.switchPoint (s : State) (a k : Nat) : Option Nat :=
  let p := s.rdN (if k = 0 then K.HOME_SWITCH_POINT a else if k = 1 then K.LIMIT_NEG_POINT a else K.LIMIT_POS_POINT a)
  if p < 262144 ∧ !bit (s.mot a).swOff k then some p else none

/-- A switch of an axis. -/
def Motion.switch (m : Motion) (k : Nat) : Switch := if k = 0 then m.home else if k = 1 then m.neg else m.pos
/-- Replace a switch. -/
def Motion.setSwitch (m : Motion) (k : Nat) (x : Switch) : Motion :=
  if k = 0 then { m with home := x } else if k = 1 then { m with neg := x } else { m with pos := x }

/-- The debounced state of a switch; one that is not named is inactive. -/
def State.switchOn (s : State) (a k : Nat) : Bool := (s.switchPoint a k).isSome && ((s.mot a).switch k).deb

/-- The cycles of SWITCH_DEBOUNCE, rounded up (R252). -/
def State.debounce (s : State) (a : Nat) : Nat := (s.rdN (K.SWITCH_DEBOUNCE a) * 1000000 + s.ct - 1) / max 1 s.ct

/-- The front end's sample of a switch in a cycle with a FEEDBACK frame (R251, R252). -/
def State.sampleSwitch (s : State) (a : Nat) (pos : Int) (k : Nat) : State :=
  match s.switchPoint a k with
  | none => s
  | some p =>
    let w := (s.mot a).switch k
    let raw := (SMap.get s.rxPts 0 p != 0) != bit (s.rdN (K.SWITCH_POLARITY a)) k
    let tick := s.clk.tick
    let keep := w.changes.filter (fun t => Nat.ble tick (t + 8 * s.debounce a))
    let w' : Switch := { w with
      raw := raw, run := if raw = w.deb then 0 else w.run + 1
      edgePos := if raw ≠ w.deb ∧ w.run = 0 then pos else w.edgePos
      changes := if raw = w.raw then keep else tick :: keep }
    s.updMot a (fun m => m.setSwitch k w')

/-- Set the reference at a position: shift the position frame by HOME_OFFSET less it (R254). POS_UNCERTAIN clears
(R265). -/
def State.setReference (s : State) (a : Nat) (latched : Int) : State :=
  let d := s.rd (K.HOME_OFFSET a) - latched
  let sh (s : State) (k : Nat) : State := s.wr k (wrapS 64 (s.rd k + d))
  let s := sh (sh (sh (sh s (K.FRAME_SHIFT a)) (K.MEASURED_POS a)) (K.SETPOINT_POS a)) (K.TARGET_POS a)
  let s := s.updAxis a (fun x => { x with
    mot := { x.mot with
      origin := wrapS 64 (x.mot.origin + d), p0 := wrapS 64 (x.mot.p0 + d), target := wrapS 64 (x.mot.target + d) }
    h1 := x.h1.map (fun i => { i with pos := wrapS 64 (i.pos + d) })
    h0 := x.h0.map (fun i => { i with pos := wrapS 64 (i.pos + d) })
    changed := true })
  let s := if s.cf (K.FB_SOURCE a) = 2 then s.wr (K.POS_UNCERTAIN (s.cfN (K.FB_CHANNEL a))) 0 else s
  ((s.wr (K.HOMED a) 1).wr (K.HOME_LATCHED a) latched).wr (K.FB_STATUS a) (setBit (s.rdN (K.FB_STATUS a)) 2 false)

/-- A homing sequence moves on: ramp to 0 first, then `next` (R253). -/
def State.homeTo (s : State) (a next : Nat) : State :=
  (s.wr (K.HOMING_STATE a) next).updAxis a (fun x => { x with
    indexNew := false, mot := { x.mot with homeRamp := true, homeNext := next } })

/-- A homing sequence ends: 4 DONE, 5 FAILED, 6 CHATTER, with its event. -/
def State.homeEnd (s : State) (a next : Nat) : State :=
  let s := (s.homeTo a next).wr (K.HOMING_RESULT a) (next - 3 : Nat)
  if next = 4 then s.raiseU Ev.HOMING_DONE (some a) none [] else if next = 5 then s.raiseU Ev.HOMING_FAILED (some a) none []
  else s.raise Ev.HOMING_CHATTER a 0

/-- The direction of travel in a homing state: along the (possibly reversed) search in SEARCH, opposite to the method's
search direction in BACK_OFF, and as R250 gives it in INDEX_SEARCH. -/
def State.homeTravel (s : State) (a : Nat) : Int :=
  let m := s.mot a
  let st := s.rd (K.HOMING_STATE a)
  if st = 1 then (if m.homeReversed then -m.homeDir else m.homeDir)
  else if st = 2 then -m.homeDir
  else if 7 ≤ s.rd (K.HOMING_METHOD a) then m.homeDir else -m.homeDir

/-- More than 4 raw changes of a used switch within 8 × SWITCH_DEBOUNCE (R252): the limits, and the home switch where the
method has it as its reference. -/
def State.chatter (s : State) (a : Nat) : Bool :=
  s.rd (K.SWITCH_DEBOUNCE a) != 0 && [0, 1, 2].any (fun k => (s.switchPoint a k).isSome &&
    (k != 0 || homeRef (s.rdN (K.HOMING_METHOD a)) == some 0) &&
    Nat.blt 4 (((s.mot a).switch k).changes.filter (fun t => Nat.ble s.clk.tick (t + 8 * s.debounce a))).length)

/-- The events of a homing sequence at a tick, before it moves (R253). -/
def State.homeEvents (s : State) (a : Nat) : State :=
  let m := s.mot a
  let meth := s.rdN (K.HOMING_METHOD a)
  let st := s.rdN (K.HOMING_STATE a)
  let ref := homeRef meth
  let refOn := (ref.map (s.switchOn a)).getD false
  let refEdge := (ref.map (fun k => (m.switch k).edgePos)).getD 0
  let dir := s.homeTravel a
  let limit : Nat := if 0 < dir then 2 else 1
  let limitOn := s.switchOn a limit && ref != some limit
  let far := s.rd (K.HOME_MAX_TRAVEL a) != 0 &&
    decide (s.rd (K.HOME_MAX_TRAVEL a) < (wrapS 64 (s.pSet a - m.homeStart)).natAbs)
  if m.homeRamp ∨ st = 0 ∨ 3 < st then s
  else if s.chatter a then s.homeEnd a 6
  else if far then s.homeEnd a 5
  else if limitOn ∧ 5 ≤ meth then s.homeEnd a 5
  else if st = 1 ∧ refOn then s.homeTo a 2
  else if st = 1 ∧ limitOn then
    if m.homeReversed then s.homeEnd a 5
    else (s.homeTo a 1).updMot a (fun m => { m with homeReversed := true })
  else if st = 2 ∧ !refOn then
    if meth = 3 ∨ meth = 4 then
      (s.wr (K.HOMING_STATE a) 3).updAxis a (fun x => { x with indexNew := false })
    else (s.setReference a refEdge).homeEnd a 4
  else if st = 3 ∧ (s.axis a).indexNew then (s.setReference a (s.rd (K.INDEX_POS a))).homeEnd a 4
  else s

/-- A tick of HOMING. -/
def State.homeTick (s : State) (a : Nat) : State :=
  let s := s.homeEvents a
  let m := s.mot a
  let st := s.rdN (K.HOMING_STATE a)
  let acc := s.rdR (K.HOME_ACC a)
  let speed := turnsOf (s.rd (if st = 1 then K.HOME_SEARCH_VEL a else K.HOME_CREEP_VEL a))
  let vt : Rat := if m.homeRamp ∨ 4 ≤ st then 0 else speed * s.homeTravel a
  let s := ((s.setRamp a false 0 0 acc acc vt).rampTick a).1
  if (m.homeRamp ∨ 4 ≤ st) ∧ (s.mot a).v = 0 then
    if 4 ≤ st then (s.goIdle a).updMot a (fun m => { m with homeRamp := false })
    else s.updMot a (fun m => { m with homeRamp := false })
  else s

/-! ### The tick (R231) -/

/-- A waiting table begins at this tick: the source before it ends (R240). -/
def State.tableBegins (s : State) (a : Nat) : State :=
  if s.rd (K.MOVE_STATE a) = 1 ∧ (s.mot a).startTick ≤ s.clk.tick then
    let s := s.abortHoming a
    let s := if s.source a = Src.TABLE then (s.updMot a (fun m => { m with queue := [] })).wr (K.QUEUE_LEVEL a) 0 else s
    ((s.wr (K.MOVE_STATE a) 2).wr (K.SOURCE a) Src.TABLE).updMot a (fun m => { m with begun := false })
  else s

/-- A velocity-mode source that has reached 0. -/
def State.stopEnds (s : State) (a : Nat) : State :=
  let e := (s.mot a).ending
  let s := (s.goIdle a).updMot a (fun m => { m with ending := 0 })
  if e = 1 then (s.wr (K.MOVE_STATE a) 3).moveDone a (s.rdN (K.CURRENT_TAG a)) else s

/-- The set-point has stayed, or moves (R221, R222): the hold of a stepper's current ends in the cycle it first
moves. -/
def State.trackHold (s : State) (a : Nat) (p0 : Int) : State :=
  if s.pSet a = p0 then s
  else s.updMot a (fun m => { m with setSince := s.clk.now, holding := false })

/-- A profile tick of the axis's source. -/
def State.profileTick (s : State) (a : Nat) : State :=
  let p0 := s.pSet a
  let s := s.tableBegins a
  let src := s.source a
  let s := if src = Src.TABLE then s.tableTick a
    else if src = Src.GEAR then s.gearTick a
    else if src = Src.STEPDIR then s.stepTick a
    else if src = Src.HOMING then s.homeTick a
    else if src = Src.IDLE then s.setVA a 0 0
    else
      let r := s.rampTick a
      if src = Src.STOP then (if (r.1.mot a).v = 0 then r.1.stopEnds a else r.1)
      else if src = Src.JOG then
        (if ((r.1.mot a).vt = 0 ∧ !(r.1.mot a).rampPos ∧ (r.1.mot a).v = 0) ∨ r.2 then r.1.goIdle a else r.1)
      else if r.2 then (r.1.goIdle a).moveDone a 0 else r.1
  s.trackHold a p0

/-- PROFILE_TICK (R231). -/
def execProfileTick (axis : Fin 128) (s : State) : Res :=
  let a := axis.val
  if s.power = 2 ∧ s.tickDue a then done (s.profileTick a) else done s

/-! ### Motion commands -/

/-- A motion command is refused (R232). -/
def State.noMotion (s : State) (a code : Nat) : WRes := (s.wr (K.LAST_MOTION_REFUSAL a) code, .refused)

/-- State OPERATION of R192. -/
abbrev AxState.OPERATION : Nat := 3

/-- The conditions of R232 and R256: none, or the refusal's code. -/
def State.motionBar (s : State) (a lvl : Nat) : Option Nat :=
  if s.rd (K.AXIS_STATE a) ≠ 3 then some 1
  else if s.level a < lvl then some 2
  else if s.source a = Src.HOMING then some 4
  else none

/-- A limit is active in a direction (R248). -/
def State.limitBars (s : State) (a : Nat) (dir : Int) : Bool :=
  (decide (0 < dir) && s.switchOn a 2) || (decide (dir < 0) && s.switchOn a 1)

/-- DECEL_KEPT clears when a move starts (R245). -/
def State.clearKept (s : State) (a : Nat) : State :=
  s.wr (K.MOTION_FLAGS a) (setBit (s.rdN (K.MOTION_FLAGS a)) 0 false)

/-- An input took effect on the axis (R200, test 2). -/
def State.touch (s : State) (a : Nat) : State := s.updAxis a (fun x => { x with changed := true })

/-- A position-mode ramp to a target (R244, R247). -/
def State.moveTo (s : State) (a : Nat) (target : Int) : WRes :=
  match s.motionBar a 3 with
  | some c => s.noMotion a c
  | none =>
    if s.limitBars a (wrapS 64 (target - s.pSet a)).sign then s.noMotion a 3
    else if s.rd (K.SOFT_LIMIT_ENABLE a) = 1 ∧ (target < s.rd (K.POS_SOFT_MIN a) ∨ s.rd (K.POS_SOFT_MAX a) < target) then
      s.noMotion a 7
    else
      let s := ((s.endSource a).clearKept a).wr (K.SOURCE a) Src.RAMP
      WRes.ok ((s.setRamp a true target (turnsOf (s.rd (K.PROFILE_VEL a))) (s.rdR (K.PROFILE_ACC a))
        (s.rdR (K.PROFILE_DEC a)) 0).touch a)

/-- MOVE_ABS. -/
def State.moveAbs (s : State) (a : Nat) : WRes := s.moveTo a (s.rd (K.TARGET_POS a))
/-- MOVE_REL. -/
def State.moveRel (s : State) (a : Nat) : WRes := s.moveTo a (wrapS 64 (s.pSet a + s.rd (K.TARGET_POS a)))

/-- The jog's ramp for the present JOG_VEL (R247). -/
def State.jogRamp (s : State) (a : Nat) : State :=
  let v := s.rd (K.JOG_VEL a)
  let acc := s.rdR (K.JOG_ACC a)
  let dec := s.rdR (K.JOG_DEC a)
  if s.rd (K.SOFT_LIMIT_ENABLE a) = 1 ∧ 3 ≤ s.level a ∧ v ≠ 0 then
    s.setRamp a true (if 0 < v then s.rd (K.POS_SOFT_MAX a) else s.rd (K.POS_SOFT_MIN a)) (absR (turnsOf v)) acc dec 0
  else s.setRamp a false 0 0 acc dec (turnsOf v)

/-- JOG. -/
def State.jog (s : State) (a : Nat) : WRes :=
  match s.motionBar a 2 with
  | some c => s.noMotion a c
  | none =>
    if s.limitBars a (s.rd (K.JOG_VEL a)).sign then s.noMotion a 3
    else WRes.ok (((((s.endSource a).clearKept a).wr (K.SOURCE a) Src.JOG).jogRamp a).touch a)

/-- The axis is STOPPING or in HALT, where every motion command is refused (R256). -/
def State.stopping (s : State) (a : Nat) : Bool := s.rd (K.AXIS_STATE a) == 4 || s.rd (K.AXIS_STATE a) == 5

/-- HALT_PROFILE: STOP at PROFILE_DEC (R260). -/
def State.haltProfile (s : State) (a : Nat) : WRes :=
  if s.stopping a then s.noMotion a 1
  else if s.source a = Src.IDLE ∧ s.rd (K.MOVE_STATE a) ≠ 1 ∨ s.source a = Src.STOP then WRes.ok s
  else WRes.ok ((s.startStop a (K.PROFILE_DEC a) 0).touch a)

/-- A write of JOG_VEL (R247). -/
def State.jogVelWrite (s : State) (a : Nat) (v : Int) : WRes :=
  let s := s.wr (K.JOG_VEL a) v
  WRes.ok (if s.source a = Src.JOG then (s.jogRamp a).touch a else s)

/-- A STOP takes a new value of the entry that gives its deceleration (R245). -/
def State.decWritten (s : State) (a key : Nat) : State :=
  if s.source a = Src.STOP ∧ (s.mot a).decKey = key then
    (s.updMot a (fun m => { m with acc := s.rdR key, dec := s.rdR key })).touch a
  else s

/-- A running move or jog takes the new value of PROFILE_VEL, PROFILE_ACC, JOG_ACC or JOG_DEC at its next tick, and a
STOP that of STOP_DEC or QUICK_STOP_DEC (R245, R247). -/
def State.rampWrite (s : State) (a sub k : Nat) (v : Int) : WRes :=
  let s := (s.wr k v).touch a
  WRes.ok (if sub = 3 ∧ s.source a = Src.RAMP then s.updMot a (fun m => { m with vmax := turnsOf v })
    else if sub = 4 ∧ s.source a = Src.RAMP then s.updMot a (fun m => { m with acc := s.rdR k })
    else if sub = 7 ∧ s.source a = Src.JOG then s.updMot a (fun m => { m with acc := s.rdR k })
    else if sub = 8 ∧ s.source a = Src.JOG then s.updMot a (fun m => { m with dec := s.rdR k })
    else s.decWritten a k)

/-- A write of PROFILE_DEC (R245), `pat` its binary32 pattern. -/
def State.profileDecWrite (s : State) (a : Nat) (pat : Nat) : WRes :=
  let s := s.wr (K.PROFILE_DEC a) pat
  let m := s.mot a
  let d := real32 pat
  if s.source a ≠ Src.RAMP then WRes.ok (s.decWritten a (K.PROFILE_DEC a))
  else
    let rem := absR (posErr m.target (s.pSet a))
    if m.dec ≤ d ∨ s.rd (K.RAMP_PHASE a) ≠ 3 ∨ b64 (b64 (m.v * m.v) / b64 (2 * d)) ≤ rem then
      WRes.ok ((s.updMot a (fun m => { m with dec := d })).touch a)
    else WRes.ok ((s.wr (K.MOTION_FLAGS a) (setBit (s.rdN (K.MOTION_FLAGS a)) 0 true)).raiseU Ev.DECEL_KEPT (some a) none [])

/-- A write of 1 to HOMING_START (R250 to R253). -/
def State.homingStart (s : State) (a : Nat) : WRes :=
  let meth := s.rdN (K.HOMING_METHOD a)
  let refuse (s : State) (c : Nat) : WRes := ((s.wr (K.HOMING_RESULT a) 5).noMotion a c)
  match s.motionBar a 3 with
  | some c => refuse s c
  | none =>
    if meth = 0 then refuse s 9
    else if (homeRef meth).any (fun k => (s.switchPoint a k).isNone) then refuse s 10
    else if meth = 9 then
      let s := ((s.endSource a).clearKept a).goIdle a
      let s := (s.setReference a (s.rd (K.MEASURED_POS a))).wr (K.HOMING_STATE a) 4
      WRes.ok ((s.wr (K.HOMING_RESULT a) 1).raiseU Ev.HOMING_DONE (some a) none [])
    else
      let st : Nat := match homeRef meth with
        | some k => if s.switchOn a k then 2 else 1
        | none => 3
      let s := (((s.endSource a).clearKept a).wr (K.SOURCE a) Src.HOMING).wr (K.HOMED a) 0
      let s := (s.wr (K.HOMING_STATE a) st).wr (K.HOMING_RESULT a) 0
      WRes.ok (s.updAxis a (fun x => { x with
        indexNew := false, changed := true
        mot := { x.mot with
          home := { x.mot.home with changes := [] }
          neg := { x.mot.neg with changes := [] }
          pos := { x.mot.pos with changes := [] }
          homeDir := homeDirOf meth, homeReversed := false, homeStart := s.pSet a, homeRamp := false, homeNext := 0 } }))

/-- A master without a source (R291). -/
def State.noMaster (s : State) (m : Nat) : Bool := s.cf (K.MASTER_SOURCE m) == 0

/-- A write to GEAR_ENGAGE (R249). -/
def State.gear (s : State) (a v : Nat) : WRes :=
  if v = 1 then
    match s.motionBar a 3 with
    | some c => s.noMotion a c
    | none =>
      if s.noMaster (s.camMaster a) then s.noMotion a 1
      else WRes.ok ((((((s.endSource a).clearKept a).wr (K.SOURCE a) Src.GEAR).updMot a
        (fun m => { m with begun := false }))).touch a)
  else if s.stopping a then s.noMotion a 1
  else if s.source a = Src.GEAR then WRes.ok ((s.startStop a (K.PROFILE_DEC a) 0).touch a)
  else WRes.ok s

/-- A write to STEP_ENGAGE (R255). -/
def State.step_ (s : State) (a v : Nat) : WRes :=
  if v = 1 then
    match s.motionBar a 3 with
    | some c => s.noMotion a c
    | none =>
      let ch := s.rdN (K.STEP_CHANNEL a)
      if (s.mot a).v ≠ 0 then s.noMotion a 6
      else if 8 ≤ ch ∨ s.cf (K.ENC_MODE ch) ≠ 2 then (s, .refused)
      else
        let x := stepPos (s.stepCap a)
        let s := (((s.endSource a).clearKept a).wr (K.SOURCE a) Src.STEPDIR).wr (K.STEP_ORIGIN a)
          (wrapS 64 (s.pSet a - roundHalfUp (b64 (x * s.rd (K.STEP_SIZE a)))))
        WRes.ok ((s.updMot a (fun m => { m with sPrev := x })).touch a)
  else if s.stopping a then s.noMotion a 1
  else if s.source a = Src.STEPDIR then WRes.ok ((s.startStop a (K.PROFILE_DEC a) 0).touch a)
  else WRes.ok s

/-- Some cycle mark releases SEGMENT_PREFETCH (R239): bit `b` of MARK_TASKS. -/
def State.markReleases (s : State) (b : Nat) : Bool :=
  (List.range 16).any (fun m => bit (s.rdN (K.MARK_CONTROL m)) 0 && bit (s.rdN (K.MARK_TASKS m)) b)

/-- A segment record (R233). -/
def segOf (b : Bytes) (tick : Nat) : Seg :=
  { dur := uAt b 0 4, flags := uAt b 4 2, tag := uAt b 6 2, endPos := sAt b 8 8, endVel := sAt b 16 4, at_ := tick }

/-- The code of R234 for which an append is refused. -/
def segReject (b : Bytes) (level alloc : Nat) : Option Nat :=
  let g := segOf b 0
  if alloc ≤ level then some 1
  else if 16 ≤ g.flags ∨ uAt b 20 12 ≠ 0 then some 2
  else if (g.dur = 0 ∧ !g.marker) ∨ (g.marker ∧ (g.dur ≠ 0 ∨ g.endPos ≠ 0 ∨ g.endVel ≠ 0)) then some 3
  else if !g.cam ∧ !g.marker ∧ g.dur < 256 then some 4
  else none

/-- A write to SEG_APPEND (R234). -/
def State.segAppend (s : State) (a : Nat) (b : Bytes) : WRes :=
  if b.length ≠ 32 then (s, .length) else
  match segReject b (s.mot a).queue.length (s.cfN (K.SEG_ALLOC a)) with
  | some c => ((((s.wr (K.LAST_SEG_REJECT a) c).bump (K.SEG_REJECTS a))).raise Ev.SEG_REJECT a c, .refused)
  | none =>
    let s := s.updMot a (fun m => { m with queue := m.queue ++ [segOf b s.clk.tick] })
    WRes.ok ((s.wr (K.QUEUE_LEVEL a) (s.mot a).queue.length).touch a)

/-- The prefetch check of a segment against its predecessor's end and timing (R242). -/
def prefetchBad (s : State) (a : Nat) (p0 v0 origin : Int) (prev : Option Seg) (g : Seg) : Nat :=
  let p1 := g.p1 p0 origin
  if g.marker then 0
  else if 2 ^ 53 ≤ (wrapS 64 (p1 - p0)).natAbs then 5
  else if s.rd (K.SOFT_LIMIT_ENABLE a) = 1 ∧ (p1 < s.rd (K.POS_SOFT_MIN a) ∨ s.rd (K.POS_SOFT_MAX a) < p1) then 6
  else if (prev.map (fun h => h.cam != g.cam)).getD false ∧ v0 ≠ 0 then 7
  else 0

/-- Move new segments into the window of 16 and check them, oldest first (R239, R242). -/
def prefetchGo (s : State) (a : Nat) (origin : Int) : Nat → Int → Int → Option Seg → List Seg → List Seg
  | _, _, _, _, [] => []
  | 0, _, _, _, l => l
  | n + 1, p0, v0, prev, g :: r =>
    let g' : Seg := if g.usable.isSome ∨ s.clk.tick < g.at_ then g
      else { g with usable := some (s.clk.tick + 2), bad := prefetchBad s a p0 v0 origin prev g }
    g' :: prefetchGo s a origin n (g.p1 p0 origin) (g.v1 v0) (if g.marker then prev else some g) r

/-- Segments of a REPEAT pattern that the table in progress has passed: they stay in the queue, and the window stands
behind them (R240). -/
def Motion.behind (m : Motion) : Nat := if m.begun ∧ m.mode = 2 then m.idx else 0

/-- SEGMENT_PREFETCH for one axis. Before a table has begun the origin and the start are p_set. -/
def State.prefetch (s : State) (a : Nat) : State :=
  let m := s.mot a
  let o := if m.begun then m.origin else s.pSet a
  let p := if m.begun then m.p0 else s.pSet a
  let v := if m.begun then m.v0 else 0
  s.updMot a (fun m => { m with
    queue := m.queue.take m.behind ++ prefetchGo s a o 16 p v none (m.queue.drop m.behind) })

/-- SEGMENT_PREFETCH (R239): the release of this cycle moves appended segments of every axis. -/
def execSegmentPrefetch (s : State) : Res :=
  done (foldS (fun s a => if (s.mot a).queue.isEmpty then s else s.prefetch a) s (List.range 128))

/-- A write of 1 to TABLE_START (R237, R239, R240). -/
def State.tableStart (s : State) (a : Nat) : WRes :=
  let mode := s.rdN (K.MOVE_MODE a)
  let count := s.rdN (K.TABLE_COUNT a)
  let m := s.mot a
  let firstCam := ((m.queue.head?).map Seg.cam).getD false
  let anyCam := (m.queue.any Seg.cam)
  match s.motionBar a 3 with
  | some c => s.noMotion a c
  | none =>
    if anyCam ∧ s.noMaster (s.camMaster a) then s.noMotion a 1
    else if !s.markReleases 0 then s.noMotion a 5
    else if mode ≠ 1 ∧ s.cfN (K.SEG_ALLOC a) < count then s.noMotion a 8
    else if m.v ≠ 0 ∧ firstCam then s.noMotion a 6
    else if mode ≠ 1 ∧ count = 0 then WRes.ok ((s.wr (K.MOVE_STATE a) 3).moveDone a 0)
    else
      let s := (s.clearKept a).wr (K.MOVE_STATE a) 1
      WRes.ok ((s.updMot a (fun m => { m with
        mode := mode, count := count, left := count, startTick := s.clk.tick + 2 })).touch a)

/-- A write of 1 to TABLE_STOP (R243). -/
def State.tableStop (s : State) (a : Nat) : WRes :=
  if s.stopping a then s.noMotion a 1
  else if s.source a = Src.TABLE then WRes.ok ((s.startStop a (K.PROFILE_DEC a) 0).touch a)
  else WRes.ok ((s.abortTable a).touch a)

/-- A write of 1 to QUEUE_CLEAR (R243). -/
def State.queueClear (s : State) (a : Nat) : WRes :=
  if s.rd (K.MOVE_STATE a) = 1 ∨ s.rd (K.MOVE_STATE a) = 2 then
    ((s.wr (K.LAST_MOTION_REFUSAL a) 6), .busy)
  else WRes.ok ((s.updMot a (fun m => { m with queue := [] })).wr (K.QUEUE_LEVEL a) 0)

/-- SEG_APPEND. -/
def execSegAppend (axis : Fin 128) (record : Bytes) (s : State) : Res := answered (s.segAppend axis.val record)
/-- TABLE_START. -/
def execTableStart (axis : Fin 128) (s : State) : Res := answered (s.tableStart axis.val)
/-- TABLE_STOP. -/
def execTableStop (axis : Fin 128) (s : State) : Res := answered (s.tableStop axis.val)
/-- QUEUE_CLEAR. -/
def execQueueClear (axis : Fin 128) (s : State) : Res := answered (s.queueClear axis.val)
/-- MOVE_ABS. -/
def execMoveAbs (axis : Fin 128) (s : State) : Res := answered (s.moveAbs axis.val)
/-- MOVE_REL. -/
def execMoveRel (axis : Fin 128) (s : State) : Res := answered (s.moveRel axis.val)
/-- JOG. -/
def execJog (axis : Fin 128) (s : State) : Res := answered (s.jog axis.val)
/-- HALT_PROFILE. -/
def execHaltProfile (axis : Fin 128) (s : State) : Res := answered (s.haltProfile axis.val)
/-- JOG_VEL_WRITE. -/
def execJogVelWrite (axis : Fin 128) (v : Int) (s : State) : Res :=
  let m := s.rd (K.VEL_MAX axis.val)
  if -m ≤ v ∧ v ≤ m then answered (s.jogVelWrite axis.val v) else answered (s, .range)
/-- PROFILE_DEC_WRITE. -/
def execProfileDecWrite (axis : Fin 128) (pat : BitVec 32) (s : State) : Res :=
  if real32Finite pat.toNat ∧ (OdRange.real (b32 (1 / 100)) 100000).plain pat.toNat then
    answered (s.profileDecWrite axis.val pat.toNat)
  else answered (s, .range)
/-- HOMING_START. -/
def execHomingStart (axis : Fin 128) (s : State) : Res := answered (s.homingStart axis.val)
/-- GEAR_ENGAGE. -/
def execGearEngage (axis : Fin 128) (s : State) : Res := answered (s.gear axis.val 1)
/-- GEAR_DISENGAGE. -/
def execGearDisengage (axis : Fin 128) (s : State) : Res := answered (s.gear axis.val 2)
/-- STEP_ENGAGE. -/
def execStepEngage (axis : Fin 128) (s : State) : Res := answered (s.step_ axis.val 1)
/-- STEP_DISENGAGE. -/
def execStepDisengage (axis : Fin 128) (s : State) : Res := answered (s.step_ axis.val 2)

/-- SWITCH_DEBOUNCED (R252, R248): the raw value has differed for SWITCH_DEBOUNCE and the debounced state changes; an
active limit in the direction of motion ends the source and stops the axis. -/
def execSwitchDebounced (axis : Fin 128) (which : Fin 3) (s : State) : Res :=
  let a := axis.val
  let k := which.val
  let w := (s.mot a).switch k
  if (s.switchPoint a k).isNone ∨ w.run < max 1 (s.debounce a) then done s
  else
    let s := s.updMot a (fun m => m.setSwitch k { w with deb := w.raw, run := 0 })
    if k = 0 then done s
    else if !w.raw then done (s.wr (K.MOTION_FLAGS a) (setBit (s.rdN (K.MOTION_FLAGS a)) k false))
    else
      let v := (s.mot a).v
      let towards := (k = 2 ∧ 0 < v) ∨ (k = 1 ∧ v < 0)
      if s.source a = Src.HOMING ∨ !towards then done s
      else
        let s := s.startStop a (K.QUICK_STOP_DEC a) 0
        done (((s.wr (K.MOTION_FLAGS a) (setBit (s.rdN (K.MOTION_FLAGS a)) k true)).raise Ev.HW_LIMIT a k).touch a)

end Sys2Proof.Machine
end

