-- ==== Sys2Proof/Machine/AxisCoef.lean ====
section
/-! DEFINITION. The coefficients of an axis's stages from its objects (R163 to R181): limits, laws, insertion points,
filter-program runners, the closure checks of R188 and the initialisation of R189. -/

namespace Sys2Proof.Machine

open Sys2Proof

/-- AXIS_TYPE. -/
def State.axisType (s : State) (a : Nat) : Nat := s.cfN (K.AXIS_TYPE a)

/-- The stage is present: 1 current, 2 velocity, 3 position (R163). -/
def stagePresent (ty k : Nat) : Bool := ty != 0 && (k != 2 || ty != 2)

/-- A sensorless stepper in phase OPEN_LOOP (R223). -/
def State.openLoop4 (s : State) (a : Nat) : Bool := s.axisType a == 4 && s.rd (K.SENSORLESS_PHASE a) == 0

/-- The axis's currents follow the commanded angle: type 2, or type 4 in OPEN_LOOP (R221, R223). -/
def State.microstep (s : State) (a : Nat) : Bool := s.axisType a == 2 || s.openLoop4 a || s.rd (K.DEG_STATE a) == 2

/-- The stage is closed (R185): it computes from its feedback. -/
def State.stageClosed (s : State) (a k : Nat) : Bool :=
  stagePresent (s.axisType a) k && Nat.ble k (s.level a) && !(s.openLoop4 a && Nat.ble 2 k)

/-- Object of a stage: 2 current, 3 velocity, 4 position. -/
def stageKey (a k sub : Nat) : Nat := odKey (0x4001 + k + 32 * a) sub

/-- A stage's exponent. -/
def State.stageExp (s : State) (a k : Nat) : Int := s.rd (stageKey a k 1)

/-- A stage's period Ts, s (R165). -/
def State.stageTs (s : State) (a k : Nat) : Rat :=
  let d := if k = 1 then 1 else if k = 2 then s.cfN (K.VEL_DIV a) else s.cfN (K.POS_DIV a)
  ((d * s.ct : Nat) : Rat) / 1000000000

/-- VEL_MAX in turns/s. -/
def State.velMax (s : State) (a : Nat) : Rat := turnsOf (s.rd (K.VEL_MAX a))

/-- The stage the gain table serves: 2 velocity, 3 position; 0 where the table is off (R175). -/
def State.served (s : State) (a : Nat) : Nat := if s.rd (K.GT_COUNT a) = 0 then 0 else s.rdN (K.GT_STAGE a) + 1

/-- Breakpoints of the gain table: errors. -/
def State.gtX (s : State) (a : Nat) : List Rat := (List.range (s.rdN (K.GT_COUNT a))).map (fun k => s.rdR (K.GT_X a k))
/-- Breakpoints: factors. -/
def State.gtY (s : State) (a : Nat) : List Rat := (List.range (s.rdN (K.GT_COUNT a))).map (fun k => s.rdR (K.GT_Y a k))

/-- Slopes between consecutive breakpoints (R176). -/
def slopes : List Rat → List Rat → List Rat
  | x0 :: x1 :: xs, y0 :: y1 :: ys => coefVal ((y1 - y0) / (x1 - x0)) :: slopes (x1 :: xs) (y1 :: ys)
  | _, _ => []

/-- The law of an outer stage: 2 velocity, 3 position. -/
def State.law (s : State) (a k : Nat) : Law :=
  let e := s.stageExp a k
  let ts := s.stageTs a k
  let df := s.rdN (stageKey a k 5)
  let on := s.served a == k
  let x := if on then s.gtX a else []
  let y := if on then s.gtY a else []
  { e := e, kp := coefVal (s.rdR (stageKey a k 2)), kits := coefVal (s.rdR (stageKey a k 3) * ts)
    kd := coefVal (s.rdR (stageKey a k 4))
    alphaD := if df = 0 then none else some (coefVal (ts / ((df : Rat) / 1000000000 + ts)))
    ff := coefVal (s.rdR (stageKey a k 6))
    lim := toStage e (if k = 3 then s.velMax a else s.rdR (K.I_MAX a))
    scaleKi := s.rd (K.GT_SCALE_KI a) == 1
    gtX := x.map (toStage e), gtY := y.map coefVal, gtS := slopes x y
    directional := s.rd (stageKey a k 7) == 1, hold := s.rd (stageKey a k 8) == 1 }

/-- The voltage limit of R171 at a bus voltage in V. -/
def State.vLim (s : State) (a : Nat) (vbus : Rat) : Rat :=
  let m := (s.rd (K.MOD_LIMIT a) : Rat) / 1000 * vbus
  minR (s.rdR (K.V_MAX a)) (if twoBridge s.cf a then m else m / Config.sqrt3)

/-- The law of the current stage at a bus voltage. -/
def State.curLaw (s : State) (a : Nat) (vbus : Rat) : CurLaw :=
  let e := s.stageExp a 1
  { e := e, kp := coefVal (s.rdR (K.KP_4002 a)), kits := coefVal (s.rdR (K.KI_4002 a) * s.stageTs a 1)
    lim := toStage e (s.vLim a vbus) }

/-- The owning stage of an insertion point (R178). -/
def pointStage (p : Nat) : Nat := if p = 0 then 3 else if p = 3 then 1 else 2

/-- A biquad of a point: `q` is 2 for the first, 6 for the second. -/
def State.biq (s : State) (a p q : Nat) : Option BiqCo :=
  let k := odKey (0x4006 + 32 * a) (q + 10 * p)
  let f0 := s.rdR (k + 1)
  biqCo (s.rdN k) f0 (s.rdR (k + 2)) (s.rdR (k + 3)) (Config.tanHalf (f0 * s.stageTs a (pointStage p)))

/-- The elements of a point (R179). -/
def State.ptCo (s : State) (a p : Nat) : PtCo :=
  let ts := s.stageTs a (pointStage p)
  let tau := s.rdN (K.LP_TAU a p)
  { lp := if tau = 0 then none else some (coefVal (ts / ((tau : Rat) / 1000000000 + ts)))
    b1 := s.biq a p 2, b2 := s.biq a p 6 }

/-- The image of a loaded filter program. -/
def State.fpImage (s : State) (p : Nat) : Option Bytes := SMap.find s.fpLoaded p

/-- What RDCNT reads at an axis point: a live counter under the grant, and nothing with DUAL_HEAD (R211, R312). -/
def State.fpCounter (s : State) (n : Nat) : Option Nat :=
  if s.rd K.FP_COUNTER_GRANT = 1 ∧ s.rd K.DUAL_HEAD ≠ 1 then some (SMap.get s.counters.live 0 n) else none

/-- The selected program of a point, of non-zero length (R314). -/
def State.fpAt (s : State) (a p : Nat) : Option (Nat × Bytes) :=
  let k := s.rdN (K.FP_SELECT a p)
  match s.fpImage k with
  | some b => if k < 64 ∧ imgCode b ≠ 0 then some (k, b) else none
  | none => none

/-- How a point runs its program (R179, R306). -/
def State.fpRun (s : State) (a p : Nat) : FpRun :=
  (s.fpAt a p).map (fun kb u x => invoke s.fpCounter kb.2 u (s.stageExp a (pointStage p)) a p x)

/-- Count an invocation (R313, R314, R321). -/
def State.countFp (s : State) (prog : Nat) (data1 : Nat) (o : FpOut) : State :=
  let s := (s.wr (K.INVOCATIONS prog) (wrapU 32 (s.rd (K.INVOCATIONS prog) + 1))).perf 13 prog 1
  let s := if o.overrun then ((s.bump (K.OVERRUNS prog)).perf 14 prog 1).raise Ev.FP_OVERRUN prog data1 else s
  let s := if o.sat then s.bump (K.SAT_INVOCATIONS prog) else s
  if o.denied then s.bump (K.RDCNT_DENIED prog) else s

/-- Count the invocations of an execution of an axis's chain. -/
def State.countFps (s : State) (a : Nat) (l : List (Nat × FpOut)) : State :=
  foldS (fun s e => match s.fpAt a e.1 with
    | some kb => s.countFp kb.1 (4 * a + e.1) e.2
    | none => s) s l

/-! ### Closure (R187 to R189) -/

/-- The limits of a stage meet R167. -/
def State.limitsOk (s : State) (a k : Nat) : Bool :=
  let b := pow2 (s.stageExp a k - 1)
  let i := decide (s.rdR (K.I_MAX a) ≤ b)
  let v := decide (s.velMax a ≤ b)
  if k = 1 then i && decide (s.rdR (K.V_MAX a) ≤ b) else if k = 2 then i && v else v

/-- Non-negative and strictly ascending (R175). -/
def gtAscending : List Rat → Bool
  | [] => true
  | x :: r => decide (0 ≤ x) && (match r with | y :: _ => decide (x < y) | [] => true) && gtAscending r

/-- An active biquad meets R180. -/
def biqOk (ty : Nat) (f0 width ts : Rat) : Bool :=
  ty == 0 || (decide (1 ≤ f0 ∧ f0 ≤ 45 / 100 / ts) &&
    (if ty = 1 then decide (f0 / 100 ≤ width ∧ width ≤ 2 * f0) else decide (1 / 10 ≤ width ∧ width ≤ 2)))

/-- The active filters of a stage's points meet R180. -/
def State.filtersOk (s : State) (a k : Nat) : Bool :=
  ((List.range 4).filter (fun p => pointStage p == k)).all (fun p => [2, 6].all (fun q =>
    let j := odKey (0x4006 + 32 * a) (q + 10 * p)
    biqOk (s.rdN j) (s.rdR (j + 1)) (s.rdR (j + 2)) (s.stageTs a k)))

/-- The axis's feedback is valid (R274). -/
def State.fbValid (s : State) (a : Nat) : Bool :=
  s.power == 2 && (s.cf (K.FB_SOURCE a) == 0 || bit (s.rdN (K.FB_STATUS a)) 0)

/-- The first failing check of R188, as its code of LAST_REFUSAL. -/
def State.closeCheck (s : State) (a k : Nat) : Option Nat :=
  if !s.limitsOk a k then some 2
  else if s.served a = k ∧ !gtAscending (s.gtX a) then some 3
  else if !s.filtersOk a k then some 4
  else if !s.fbValid a then some 5
  else none

/-- The measured inputs last committed. -/
def State.inputs (s : State) (a : Nat) : Inputs :=
  (s.axis a).h1.getD { pos := s.rd (K.MEASURED_POS a), speed := s.rd (K.SPEED_EST a), i0 := 0, i1 := 0 }

/-- The state of an outer stage at closure (R189): `e` error, `df`, `ff` feed-forward value, `target` the inner stage's
present set-point; all in quanta. -/
def outerInit (L : Law) (e df ff fbPrev target : Int) : OuterSt :=
  let g := gainAt L e.natAbs
  let rest : Rat := L.kp * g.2.1 * e - L.kd * df + L.ff * ff
  let i := if L.kits = 0 then 0 else clampI (-L.lim) L.lim (leave (target - rest))
  { i := i, df := df, fbPrev := fbPrev, dir := 0, seg := g.1, out := clampI (-L.lim) L.lim (leave (rest + i)) }

/-- Close the current stage (R189). -/
def State.closeCur (s : State) (a : Nat) : State :=
  (s.updAxis a (fun x => { x with
    h0 := x.h1
    words := { x.words with i0 := 0, i1 := 0, d0 := 0, d1 := 0, pt3 := ptSteady 0, set := none } }))

/-- Close the velocity stage with a present set-point of its inner stage in A (R189). -/
def State.closeVel (s : State) (a : Nat) (inner : Rat) : State :=
  let L := s.law a 2
  let m := s.mot a
  let sp := toStage L.e m.v
  let fbIn := toStage L.e (turnsOf (s.inputs a).speed)
  let fb := (ptRun (s.ptCo a 2) (s.fpRun a 2) (ptSteady fbIn) fbIn).y
  let st := (ptRun (s.ptCo a 1) (s.fpRun a 1) (ptSteady sp) sp).y
  let o := outerInit L (satS 24 (st - fb)) 0 (toStage L.e m.a) fb (toStage L.e inner)
  s.updAxis a (fun x => { x with words := { x.words with vel := o, pt1 := ptSteady sp, pt2 := ptSteady fbIn } })

/-- Close the position stage: the set-point is set to the measured position (R189). -/
def State.closePos (s : State) (a : Nat) : State :=
  let L := s.law a 3
  let m := s.mot a
  let i := s.inputs a
  let o := outerInit L 0 (toStage L.e (turnsOf i.speed)) (toStage L.e m.v) 0 (toStage L.e m.v)
  (s.setP a i.pos).updAxis a (fun x => { x with words := { x.words with pos := o, pt0 := ptSteady 0 } })

/-- Close the stages from the present level outward to `lvl` (R188): each that passes its checks closes; at the first
that fails LAST_REFUSAL reports the check and CLOSED_LEVEL the level reached. `n` bounds the stages. -/
def State.closeGo (s : State) (a lvl : Nat) (inner : Rat) : Nat → State
  | 0 => s
  | n + 1 =>
    let k := s.level a + 1
    if lvl < k then s
    else if !stagePresent (s.axisType a) k ∨ (s.openLoop4 a ∧ 2 ≤ k) ∨ (s.microstep a ∧ k = 3) then
      if lvl ≤ k ∧ !stagePresent (s.axisType a) k then s
      else (s.wr (K.CLOSED_LEVEL a) k).closeGo a lvl inner n
    else
      match s.closeCheck a k with
      | some c => s.wr (K.LAST_REFUSAL a) c
      | none =>
        let s := if k = 1 then s.closeCur a else if k = 2 then s.closeVel a inner else s.closePos a
        (s.wr (K.CLOSED_LEVEL a) k).closeGo a lvl inner n

/-- The level CLOSE_LEVEL names: an absent stage means the next lower one present (R191). -/
def closeLevelOf (ty w : Nat) : Nat := let l := field w 4 2; if ty = 2 ∧ l = 2 then 1 else l

/-- Close up to a level. The position stage of a microstep axis performs no control and has no check (R221). -/
def State.closeTo (s : State) (a lvl : Nat) (inner : Rat) : State := s.closeGo a lvl inner 3

end Sys2Proof.Machine
end

