-- ==== Sys2Proof/Machine/AxisCtl.lean ====
section
/-! DEFINITION. The axis state machine (R181 to R193), axis faults and their reactions (R277, R278), the degraded mode
after feedback loss (R227, R228), and the writes of coefficients and limits. -/

namespace Sys2Proof.Machine

open Sys2Proof

/-! ### States and angles -/

/-- The axis state (R192): 0 NOT_CONFIGURED, 1 DISABLED, 2 ENABLING, 3 OPERATION, 4 STOPPING, 5 HALT, 6 DISABLING,
7 FAULT_REACTION, 8 FAULT, 9 STO_ACTIVE. -/
def State.axState (s : State) (a : Nat) : Nat := s.rdN (K.AXIS_STATE a)

/-- Enter a state; the time of entry is kept for the states that time out. -/
def State.setAxState (s : State) (a st : Nat) : State :=
  ((s.wr (K.AXIS_STATE a) st).updAxis a (fun x => { x with since := s.clk.now, changed := true }))

/-- PWM is enabled in ENABLING to DISABLING, HALT and FAULT_REACTION (R185). -/
def axRuns (st : Nat) : Bool := Nat.ble 2 st && Nat.ble st 7

/-- LAST_REFUSAL (R194). -/
def State.refusal (s : State) (a code : Nat) : State := s.wr (K.LAST_REFUSAL a) code

/-- The fractional part. -/
def fracR (x : Rat) : Rat := x - x.floor

/-- Wrap an angle to ±0.5 turn. -/
def wrapHalf (x : Rat) : Rat := fracR (x + 1 / 2) - 1 / 2

/-- POLE_PAIRS. -/
def State.polePairs (s : State) (a : Nat) : Nat := s.cfN (K.POLE_PAIRS a)

/-- The electrical angle of a position (R214), turns. -/
def State.angleS (s : State) (a : Nat) (p : Int) : Rat :=
  ((((s.polePairs a : Int) * p + s.rd (K.COMM_OFFSET a)) % 2 ^ 32 : Int) : Rat) / 4294967296

/-- The commanded angle of a position set-point (R221), turns; in the open-loop tail it continues from the observer's
angle (R228). -/
def State.angleC (s : State) (a : Nat) (p : Int) : Rat :=
  let res : Rat := (4 * s.rdN (K.MICROSTEP_RES a) : Nat)
  let q (d : Int) : Rat := ((((((s.polePairs a : Int) * d) % 2 ^ 32 : Int) : Rat) / 4294967296 * res).floor : Rat) / res
  let x := s.axis a
  if s.rd (K.DEG_STATE a) = 2 then fracR (x.degTheta + q (p - x.degBase))
  else fracR (q p + (s.rdN (K.COMM_OFFSET a) : Rat) / 4294967296)

/-- The demand of STO by the Lighthouse (R432). -/
def State.stoDemanded (s : State) (a : Nat) : Bool := decide (3 ≤ s.rd (K.AXIS_SAFETY_STATE a))

/-- The axis's island is integrated. -/
def State.axisPort (s : State) (a : Nat) : Bool :=
  match axisPlace s.cf a with
  | some p => s.integrated p.1
  | none => false

/-- AXIS_STATUS of the axis's record in the FEEDBACK kept in this cycle; 0 without one. -/
def State.axisStatus (s : State) (a : Nat) : Nat :=
  match axisPlace s.cf a with
  | some p => match (s.island p.1).fb with
    | some f => (fbRec f p.2).status
    | none => 0
  | none => 0

/-! ### Opening -/

/-- Every stage opens with its state set to 0 (R187); the source becomes IDLE, the sensorless phase OPEN_LOOP (R223). -/
def State.openAll (s : State) (a : Nat) : State :=
  let s := (((s.endSource a).goIdle a).wr (K.CLOSED_LEVEL a) 0).wr (K.SENSORLESS_PHASE a) 0
  s.updAxis a (fun x => { x with words := {}, spec := none, feRun := 0, aligning := false, quick := false, changed := true })

/-- PWM is cleared, the observer goes OFF (R225), the brake request ends, every stage opens, and the axis enters
`st`. -/
def State.powerOff (s : State) (a st : Nat) : State :=
  let s := ((s.openAll a).wr (K.OBS_STATE a) 0).updAxis a (fun x => { x with pwm := false, brakeReq := false })
  s.setAxState a st

/-- The position stage opens: a jog ramp takes its last output and goes to 0 (R190). -/
def State.openPos (s : State) (a : Nat) : State :=
  let v := ofStage (s.stageExp a 3) (s.axis a).words.pos.out
  let s := (((s.endSource a).wr (K.SOURCE a) Src.JOG).setVA a (if s.openLoop4 a then (s.mot a).v else v) 0)
  let s := s.setRamp a false 0 0 (s.rdR (K.JOG_ACC a)) (s.rdR (K.JOG_DEC a)) 0
  ((s.wr (K.CLOSED_LEVEL a) 2)).updAxis a (fun x => { x with
    words := { x.words with pos := {}, pt0 := {} }, changed := true })

/-- The velocity stage opens: IQ_SETPOINT takes its last output (R190). -/
def State.openVel (s : State) (a : Nat) : State :=
  let i := ofStage (s.stageExp a 2) (s.axis a).words.vel.out
  let s := if s.openLoop4 a ∨ s.axisType a = 2 then s else s.wr (K.IQ_SETPOINT a) (real32Bits i)
  (((s.endSource a).goIdle a).wr (K.CLOSED_LEVEL a) 1).updAxis a (fun x => { x with
    words := { x.words with vel := {}, pt1 := {}, pt2 := {} }, changed := true })

/-- Open the stages above a level, from the outermost inward. -/
def State.openTo (s : State) (a lvl : Nat) : State :=
  let s := if lvl < 3 ∧ 3 ≤ s.level a then s.openPos a else s
  if lvl < 2 ∧ 2 ≤ s.level a then s.openVel a else s

/-- The present set-point of the current stage, A (R189): IQ_SETPOINT, 0 while ENABLING. -/
def State.iqNow (s : State) (a : Nat) : Rat :=
  if s.axState a = 2 then 0 else s.rdR (K.IQ_SETPOINT a)

/-- Open or close stages toward CLOSE_LEVEL (R187). -/
def State.toLevel (s : State) (a : Nat) : State :=
  let l := closeLevelOf (s.axisType a) (s.rdN (K.CONTROL_WORD a))
  if l < s.level a then s.openTo a l
  else if s.level a < l then (s.closeTo a l (s.iqNow a)).touch a
  else s

/-! ### Stops -/

/-- The stop of R192 with R246: at CLOSE_LEVEL 1 the velocity stage closes first and the ramp starts from the speed
estimate; where no stage ticks there is nothing to ramp. -/
def State.stopAxis (s : State) (a key : Nat) : State :=
  let s := if s.level a = 1 then
      ((s.endSource a).setVA a (turnsOf (s.rd (K.SPEED_EST a))) 0).closeTo a 2 (s.iqNow a)
    else s
  if 2 ≤ s.level a then ((s.startStop a key 0).updAxis a (fun x => { x with reactDec := s.rdR key })).touch a
  else ((s.endSource a).goIdle a).touch a

/-- DISABLING: the brake is asked to close (R192). -/
def State.toDisabling (s : State) (a : Nat) : State :=
  (s.setAxState a 6).updAxis a (fun x => { x with brakeReq := false, aligning := false })

/-! ### Faults (R192, R277, R278) -/

/-- FAULT_REACTION is complete: PWM cleared, every stage open (R192). -/
def State.reactionDone (s : State) (a : Nat) : State := s.powerOff a 8

/-- Latch a fault (R192). -/
def State.latch (s : State) (a ev : Nat) : State := s.wr (K.FAULT_CODE a) ev

/-- The reaction of a fault starts (R278): 0 STO at once, 1 QUICK_STOP, 2 STOP; with a ramp reaction running, the
steeper deceleration. -/
def State.react (s : State) (a react : Nat) : State :=
  let key := if react = 1 then K.QUICK_STOP_DEC a else K.STOP_DEC a
  if react = 0 then s.reactionDone a
  else if s.axState a = 7 then (if (s.axis a).reactDec < s.rdR key then s.stopAxis a key else s)
  else (s.stopAxis a key).setAxState a 7

/-- The axis is in DEGRADED or OPEN_TAIL (R228). -/
def State.degraded (s : State) (a : Nat) : Bool := s.rd (K.DEG_STATE a) == 1 || s.rd (K.DEG_STATE a) == 2

/-- An axis fault with its reaction (R192, R278); in degraded mode and in states without PWM it is only recorded. -/
def State.axisFault (s : State) (a ev react : Nat) : State :=
  let st := s.axState a
  let s := s.raise ev a react
  if !axRuns st ∨ s.degraded a then s
  else if st = 7 then s.react a react
  else (s.latch a ev).react a react

/-- Sensorless control is available (R227); `frame`: the island's FEEDBACK frame is valid. -/
def State.sensorless (s : State) (a : Nat) (frame : Bool) : Bool :=
  (s.axisType a == 1 || s.axisType a == 3) && s.rd (K.DEG_ENABLE a) == 1 && s.rd (K.OBS_STATE a) == 3 && frame

/-- Degraded mode is entered (R228): the position stage opens and the velocity stage follows the quick-stop ramp. -/
def State.degrade (s : State) (a ev : Nat) : State :=
  let cause := ev - 131
  let s := (if 3 ≤ s.level a then s.openPos a else s).stopAxis a (K.QUICK_STOP_DEC a)
  let s := ((s.latch a ev).setAxState a 7).updAxis a (fun x => { x with
    aligning := false, degAt := s.clk.now, degUntil := s.clk.now + 1000000 * s.rdN (K.DEG_TIME a) })
  (((s.wr (K.DEG_STATE a) 1).wr (K.LAST_DEG_CAUSE a) cause).bump (K.DEG_ENTRIES a)).raise Ev.DEGRADED_ENTER a cause

/-- FEEDBACK_LOST (132) or FEEDBACK_FROZEN (133) on an axis (R277). -/
def State.feedbackFault (s : State) (a ev : Nat) (frame : Bool) : State :=
  let st := s.axState a
  let s := ((s.wr (K.FB_STATUS a) (setBit (s.rdN (K.FB_STATUS a)) (ev - 129) true)).bump (K.FEEDBACK_FAULTS a))
  let deg := axRuns st && !s.degraded a && s.sensorless a frame
  let s := s.raise ev a (b2n deg)
  if !axRuns st ∨ s.degraded a then s
  else if deg then s.degrade a ev
  else (if st = 7 then s else s.latch a ev).reactionDone a

/-- Degraded mode ends (R228): 1 STANDSTILL, 2 LOW_SPEED, 3 OBSERVER_LOST, 4 TIME_LIMIT with STO, 5 STO_DEMAND. -/
def State.degEnd (s : State) (a outcome : Nat) : State :=
  let ms := (s.clk.now - (s.axis a).degAt) / 1000000
  let s := (((s.wr (K.DEG_STATE a) 3).wr (K.LAST_DEG_OUTCOME a) outcome).wr (K.LAST_DEG_DURATION a)
    (min 65535 ms : Nat)).raise Ev.DEGRADED_END a outcome
  if outcome = 5 then s else s.reactionDone a

/-- The cause of a latched fault is still there (R192): a switch back to what the monitors of this axis see. -/
def State.causePresent (s : State) (a : Nat) : Bool :=
  let c := s.rdN (K.FAULT_CODE a)
  let st := s.axisStatus a
  let p := s.rd (K.MEASURED_POS a)
  let fb := s.rdN (K.FB_STATUS a)
  (c == Ev.SOFT_LIMIT && s.rd (K.SOFT_LIMIT_ENABLE a) == 1 &&
      decide (p < s.rd (K.POS_SOFT_MIN a) ∨ s.rd (K.POS_SOFT_MAX a) < p))
    || (c == Ev.OVERSPEED && decide (s.rd (K.OVERSPEED a) < (s.rd (K.SPEED_EST a)).natAbs))
    || (c == Ev.ISLAND_OVERCURRENT && bit st 1) || (c == Ev.ISLAND_TEMP && bit st 2)
    || (bit fb 3 && s.rd (K.MISSING_RUN a) != 0)
    || (bit fb 4 && ((axisPlace s.cf a).map (fun q => (s.island q.1).fbStale)).getD false)

/-- A recorded feedback fault clears (R277). -/
def State.clearFeedback (s : State) (a : Nat) : State :=
  s.wr (K.FB_STATUS a) (setBit (setBit (s.rdN (K.FB_STATUS a)) 3 false) 4 false)

/-! ### STO (R192, R193) -/

/-- The Lighthouse demands STO for the axis. -/
def State.stoAxis (s : State) (a : Nat) : State :=
  if s.axState a = 0 ∨ s.axState a = 9 then s
  else
    let s := if s.degraded a then s.degEnd a 5 else s
    (s.powerOff a 9).updAxis a (fun x => { x with enableSet := false })

/-- The STO demand is withdrawn: the axis leaves STO_ACTIVE only with ENABLE = 0. -/
def State.stoWithdrawn (s : State) (a : Nat) : State :=
  if s.axState a ≠ 9 ∨ s.stoDemanded a then s
  else if bit (s.rdN (K.CONTROL_WORD a)) 0 then
    if (s.axis a).enableSet then s
    else (s.refusal a 8).updAxis a (fun x => { x with enableSet := true })
  else s.setAxState a (if s.rd (K.FAULT_CODE a) = 0 then 1 else 8)

/-! ### CONTROL_WORD (R191, R192) -/

/-- The observer starts with PWM (R225). -/
def State.obsStart (s : State) (a : Nat) : State :=
  if s.rd (K.OBS_ENABLE a) ≠ 1 then s
  else
    let t := s.axisType a
    let th := if t = 2 ∨ t = 4 then s.angleC a (s.pSet a) else s.angleS a (s.rd (K.MEASURED_POS a))
    (s.wr (K.OBS_STATE a) 1).updAxis a (fun x => { x with
      obs := { x.obs with
        theta := th, thetaPrev := th, i0 := 0, i1 := 0
        omega := Config.twoPi * (s.polePairs a : Rat) * turnsOf (s.rd (K.SPEED_EST a)) } })

/-- Alignment starts (R220). -/
def State.startAlign (s : State) (a : Nat) : State :=
  s.updAxis a (fun x => { x with aligning := true, since := s.clk.now, changed := true })

/-- The conditions of ENABLE := 1 in DISABLED (R192, R24), as the code of the first that fails. -/
def State.enableBar (s : State) (a : Nat) : Option Nat :=
  if s.power ≠ 2 then some 12
  else if s.rd (K.FAULT_CODE a) ≠ 0 then some 6
  else if s.stoDemanded a then some 7
  else if !s.axisPort a then some 9
  else if !s.fbValid a then some 5
  else s.closeCheck a 1

/-- ENABLE := 1 accepted: PWM on, the current stage closes with set-point 0, brake release is requested (R192). -/
def State.enable (s : State) (a : Nat) : State :=
  let s := ((s.setAxState a 2).closeCur a).wr (K.CLOSED_LEVEL a) 1
  let s := s.updAxis a (fun x => { x with pwm := true, brakeReq := true, brakeSeen := false, aligning := false, stillSince := none })
  let s := ((s.goIdle a).obsStart a).bump (K.ENABLE_COUNT a)
  if s.cf (K.COMM_SOURCE a) = 1 ∧ s.rd (K.BRAKE_OPEN_TIME a) = 0 then s.startAlign a else s

/-- The refusal of ENABLE := 1 by state (R192). -/
def State.enableRefused (s : State) (a : Nat) : Option Nat :=
  match s.axState a with
  | 0 => some 11
  | 1 => s.enableBar a
  | 7 => some 6
  | 8 => some 6
  | 9 => some 7
  | _ => none

/-- ENABLE := 0 by state (R192, R193); `quick`: QUICK_STOP := 1 comes with it. -/
def State.disable (s : State) (a : Nat) (quick : Bool) : State :=
  match s.axState a with
  | 2 => s.toDisabling a
  | 5 => s.toDisabling a
  | 3 => (s.stopAxis a (if quick then K.QUICK_STOP_DEC a else K.STOP_DEC a)).setAxState a 4
  | 4 => if quick then s.stopAxis a (K.QUICK_STOP_DEC a) else s
  | 9 => s.stoWithdrawn a
  | _ => s

/-- FAULT_RESET in FAULT (R192), or for a feedback fault only recorded in DISABLED (R277): none, or the refusal. -/
def State.faultReset (s : State) (a : Nat) : Option Nat × State :=
  if s.axState a = 8 then
    if bit (s.rdN (K.CONTROL_WORD a)) 0 then (some 8, s)
    else if s.causePresent a then (some 10, s)
    else (none, (((s.clearFeedback a).wr (K.FAULT_CODE a) 0).wr (K.DEG_STATE a) 0).setAxState a 1)
  else if s.axState a = 1 ∧ !s.causePresent a then (none, s.clearFeedback a)
  else (none, s)

/-- A change of QUICK_STOP (R192, R193): `on` 1, otherwise 0. -/
def State.quickStop (s : State) (a : Nat) (on : Bool) : State :=
  let st := s.axState a
  if on then
    if st = 3 then ((s.stopAxis a (K.QUICK_STOP_DEC a)).setAxState a 4).updAxis a (fun x => { x with quick := true })
    else if st = 4 ∧ !(s.axis a).quick then
      (s.stopAxis a (K.QUICK_STOP_DEC a)).updAxis a (fun x => { x with quick := true })
    else s
  else if st = 5 ∧ bit (s.rdN (K.CONTROL_WORD a)) 0 then (s.setAxState a 3).updAxis a (fun x => { x with quick := false })
  else s

/-- CONTROL_WORD holds no other bit and names a level (R191). -/
def controlOk (w : Nat) : Bool := w == w % 64 && !bit w 3 && field w 4 2 != 0

/-- A write of CONTROL_WORD (R191 to R193). -/
def State.controlWrite (s : State) (a w : Nat) : WRes :=
  let old := s.rdN (K.CONTROL_WORD a)
  let up (i : Nat) : Bool := bit w i && !bit old i
  let down (i : Nat) : Bool := !bit w i && bit old i
  if !controlOk w then (s, .range)
  else match (if up 0 then s.enableRefused a else none) with
  | some c => (s.refusal a c, .refused)
  | none =>
    let s1 := s.wr (K.CONTROL_WORD a) w
    match (if up 2 then s1.faultReset a else (none, s1)) with
    | (some c, _) => (s.refusal a c, .refused)
    | (none, s2) =>
      let s3 := if up 0 ∧ s.axState a = 1 then s2.enable a else s2
      let s4 := if down 0 then s3.disable a (up 1) else s3
      let s5 := if up 1 then s4.quickStop a true else if down 1 then s4.quickStop a false else s4
      let s6 := if s5.axState a = 3 ∨ s5.axState a = 5 then s5.toLevel a else s5
      WRes.ok (s6.touch a)

/-- AXIS_ENABLE: a write that changes ENABLE from 0 to 1. -/
def execAxisEnable (axis : Fin 128) (w : BitVec 16) (s : State) : Res :=
  if bit w.toNat 0 ∧ !bit (s.rdN (K.CONTROL_WORD axis.val)) 0 then answered (s.controlWrite axis.val w.toNat) else done s

/-- AXIS_DISABLE: a write that changes ENABLE from 1 to 0. -/
def execAxisDisable (axis : Fin 128) (w : BitVec 16) (s : State) : Res :=
  if !bit w.toNat 0 ∧ bit (s.rdN (K.CONTROL_WORD axis.val)) 0 then answered (s.controlWrite axis.val w.toNat) else done s

/-- QUICK_STOP: a write that changes QUICK_STOP from 0 to 1. -/
def execQuickStop (axis : Fin 128) (w : BitVec 16) (s : State) : Res :=
  if bit w.toNat 1 ∧ !bit (s.rdN (K.CONTROL_WORD axis.val)) 1 then answered (s.controlWrite axis.val w.toNat) else done s

/-- QUICK_STOP_RELEASE: a write that changes QUICK_STOP from 1 to 0. -/
def execQuickStopRelease (axis : Fin 128) (w : BitVec 16) (s : State) : Res :=
  if !bit w.toNat 1 ∧ bit (s.rdN (K.CONTROL_WORD axis.val)) 1 then answered (s.controlWrite axis.val w.toNat) else done s

/-- FAULT_RESET: a write that changes FAULT_RESET from 0 to 1. -/
def execFaultReset (axis : Fin 128) (w : BitVec 16) (s : State) : Res :=
  if bit w.toNat 2 ∧ !bit (s.rdN (K.CONTROL_WORD axis.val)) 2 then answered (s.controlWrite axis.val w.toNat) else done s

/-- CLOSE_LEVEL_WRITE: a write that changes CLOSE_LEVEL. -/
def execCloseLevelWrite (axis : Fin 128) (w : BitVec 16) (s : State) : Res :=
  if field w.toNat 4 2 ≠ field (s.rdN (K.CONTROL_WORD axis.val)) 4 2 then answered (s.controlWrite axis.val w.toNat)
  else done s

/-! ### Timed transitions (R192, R220) -/

/-- Milliseconds of an entry as ns. -/
def State.msOf (s : State) (k : Nat) : Nat := 1000000 * s.rdN k

/-- ENABLING completes: OPERATION, and the stages up to CLOSE_LEVEL close (R192). -/
def State.operate (s : State) (a : Nat) : State :=
  let s := (s.updAxis a (fun x => { x with aligning := false })).setAxState a 3
  (s.closeTo a (closeLevelOf (s.axisType a) (s.rdN (K.CONTROL_WORD a))) 0).touch a

/-- BRAKE_OPEN_TIMEOUT: BRAKE_OPEN_TIME has elapsed in ENABLING. -/
def execBrakeOpenTimeout (axis : Fin 128) (t : Nat) (s : State) : Res :=
  let a := axis.val
  let s := s.at t
  if s.axState a ≠ 2 ∨ (s.axis a).aligning ∨ !s.elapsed (s.axis a).since (s.msOf (K.BRAKE_OPEN_TIME a)) then done s
  else if s.rd (K.BRAKE_OPEN_TIME a) ≠ 0 ∧ !bit (s.axisStatus a) 5 then done (s.axisFault a Ev.BRAKE_FEEDBACK 0)
  else if s.cf (K.COMM_SOURCE a) = 1 then done (s.startAlign a)
  else done (s.operate a)

/-- ALIGNMENT_COMPLETE: ALIGN_TIME has elapsed (R220). -/
def execAlignmentComplete (axis : Fin 128) (t : Nat) (s : State) : Res :=
  let a := axis.val
  let s := s.at t
  if !(s.axState a == 2 && (s.axis a).aligning && s.elapsed (s.axis a).since (s.msOf (K.ALIGN_TIME a))) then done s
  else done ((s.wr (K.COMM_OFFSET a) (wrapU 32 (-((s.polePairs a : Int) * s.rd (K.MEASURED_POS a))))).operate a)

/-- BRAKE_CLOSE_TIMEOUT: BRAKE_CLOSE_TIME has elapsed in DISABLING. -/
def execBrakeCloseTimeout (axis : Fin 128) (t : Nat) (s : State) : Res :=
  let a := axis.val
  let s := s.at t
  if s.axState a = 6 ∧ s.elapsed (s.axis a).since (s.msOf (K.BRAKE_CLOSE_TIME a)) then done (s.powerOff a 1) else done s

/-- The speed has stayed below STANDSTILL_SPEED for STANDSTILL_TIME (R192). -/
def State.still (s : State) (a : Nat) : Bool :=
  match (s.axis a).stillSince with
  | some t0 => s.elapsed t0 (s.msOf (K.STANDSTILL_TIME a))
  | none => false

/-- STANDSTILL of a stopping axis (R192, R193, R278): the stop ramp has ended and the shaft rests. -/
def execStandstill (axis : Fin 128) (t : Nat) (s : State) : Res :=
  let a := axis.val
  let s := s.at t
  if !s.still a ∨ s.source a = Src.STOP then done s
  else if s.axState a = 4 then
    let w := s.rdN (K.CONTROL_WORD a)
    if !bit w 0 then done (s.toDisabling a)
    else if (s.axis a).quick ∧ !bit w 1 then
      done (((s.setAxState a 3).updAxis a (fun x => { x with quick := false })).toLevel a)
    else done (s.setAxState a 5)
  else if s.axState a = 7 ∧ !s.degraded a then done (s.reactionDone a)
  else done s

/-! ### Coefficients, limits, run-ahead (R181, R187, R209) -/

/-- The stages a coefficient belongs to (R187, R229): objects 2 to 4 one stage each, object 5 the stages before and after
a write of GT_STAGE, object 6 the point's stage, objects 8 and 9 the current stage. -/
def State.coefStages (s : State) (a obj sub : Nat) (v : Int) : List Nat :=
  let g := s.rdN (K.GT_STAGE a) + 1
  match obj with
  | 2 => [1]
  | 3 => [2]
  | 4 => [3]
  | 5 => if sub = 1 then [g, v.toNat + 1] else [g]
  | 6 => [pointStage ((sub - 1) / 10)]
  | 8 => if sub = 9 ∧ (s.axis a).aligning then [] else [1]
  | 9 => if sub = 2 ∨ sub = 3 then [] else [1]
  | _ => []

/-- The entry is a coefficient of the axis (R187, R229). -/
def isCoef (obj sub : Nat) : Bool :=
  match odRow (odKey (0x4000 + obj) sub) with
  | some r => (Nat.ble 2 obj && Nat.ble obj 6 || obj == 8 || obj == 9) && r.access == .rw && r.cls == .live
  | none => false

/-- A coefficient write (R187). -/
def State.coefWrite (s : State) (a obj sub : Nat) (v : Int) : WRes :=
  let k := odKey (0x4000 + obj + 32 * a) sub
  if (s.coefStages a obj sub v).any (fun j => s.stageClosed a j) then (s.refusal a 1, .refused)
  else WRes.ok ((s.wr k v).touch a)

/-- COEFFICIENT_WRITE. -/
def execCoefficientWrite (axis : Fin 128) (obj : Fin 32) (sub : Fin 256) (v : Int) (s : State) : Res :=
  if !isCoef obj.val sub.val then done s
  else if !valueOk s (odKey (0x4000 + obj.val + 32 * axis.val) sub.val) v then answered (s, .range)
  else answered (s.coefWrite axis.val obj.val sub.val v)

/-- The stages a limit bounds (R167): I_MAX the current and velocity stages, V_MAX the current stage, VEL_MAX the velocity
and position stages. -/
def limitStages (sub : Nat) : List Nat := if sub = 1 then [1, 2] else if sub = 2 then [1] else if sub = 4 then [2, 3] else []

/-- A write of a limit (R181): refused only where a closed stage it bounds would break R167. -/
def State.limitWrite (s : State) (a sub : Nat) (v : Int) : WRes :=
  let s' := s.wr (odKey (0x400C + 32 * a) sub) v
  if (limitStages sub).any (fun k => s.stageClosed a k && !s'.limitsOk a k) then (s.refusal a 2, .refused)
  else WRes.ok (s'.touch a)

/-- LIMIT_WRITE. -/
def execLimitWrite (axis : Fin 128) (sub : Fin 256) (v : Int) (s : State) : Res :=
  let k := odKey (0x400C + 32 * axis.val) sub.val
  if (odRow k).isNone then done s
  else if !valueOk s k v then answered (s, .range)
  else answered (s.limitWrite axis.val sub.val v)

/-- A write of RA_ENABLE (R209). -/
def State.raEnableWrite (s : State) (a : Nat) (v : Int) : WRes :=
  if s.stageClosed a 1 then (s.refusal a 1, .refused) else WRes.ok ((s.wr (K.RA_ENABLE a) v).touch a)

/-- RA_ENABLE_WRITE. -/
def execRaEnableWrite (axis : Fin 128) (v : Bool) (s : State) : Res := answered (s.raEnableWrite axis.val (b2i v))

/-! ### Faults with rows of their own -/

/-- FOLLOWING_ERROR (R182): FE_TIME consecutive executions outside FE_WINDOW. -/
def execFollowingError (axis : Fin 128) (s : State) : Res :=
  let a := axis.val
  if s.rd (K.FE_WINDOW a) = 0 ∨ !s.stageClosed a 3 ∨ (s.axis a).feRun < max 1 (s.rdN (K.FE_TIME a)) ∨ (s.axis a).feFlag then
    done s
  else done ((s.updAxis a (fun x => { x with feFlag := true })).axisFault a Ev.FOLLOWING_ERROR
    (s.rdN (K.REACT_FOLLOWING_ERROR a)))

/-- The commanded speed, turns/s. -/
def State.commandedSpeed (s : State) (a : Nat) : Rat := absR (s.mot a).v

/-- The stall criterion of R226 holds; detection is suppressed in degraded mode, during alignment, and while the
commanded speed is below MIN_OBS_SPEED. -/
def State.stalled (s : State) (a : Nat) : Bool :=
  let x := s.axis a
  let ty := s.axisType a
  let micro := ty == 2 || s.openLoop4 a
  s.rd (K.STALL_ENABLE a) == 1 && axRuns (s.axState a) && !s.degraded a && !x.aligning
    && decide (turnsOf (s.rd (K.MIN_OBS_SPEED a)) ≤ s.commandedSpeed a)
    && (if micro then s.rd (K.OBS_ENABLE a) == 1 && Nat.ble (max 1 (s.rdN (K.STALL_CYCLES a))) (max x.stallRun x.stallTime)
        else (ty == 3 || ty == 4) && x.stallTime != 0 &&
          Nat.ble (s.msOf (K.STALL_TIME a)) (x.stallTime * s.ct))

/-- STALL (R226). -/
def execStall (axis : Fin 128) (s : State) : Res :=
  let a := axis.val
  if !s.stalled a then done s
  else
    let s := (s.bump (K.STALLS a)).updAxis a (fun x => { x with stallRun := 0, stallTime := 0 })
    done (s.axisFault a Ev.STALL (s.rdN (K.REACT_STALL a)))

/-- The island's FEEDBACK frame of this cycle is valid and not stale (R227, R276). -/
def State.frameValid (s : State) (a : Nat) : Bool :=
  match axisPlace s.cf a with
  | some p => (s.island p.1).fb.isSome && !(s.island p.1).fbStale
  | none => false

/-- FEEDBACK_LOST (R275): N_LOST consecutive missing cycles. -/
def execFeedbackLost (axis : Fin 128) (s : State) : Res :=
  let a := axis.val
  if s.cf (K.FB_SOURCE a) = 0 ∨ s.rdN (K.MISSING_RUN a) < max 1 (s.rdN (K.N_LOST a)) ∨ bit (s.rdN (K.FB_STATUS a)) 3 then
    done s
  else done (s.feedbackFault a Ev.FEEDBACK_LOST (s.frameValid a))

/-- FEEDBACK_FROZEN, the still count (R276): N_FREEZE cycles without a change while the observer runs. -/
def execFeedbackFrozen (axis : Fin 128) (s : State) : Res :=
  let a := axis.val
  if s.cf (K.FB_SOURCE a) = 0 ∨ (s.axis a).freezeRun < max 1 (s.rdN (K.N_FREEZE a)) ∨ bit (s.rdN (K.FB_STATUS a)) 4 then
    done s
  else done (s.feedbackFault a Ev.FEEDBACK_FROZEN (s.frameValid a))

/-- OBSERVER_CONVERGED (R225): the angle errors have stayed within OBS_CONV_ERR for OBS_CONV_TIME. -/
def execObserverConverged (axis : Fin 128) (t : Nat) (s : State) : Res :=
  let a := axis.val
  let s := s.at t
  if s.rd (K.OBS_STATE a) = 2 ∧ s.elapsed (s.axis a).obs.since (s.msOf (K.OBS_CONV_TIME a)) then
    done (s.wr (K.OBS_STATE a) 3)
  else done s

/-- HOLD_DELAY_EXPIRY (R221): the set-point of a stepper has stayed for HOLD_DELAY. -/
def execHoldDelayExpiry (axis : Fin 128) (t : Nat) (s : State) : Res :=
  let a := axis.val
  let s := s.at t
  if s.axisType a = 2 ∧ !(s.mot a).holding ∧ s.elapsed (s.mot a).setSince (s.msOf (K.HOLD_DELAY a)) then
    done (s.updMot a (fun m => { m with holding := true }))
  else done s

/-- DEG_TIME_EXPIRY (R228). -/
def execDegTimeExpiry (axis : Fin 128) (t : Nat) (s : State) : Res :=
  let a := axis.val
  let s := s.at t
  if s.degraded a ∧ (s.axis a).degUntil ≤ s.clk.now then done (s.degEnd a 4) else done s

end Sys2Proof.Machine
end

