-- ==== Sys2Proof/Machine/Dual.lean ====
section
/-! DEFINITION. The digest of the active configuration (R525), and dual head (R83 to R92). -/

namespace Sys2Proof.Machine

open Sys2Proof

/-- The keys of a table row. -/
def OdRow.keys (r : OdRow) : List Nat :=
  (List.range r.count).flatMap (fun i => (List.range r.n).map (fun j => odKey (r.base + i * r.stride) (r.lo + j)))

/-- The rows of the configuration objects (R330). -/
def configRows : List OdRow := odBlocks.flatMap (fun b => b.2.2.filter (fun r => r.cls == .config))

/-- Insert a row's key in ascending order. -/
def insertKey (e : Nat × OdType) : List (Nat × OdType) → List (Nat × OdType)
  | [] => [e]
  | x :: r => if e.1 < x.1 then e :: x :: r else x :: insertKey e r

/-- The configuration objects with their types, in ascending index and subindex (R525). -/
def configKeys : List (Nat × OdType) :=
  (configRows.flatMap (fun r => r.keys.map (fun k => (k, r.ty)))).foldl (fun a e => insertKey e a) []

/-- What an entry contributes to the digest (R525). -/
def digestEntry (index sub : Nat) (ty : OdType) (v : Int) : Bytes := leBytes 2 index ++ leBytes 1 sub ++ leInt ty.size v

/-- Bytes of an octet or text entry in the digest: a length and the octets. -/
def digestBytes (index sub : Nat) (b : Bytes) : Bytes := leBytes 2 index ++ leBytes 1 sub ++ leBytes 2 b.length ++ b

/-- CONFIG_DIGEST (R525). -/
def State.configDigest (s : State) : Nat :=
  let cfg := configKeys.flatMap (fun e => match e.2 with
    | .octet _ => digestBytes (e.1 / 256) (e.1 % 256) (s.rdB e.1)
    | .vstring _ => digestBytes (e.1 / 256) (e.1 % 256) (s.rdB e.1)
    | t => digestEntry (e.1 / 256) (e.1 % 256) t (s.cf e.1))
  let head := (fromTo 1 10).flatMap (fun j =>
    match odRow (odKey 0x2000 j) with
    | some r => digestEntry 0x2001 j r.ty (s.cf (odKey 0x2000 j))
    | none => [])
  let roles := (fromTo 1 65).flatMap (fun j => digestEntry 0x2002 j (.u 8) (s.cf (odKey 0x2002 j)))
  let masks := (fromTo 3 65).flatMap (fun j => digestEntry 0x2003 j (.u 32) (s.cf (odKey 0x2003 j)))
  let owners := (List.range 1024).flatMap (fun id =>
    digestEntry (0x2004 + id / 256) (id % 256) (.u 16) (s.cf (K.MINISLOT_OWNER id)))
  crc32c (cfg ++ head ++ roles ++ masks ++ owners)

/-- Resynchronisation begins: STANDBY_HEAD is set (R87 to R90). -/
def State.startResync (s : State) : State :=
  (s.wrN K.DH_STATE DH.RESYNC).updDual (fun d => { d with standby := true, equalRun := 0, mismatch := [], resyncAt := s.clk.now })

/-- INTEGRATE_COMPLETE (R64, R84): `cycles` is how many consecutive cycles the own time was within the assumed
precision of the other head, whose configuration digest is `peerDigest`. -/
def execIntegrateComplete (cycles peerDigest : Nat) (s : State) : Res :=
  if s.netState = N.INTEGRATE then
    let s := s.wrN K.PEER_CONFIG_DIGEST peerDigest
    if s.configDigest ≠ peerDigest then
      done ((s.toOff 4).raiseU Ev.DH_CONFIG_MISMATCH none (some s.cycle) [])
    else if 8 ≤ cycles then
      done (((s.setNet N.OPERATE).wrN K.DH_ROLE 2).startResync.tryIntegrateAll)
    else done s
  else done s

/-- PEER_INTEGRATED (R84, R89). -/
def execPeerIntegrated (s : State) : Res :=
  if s.dhState = DH.ALONE ∧ s.netState = N.OPERATE ∧ s.straitUp then
    done ((s.wrN K.DH_ROLE 1).wrN K.DH_STATE DH.ACTIVE)
  else done s

/-- The strait link is lost (R26, R89). -/
def State.straitLost (s : State) : State :=
  if s.straitUp then
    let s := (s.wr K.STRAIT_STATE 0).startRide Ev.STRAIT_LINK_LOST
    if s.dhState = DH.ACTIVE then (s.wrN K.DH_STATE DH.ALONE).raiseU Ev.STRAIT_LINK_LOST none (some s.cycle) []
    else if s.dhState = DH.RESYNC ∨ s.dhState = DH.VERIFY then
      (s.wrN K.DH_STATE DH.STANDBY).raiseU Ev.STRAIT_LINK_LOST none (some s.cycle) []
    else s
  else s

/-- STRAIT_LINK_LOST. -/
def execStraitLinkLost (s : State) : Res := done s.straitLost

/-- STRAIT_LINK_RETURN (R89): the strait link comes up with its delay in 1/16 ns; `peerOperates` says whether the
other head is in OPERATE with its role held. -/
def execStraitLinkReturn (delay : Nat) (peerOperates : Bool) (s : State) : Res :=
  if s.domainOn Dom.NET_B ∧ s.straitUp = false then
    let s := ((s.takePreset 48).wr K.STRAIT_STATE 2).wrN K.STRAIT_DELAY delay
    if s.dhState = DH.ALONE ∧ s.netState = N.OPERATE ∧ peerOperates ∧ s.dhRole ≠ 0 then
      let s := s.updDual (fun d => { d with equalRun := 0, mismatch := [], resyncAt := s.clk.now })
      done (s.wrN K.DH_STATE (if s.dhRole = 2 then DH.VERIFY else DH.ACTIVE))
    else if s.dhState = DH.STANDBY then done s.startResync
    else done s
  else done s

/-- One axis's digests compared (R87): a mismatch is counted and its run grows. -/
def State.compareDigest (s : State) (e : Nat × Nat) : State :=
  match SMap.find s.dual.digests e.1 with
  | none => s
  | some d =>
    if d = e.2 then s.updDual (fun x => { x with mismatch := SMap.put x.mismatch 0 e.1 0 })
    else (s.bump K.DIGEST_MISMATCHES).updDual (fun x => { x with
      mismatch := SMap.put x.mismatch 0 e.1 (SMap.get x.mismatch 0 e.1 + 1) })

/-- DIGEST_EXCHANGE (R87, R89): the heads exchange the digests of the previous cycle, `peer` the other head's by axis. -/
def execDigestExchange (peer : List (Nat × Nat)) (s : State) : Res :=
  if s.straitUp ∧ (s.dhState = DH.ACTIVE ∨ s.dhState = DH.VERIFY) then
    let s := foldS State.compareDigest (s.emit (.straitDigests s.dual.digests)) peer
    if s.dhState = DH.VERIFY then
      if s.dual.mismatch.isEmpty then done (s.updDual (fun x => { x with equalRun := x.equalRun + 1 }))
      else done s.startResync
    else done s
  else done s

/-- DH_DIVERGENCE (R87, R89): the junior head's run of mismatches of an axis reached DIVERGE_LIMIT. -/
def execDhDivergence (axis : Fin 128) (s : State) : Res :=
  let a := axis.val
  if s.dhState = DH.ACTIVE ∧ s.dhRole = 2 ∧ s.rdN K.DIVERGE_LIMIT ≤ SMap.get s.dual.mismatch 0 a then
    let c := (s.cycle + 2 ^ 32 - 1) % 2 ^ 32
    done (((((s.wrN K.LAST_DIVERGED_AXIS a).wrN K.LAST_DIVERGED_CYCLE c)).startResync).raise Ev.DH_DIVERGENCE a c)
  else done s

/-- The write of RESYNC_REQUEST (R89): an active junior head resynchronises. -/
def resyncRequest (s : State) : WRes :=
  if s.dhState = DH.ACTIVE ∧ s.dhRole = 2 then .ok s.startResync else .ok s

/-- RESYNC_REQUEST. -/
def execResyncRequest (s : State) : Res := answered (resyncRequest s)

/-- RESYNC_COMPLETE (R89, R90): the snapshot and the replay log are complete. -/
def execResyncComplete (t : Nat) (s : State) : Res :=
  let s := s.at t
  if s.dhState = DH.RESYNC ∧ s.straitUp then
    done ((s.wrN K.DH_STATE DH.VERIFY).updDual (fun d => { d with equalRun := 0, mismatch := [] }))
  else done s

/-- DH_RESYNC_DONE (R89): digests were equal for VERIFY_CYCLES consecutive cycles. -/
def execDhResyncDone (t : Nat) (s : State) : Res :=
  let s := s.at t
  if s.dhState = DH.VERIFY ∧ s.rdN K.VERIFY_CYCLES ≤ s.dual.equalRun then
    let s := (s.wrN K.DH_STATE DH.ACTIVE).updDual (fun d => { d with standby := false })
    done (((s.bump K.RESYNCS).wrN K.LAST_RESYNC_TIME ((s.clk.now - s.dual.resyncAt) / 1000)).raiseU Ev.DH_RESYNC_DONE none (some s.cycle) [])
  else done s

end Sys2Proof.Machine
end

