-- ==== Sys2Proof/Machine/Ferry.lean ====
section
/-! DEFINITION. Skerries, the Ferry and the collector (R128 to R159). -/

namespace Sys2Proof.Machine

open Sys2Proof

/-- Levels of tasks (R132): 0 reconcile, 1 safety-feed, 2 speculate, 3 background. -/
abbrev Lv.RECONCILE : Nat := 0
/-- safety-feed. -/
abbrev Lv.SAFETY : Nat := 1
/-- speculate. -/
abbrev Lv.SPECULATE : Nat := 2
/-- background. -/
abbrev Lv.BACKGROUND : Nat := 3

/-- What a task of a level in a stream computes (R132, R133). -/
def kindOf (level : Nat) : Option Nat → TaskKind
  | none => .other
  | some t =>
    if t < 128 then (if level = 0 then .reconcile t else if level = 2 then .speculate t else .other)
    else if 160 ≤ t ∧ t < 184 then .safetyFeed (t - 160) else .other

/-- The axis whose command the task produces (R147, R150), if it is such a task. -/
def TaskKind.command : TaskKind → Option Nat
  | .reconcile a => some a
  | .full a => some a
  | _ => none

/-- Entries a group holds (R141). -/
def entryLimit (tt : Bool) : Nat := if tt then 1536 else 2560

/-- Entries of a group in use, those freed by cancellation and not yet back included (R148). -/
def Ferry.used (f : Ferry) (tt : Bool) : Nat :=
  (f.tasks.filter (fun t => t.tt == tt)).length + (if tt then f.freedTt else f.freedOther)

/-- The task is in an entry. -/
def Ferry.find (f : Ferry) (id : Nat) : Option Task := f.tasks.find? (fun t => t.id == id)

/-- Replace one task. -/
def Ferry.setTask (f : Ferry) (id : Nat) (g : Task → Task) : Ferry :=
  { f with tasks := f.tasks.map (fun t => if t.id = id then g t else t) }

/-- Free a task's entry at once: its result is committed (R131). -/
def Ferry.drop (f : Ferry) (id : Nat) : Ferry := { f with tasks := f.tasks.filter (fun t => t.id != id) }

/-- The axis's command-producing task of this cycle is cancelled: it commits nothing and its record carries HOLD
(R147). -/
def State.cancelCommand (s : State) (k : TaskKind) (tag : Nat) : State :=
  match k.command with
  | some a => if tag = s.cycle then s.updAxis a (fun x => { x with cancelled := true }) else s
  | none => s

/-- A time-triggered task that finds no reserved entry (R143). -/
def State.admitFail (s : State) (t : Task) : State :=
  let s := ((s.bump K.ADMIT_FAILS).bump K.CANCELLED_TASKS).cancelCommand t.kind t.tag
  if s.ferry.admitTick = some s.clk.tick then s
  else (s.updFerry (fun f => { f with admitTick := some s.clk.tick })).raise Ev.FERRY_ADMIT_FAIL
    (t.stream.getD 0xFFFF_FFFF) t.tag

/-- A source submits a task (R131, R141 to R144). -/
def State.submit (s : State) (t : Task) : State :=
  let f := s.ferry
  let t := { t with id := f.nextId }
  let s := s.updFerry (fun f => { f with nextId := f.nextId + 1 })
  if f.used t.tt < entryLimit t.tt then s.updFerry (fun f => { f with tasks := f.tasks ++ [t] })
  else if t.tt then s.admitFail t
  else s.updFerry (fun f => { f with waitingSources := f.waitingSources ++ [t] })

/-- A task of a kind, level and stream with a cycle tag, ready at once. -/
def newTask (kind : TaskKind) (level : Nat) (stream : Option Nat) (tag now : Nat) (deps : List Nat) (tt : Bool) : Task :=
  { id := 0, kind := kind, level := level, stream := stream, tag := tag, release := now, deadline := 0, deps := deps,
    tt := tt, phase := .waiting, overruns := 0, cancelled := false }

/-- TASK_SUBMIT (R131, R133): a source submits a task to the stream its row names; `release` and `deadline` are ns of
running time, `tt` says whether the source is time-triggered. -/
def execTaskSubmit (level : Fin 4) (stream : Option (Fin 264)) (tag release deadline : Nat) (deps : List Nat) (tt : Bool)
    (s : State) : Res :=
  let st := stream.map (·.val)
  done (s.submit { newTask (kindOf level.val st) level.val st (tag % 2 ^ 32) release (deps.take 4) tt with
    deadline := deadline })

/-- Waiting sources submit, first come first served, while their group has a free entry (R144). -/
def Ferry.takeWaiting (f : Ferry) : Ferry :=
  let n := entryLimit false - f.used false
  { f with tasks := f.tasks ++ f.waitingSources.take n, waitingSources := f.waitingSources.drop n }

/-- ENTRY_FREED (R148, R144): entries freed by cancellation return to their group, and waiting sources of the group
submit. -/
def execEntryFreed (s : State) : Res :=
  done (s.updFerry (fun f => { f with freedTt := 0, freedOther := 0 }.takeWaiting))

/-! ### Readiness, order and placement (R134 to R137, R140) -/

/-- A task is in the Ferry, neither committed nor cancelled (R134). -/
def Ferry.holds (f : Ferry) (id : Nat) : Bool := f.tasks.any (fun t => t.id == id && !t.cancelled)

/-- Ready (R134): waiting, released, every earlier task of its stream committed or cancelled, and without a dependency
left. -/
def Ferry.ready (f : Ferry) (now : Nat) (t : Task) : Bool :=
  t.phase == .waiting && !t.cancelled && Nat.ble t.release now
    && (match t.stream with
        | some st => f.tasks.all (fun u => u.stream != some st || u.cancelled || Nat.ble t.id u.id)
        | none => true)
    && t.deps.all (fun d => !f.holds d)

/-- The level at which a task is dispatched: the highest of its own and of the later tasks of its stream (R135). -/
def Ferry.levelOf (f : Ferry) (t : Task) : Nat :=
  match t.stream with
  | none => t.level
  | some st => (f.tasks.filter (fun u => u.stream == some st && Nat.ble t.id u.id)).foldl (fun a u => min a u.level) t.level

/-- `t` goes before `u` (R136): level, then release, then stream. -/
def Ferry.before (f : Ferry) (t u : Task) : Bool :=
  let a := f.levelOf t
  let b := f.levelOf u
  let x := t.stream.getD 512
  let y := u.stream.getD 512
  Nat.blt a b || (a == b && (Nat.blt t.release u.release
    || (t.release == u.release && (Nat.blt x y || (x == y && Nat.blt t.id u.id)))))

/-- The task to dispatch next, if one is ready; in the quiet period only levels 0 and 1 (R140). -/
def State.nextReady (s : State) : Option Task :=
  let f := s.ferry
  ((f.tasks.filter (f.ready s.clk.now)).filter (fun t => !s.clk.quiet || Nat.blt (f.levelOf t) 2)).foldl
    (fun b t => match b with
      | none => some t
      | some u => if f.before t u then some t else some u) none

/-- CLUSTER_STATE: 0 OFF, 1 UP, 2 DRAINING, 3 LOST (R161). -/
def State.cluster (s : State) (j : Nat) : Nat := s.rdN (K.CLUSTER_STATE j)

/-- SKERRY_STATE: 0 OFF, 1 ACTIVE, 2 FENCED, 3 TESTING (R161). -/
def State.skerry (s : State) (k : Nat) : Nat := s.rdN (K.SKERRY_STATE k)

/-- The clusters that take tasks, ascending (R137, R154). -/
def State.upClusters (s : State) : List Nat := (List.range 8).filter (fun j => s.cluster j = 1)

/-- The home cluster of a task (R137). -/
def State.home (s : State) (t : Task) : Option Nat :=
  let l := s.upClusters
  let pick (n : Nat) : Option Nat := l[n % l.length]?
  match t.stream with
  | some st => if st < 128 then pick st else if 136 ≤ st ∧ st < 160 then pick (st - 136) else l.head?
  | none => l.head?

/-- The skerry a phase stands on. -/
def TaskPhase.skerry : TaskPhase → Option Nat
  | .waiting => none
  | .prefetched k => some k
  | .loaded k => some k
  | .executing k => some k
  | .blocked k => some k
  | .buffered k => some k
  | .accepted _ => none

/-- The task takes a slot of skerry `k` (R129). -/
def Task.inSlot (t : Task) (k : Nat) : Bool :=
  t.phase == .prefetched k || t.phase == .loaded k || t.phase == .executing k || t.phase == .blocked k

/-- The task runs on skerry `k` or waits there for the result buffer. -/
def Task.runs (t : Task) (k : Nat) : Bool := t.phase == .executing k || t.phase == .blocked k

/-- Tasks in the slots of a skerry. -/
def Ferry.slots (f : Ferry) (k : Nat) : List Task := f.tasks.filter (·.inSlot k)

/-- The skerry can be given a task: ACTIVE in a cluster that is UP. -/
def State.usable (s : State) (k : Nat) : Bool := s.skerry k == 1 && s.cluster (k / 8) == 1

/-- Preference of R137 of a skerry for a task: 0 home with both slots free, 1 the prefetch slot of a busy skerry at home
(free, or held by a task only prefetched at a lower level), 2 a steal; none where it may not go. -/
def State.preference (s : State) (t : Task) (k : Nat) : Option Nat :=
  let sl := s.ferry.slots k
  let atHome : Bool := match s.home t with | some h => h == k / 8 | none => false
  if s.usable k = false then none
  else if sl.isEmpty then some (if atHome then 0 else 2)
  else if atHome then
    (if sl.length = 1 then some 1
     else if sl.any (fun u => !u.runs k && Nat.blt (s.ferry.levelOf t) (s.ferry.levelOf u)) then some 1 else none)
  else none

/-- The best preference there is for a task. -/
def State.bestPreference (s : State) (t : Task) : Option Nat :=
  (List.range 64).foldl (fun b k => match b, s.preference t k with
    | some x, some y => some (min x y)
    | none, y => y
    | x, none => x) none

/-- The task that `t` displaces on skerry `k` (R137): of those only prefetched at a lower level the lowest, and of equals
the latest. -/
def Ferry.displaced (f : Ferry) (t : Task) (k : Nat) : Option Task :=
  ((f.slots k).filter (fun u => !u.runs k && Nat.blt (f.levelOf t) (f.levelOf u))).foldl
    (fun b u => match b with
      | none => some u
      | some v => if f.levelOf v ≤ f.levelOf u then some u else some v) none

/-- Place a ready task on a skerry; where both slots are taken the task it displaces is ready again (R137). -/
def Ferry.place (f : Ferry) (t : Task) (k : Nat) : Ferry :=
  let f := if (f.slots k).length < 2 then f
    else match f.displaced t k with
      | some v => f.setTask v.id (fun u => { u with phase := .waiting })
      | none => f
  f.setTask t.id (fun u => { u with phase := .prefetched k })

/-- The reconcile burst of the cycle is dispatched (R140): every integrated island's FEEDBACK is decided and no reconcile
task of this cycle waits. -/
def State.burstOver (s : State) : Bool :=
  s.integratedList.all (fun n => (s.island n).fbDone || (s.island n).fb.isSome)
    && s.ferry.tasks.all (fun t => t.phase != .waiting || t.level != 0 || t.tag != s.cycle)

/-- The quiet period ends once the burst of the cycle after its beginning is dispatched (R140). -/
def State.endQuiet (s : State) : State :=
  if s.clk.quiet ∧ s.clk.quietTick < s.clk.tick ∧ s.burstOver then s.updClk (fun c => { c with quiet := false }) else s

/-- Dispatch the next ready task to the chosen skerry, if R137 lets it go there. -/
def State.dispatchOne (s : State) (k : Nat) : State :=
  match s.nextReady with
  | none => s
  | some t =>
    if (s.preference t k).isSome ∧ s.preference t k = s.bestPreference t then
      (s.updFerry (fun f => f.place t k)).endQuiet
    else s

/-- TASK_DISPATCH (R136, R137): in one fabric clock, up to four ready tasks in order go to the skerries the Ferry chose;
its choice among those R137 prefers is not specified (R138). -/
def execTaskDispatch (t : Nat) (skerries : List (Fin 64)) (s : State) : Res :=
  done (foldS State.dispatchOne (s.at t).endQuiet ((skerries.take 4).map (·.val)))

/-- RECONCILE_QUIET_START (R140). -/
def execReconcileQuietStart (s : State) : Res := done (s.updClk (fun c => { c with quiet := true, quietTick := s.clk.tick }))

/-! ### A task on its skerry (R129) -/

/-- A loaded task starts once its skerry's executing slot is free. -/
def Ferry.startNext (f : Ferry) (k : Nat) : Ferry :=
  if f.tasks.any (·.runs k) then f
  else match f.tasks.find? (fun t => t.phase == .loaded k) with
    | some t => f.setTask t.id (fun u => { u with phase := .executing k })
    | none => f

/-- TASK_LOAD_COMPLETE (R129): the input packet and the program are loaded. -/
def execTaskLoadComplete (id : Nat) (s : State) : Res :=
  match s.ferry.find id with
  | some t => match t.phase with
    | .prefetched k => done (s.updFerry (fun f => (f.setTask id (fun u => { u with phase := .loaded k })).startNext k))
    | _ => done s
  | none => done s

/-- An entry freed by cancellation (R148). -/
def Ferry.freeCancelled (f : Ferry) (t : Task) : Ferry :=
  let f := { f.drop t.id with accepted := f.accepted.filter (fun i => i != t.id) }
  if t.tt then { f with freedTt := f.freedTt + 1 } else { f with freedOther := f.freedOther + 1 }

/-- Skerry clock cycles a task was executing (R415, event 3). -/
def State.skerryBusy (s : State) (cycles : Nat) : State :=
  if s.perfOn = false then s
  else
    let n := s.counters.busyRest + cycles
    ({ s with counters := { s.counters with busyRest := n % 1000 } }).perf 3 0xFFFF (n / 1000)

/-- TASK_COMPLETE (R129, R147): `cycles` skerry clock cycles after it began to execute; the result goes to the buffer when it is free; that of a cancelled task is discarded. -/
def execTaskComplete (id cycles : Nat) (s : State) : Res :=
  let s : State := match s.ferry.find id with
    | some t => match t.phase with
      | .executing _ => s.skerryBusy cycles
      | _ => s
    | none => s
  match s.ferry.find id with
  | some t => match t.phase with
    | .executing k =>
      if t.cancelled then done (s.updFerry (fun f => (f.freeCancelled t).startNext k))
      else if s.ferry.tasks.any (fun u => u.phase == .buffered k) then
        done (s.updFerry (fun f => f.setTask id (fun u => { u with phase := .blocked k })))
      else done (s.updFerry (fun f => (f.setTask id (fun u => { u with phase := .buffered k })).startNext k))
    | _ => done s
  | none => done s

/-- Skerries in the collector's scan order (R149). -/
def scanOrder (last : Nat) : List Nat := (List.range 64).map (fun i => (last + 1 + i) % 64)

/-- Accept the result in one skerry's buffer; a task that waited for the buffer takes it (R149, R129). -/
def Ferry.acceptOn (f : Ferry) (k : Nat) : Ferry :=
  match f.tasks.find? (fun t => t.phase == .buffered k) with
  | none => f
  | some t =>
    let f := { f.setTask t.id (fun u => { u with phase := .accepted k }) with
      accepted := f.accepted ++ [t.id], lastSkerry := k }
    match f.tasks.find? (fun u => u.phase == .blocked k) with
    | some u => (f.setTask u.id (fun v => { v with phase := .buffered k })).startNext k
    | none => f

/-- RESULT_ACCEPT (R149): up to four results in one fabric clock, round robin. -/
def execResultAccept (s : State) : Res :=
  let f := s.ferry
  let ks := ((scanOrder f.lastSkerry).filter (fun k => f.tasks.any (fun t => t.phase == .buffered k))).take 4
  done (s.updFerry (fun f => ks.foldl Ferry.acceptOn f))

/-! ### Graph mode (R158, R159) -/

/-- The entry of a graph-mode axis. -/
def graphEntry (g : Nat → Int) (a : Nat) : Option Nat :=
  (List.range 32).find? (fun e => g (K.GRAPH_AXIS e) = a)

/-- The axis is in graph mode (R157). -/
def graphAxis (g : Nat → Int) (a : Nat) : Bool := (graphEntry g a).isSome

/-- Firing commits: the input tokens are consumed and the output tokens placed; at the output node the command of the
cycle is ready. Tokens of an earlier cycle are discarded (R159). What the graph computes is not given, so the duties are
free values (log 18). -/
def State.commitFiring (s : State) (a tag : Nat) (f : Firing) : State :=
  if (s.axis a).graph.fbTag ≠ some tag then s else
  let s := s.updAxis a (fun x => { x with graph := { x.graph with
      used := x.graph.used ++ f.feedback,
      tokens := f.outputs.foldl (fun m k => SMap.insert m k tag) (f.inputs.foldl (fun m k => SMap.erase m k) x.graph.tokens) } })
  if f.isOut then
    let (s, u) := s.draw
    let (s, v) := s.draw
    let (s, w) := s.draw
    s.updAxis a (fun x => { x with
      graph := { x.graph with outDone := true }, committed := if tag = s.cycle then true else x.committed,
      dutyU := (u % 65536 : Nat), dutyV := (v % 65536 : Nat), dutyW := (w % 65536 : Nat) })
  else s

/-- GRAPH_FIRING (R158): a node whose input arcs all hold tokens of one cycle tag and whose output arcs are empty fires
as a task at level reconcile. The arcs of the node (from feedback, inputs, outputs, and whether it is the output node)
come with the command, since the graphs of the firmware image are not listed in the spec. -/
def execGraphFiring (axis : Fin 128) (node : Nat) (feedback inputs outputs : List Nat) (isOut : Bool) (s : State) : Res :=
  let a := axis.val
  let g := (s.axis a).graph
  match g.fbTag with
  | none => done s
  | some tag =>
    if graphAxis s.cf a ∧ feedback.length + inputs.length ≤ 4 ∧ feedback.all (fun k => !g.used.contains k)
        ∧ inputs.all (fun k => SMap.find g.tokens k == some tag) ∧ outputs.all (fun k => (SMap.find g.tokens k).isNone)
        ∧ s.ferry.tasks.all (fun t => match t.kind with
            | .firing b n _ => !(b == a && n == node && t.tag == tag)
            | _ => true) then
      done (s.submit (newTask (.firing a node ⟨feedback, inputs, outputs, isOut⟩) Lv.RECONCILE none tag s.clk.now [] true))
    else done s

/-! ### Commit, cancellation (R146 to R149) -/

/-- What a task's committed result does beyond the words the task's own step writes: the axis's command of this cycle is
in the collector (R150), the graph's tokens move (R158). -/
def State.taskCommitted (s : State) (t : Task) : State :=
  match t.kind with
  | .reconcile a => if t.tag = s.cycle then s.updAxis a (fun x => { x with committed := true }) else s
  | .full a => if t.tag = s.cycle then s.updAxis a (fun x => { x with committed := true }) else s
  | .firing a _ f => s.commitFiring a t.tag f
  | _ => s

/-- RESULT_COMMIT (R149, R131): the last word of the oldest accepted result is written. -/
def execResultCommit (s : State) : Res :=
  match s.ferry.accepted with
  | [] => done s
  | id :: r =>
    let o := s.ferry.find id
    let s := s.updFerry (fun f => { f.drop id with accepted := r }.takeWaiting)
    match o with
    | some t => done (s.taskCommitted t)
    | none => done s

/-- The tasks a cancel takes with it (R146), in submission order: those named, later tasks of their streams with the
same cycle tag, and tasks that name one of them, transitively. -/
def cancelSet (named : Task → Bool) : List Task → List Task → List Task
  | [], acc => acc
  | t :: r, acc =>
    if named t || acc.any (fun u => (t.stream.isSome && t.stream == u.stream && t.tag == u.tag) || t.deps.contains u.id) then
      cancelSet named r (acc ++ [t])
    else cancelSet named r acc

/-- Cancel one task by its state (R147); `same` says that an accepted result was accepted in this fabric clock. -/
def State.cancelTask (same : Bool) (s : State) (t : Task) : State :=
  match t.phase with
  | .accepted _ =>
    if same then
      ((s.updFerry (fun f => f.freeCancelled t)).bump K.CANCELLED_TASKS).cancelCommand t.kind t.tag
    else s
  | .executing _ =>
    ((s.updFerry (fun f => f.setTask t.id (fun u => { u with cancelled := true }))).bump K.CANCELLED_TASKS).cancelCommand
      t.kind t.tag
  | ph =>
    let s := s.updFerry (fun f => f.freeCancelled t)
    let s := match ph with
      | .blocked k => s.updFerry (fun f => f.startNext k)
      | .buffered k => s.updFerry (fun f =>
          match f.tasks.find? (fun (u : Task) => u.phase == TaskPhase.blocked k) with
          | some u => (f.setTask u.id (fun v => { v with phase := .buffered k })).startNext k
          | none => f)
      | _ => s
    (s.bump K.CANCELLED_TASKS).cancelCommand t.kind t.tag

/-- Cancel the tasks that `named` picks, with their dependents. -/
def State.cancelWhere (s : State) (same : Bool) (named : Task → Bool) : State :=
  foldS (State.cancelTask same) s ((cancelSet named s.ferry.tasks []).filter (fun t => !t.cancelled))

/-- Cancel all tasks of a stream. -/
def State.cancelStream (s : State) (st : Nat) : State := s.cancelWhere false (fun t => t.stream == some st)

/-- The feedback tokens of a cycle are placed (R158); what is left of an earlier cycle is discarded, its pending firings
are cancelled and the stall is counted (R159). -/
def State.placeTokens (s : State) (a : Nat) : State :=
  let g := (s.axis a).graph
  let firings := s.ferry.tasks.filter (fun t => match t.kind with
    | .firing b _ _ => b == a && !t.cancelled
    | _ => false)
  let stall : Bool := g.fbTag.isSome && (!g.outDone || !g.tokens.isEmpty || !firings.isEmpty)
  let s := s.updAxis a (fun x => { x with graph := { fbTag := some s.cycle } })
  if stall then
    let s := foldS (State.cancelTask false) s firings
    let s := match graphEntry s.cf a with
      | some e => s.bump (K.GRAPH_STALLS e)
      | none => s
    s.raise Ev.GRAPH_STALL a (g.fbTag.getD 0)
  else s

/-- TASK_CANCEL (R146, R147): one task, or with no task named the tasks of a stream whose cycle tag is at or after a
given cycle. -/
def execTaskCancel (id : Option Nat) (stream : Nat) (fromTag : Nat) (same : Bool) (s : State) : Res :=
  match id with
  | some i => done (s.cancelWhere same (fun t => t.id == i))
  | none => done (s.cancelWhere same (fun t => t.stream == some stream && Nat.ble fromTag t.tag))

/-! ### Fencing (R152 to R156) -/

/-- FENCE_CAUSE (R161). -/
abbrev Fc.PARITY : Nat := 1
/-- WATCHDOG. -/
abbrev Fc.WATCHDOG : Nat := 2
/-- CLUSTER_SUPPLY. -/
abbrev Fc.CLUSTER_SUPPLY : Nat := 3
/-- HOST. -/
abbrev Fc.HOST : Nat := 4
/-- SELF_TEST. -/
abbrev Fc.SELF_TEST : Nat := 5

/-- Put a skerry's tasks back in the ready set; a cancelled one frees its entry (R152). -/
def State.putBack (s : State) (k : Nat) : State :=
  let l := s.ferry.tasks.filter (fun t => t.phase.skerry == some k)
  foldS (fun s t =>
    if t.cancelled then s.updFerry (fun f => f.freeCancelled t)
    else (s.updFerry (fun f => f.setTask t.id (fun u => { u with phase := .waiting }))).bump K.REDISPATCHES) s l

/-- Fence a skerry (R152). -/
def State.fence (s : State) (k cause : Nat) : State :=
  (((s.wr (K.SKERRY_STATE k) 2).wrN (K.FENCE_CAUSE k) cause).putBack k).raise Ev.SKERRY_FENCED k cause

/-- SKERRY_PARITY_ERROR (R152, R149): a parity error in a skerry's memory; `collector` says that the collector found it
while reading the skerry's accepted result, which it withdraws. -/
def execSkerryParityError (skerry : Fin 64) (collector : Bool) (s : State) : Res :=
  let k := skerry.val
  if s.skerry k = 1 ∨ s.skerry k = 3 then
    let s := s.bump (K.PARITY_ERRORS k)
    let s := if collector then
        match s.ferry.accepted.find? (fun i => match s.ferry.find i with
          | some t => t.phase == .accepted k
          | none => false) with
        | some i => s.updFerry (fun f => { f.setTask i (fun u => { u with phase := .buffered k }) with
            accepted := f.accepted.filter (fun j => j != i) })
        | none => s
      else s
    done ((s.startRide Ev.SKERRY_FENCED).fence k Fc.PARITY)
  else done s

/-- TASK_WATCHDOG (R152, R153): an executing system-class task ran too long; the second time it is aborted. -/
def execTaskWatchdog (id : Nat) (s : State) : Res :=
  match s.ferry.find id with
  | some t => match t.phase with
    | .executing k =>
      if t.overruns = 0 then
        done ((s.updFerry (fun f => f.setTask id (fun u => { u with overruns := 1 }))).fence k Fc.WATCHDOG)
      else
        let s := s.fence k Fc.WATCHDOG
        let s := s.cancelWhere false (fun u => u.id == id)
        done ((s.bump K.TASKS_ABORTED).raise Ev.TASK_ABORTED (t.stream.getD 0xFFFF_FFFF) t.tag)
    | _ => done s
  | none => done s

/-- The skerries of a cluster. -/
def clusterSkerries (j : Nat) : List Nat := (List.range 8).map (8 * j + ·)

/-- CLUSTERS_LOW where a fault leaves fewer clusters UP than CLUSTERS_MIN (R156). -/
def State.clustersLow (s : State) : State :=
  if s.upClusters.length < s.rdN K.CLUSTERS_MIN then s.raiseU Ev.CLUSTERS_LOW (some s.upClusters.length) none [] else s

/-- CLUSTER_SUPPLY_LOSS (R152, R154, R156). -/
def execClusterSupplyLoss (cluster : Fin 8) (s : State) : Res :=
  let j := cluster.val
  if s.cluster j = 1 ∨ s.cluster j = 2 then
    let s := (s.wr (K.CLUSTER_STATE j) 3).startRide Ev.CLUSTER_LOST
    let s := foldS (fun s k => if s.skerry k = 0 ∨ s.skerry k = 2 then s else s.fence k Fc.CLUSTER_SUPPLY) s (clusterSkerries j)
    done ((s.raise Ev.CLUSTER_LOST j Fc.CLUSTER_SUPPLY).clustersLow)
  else done s

/-- The write of FENCE to SKERRY_CONTROL (R155). -/
def skerryFence (k : Nat) (s : State) : WRes :=
  if s.skerry k = 0 then (s, .refused)
  else if s.skerry k = 2 then .ok s
  else .ok (s.fence k Fc.HOST)

/-- SKERRY_FENCE. -/
def execSkerryFence (skerry : Fin 64) (s : State) : Res := answered (skerryFence skerry.val s)

/-- The write of TEST_AND_RETURN (R155). -/
def testAndReturn (k : Nat) (s : State) : WRes :=
  if s.skerry k = 2 ∧ s.cluster (k / 8) = 1 then .ok (s.wr (K.SKERRY_STATE k) 3) else (s, .refused)

/-- TEST_AND_RETURN. -/
def execTestAndReturn (skerry : Fin 64) (s : State) : Res := answered (testAndReturn skerry.val s)

/-- SELF_TEST_COMPLETE (R155). -/
def execSelfTestComplete (skerry : Fin 64) (pass : Bool) (s : State) : Res :=
  let k := skerry.val
  if s.skerry k = 3 then
    if pass then done (s.wr (K.SKERRY_STATE k) 1)
    else done ((s.wr (K.SKERRY_STATE k) 2).wrN (K.FENCE_CAUSE k) Fc.SELF_TEST)
  else done s

end Sys2Proof.Machine
end

