-- ==== Sys2Proof/Machine/Feedback.lean ====
section
/-! DEFINITION. Position and speed feedback (R262 to R276): on-chip encoder channels, and the front end of an
axis-cycle (R195, R213 to R215): measured inputs, the speed estimate, the observer (R224, R225) and the monitors. -/

namespace Sys2Proof.Machine

open Sys2Proof

/-! ### On-chip channels (R264 to R269) -/

/-- ENC_MODE: 1 QUADRATURE, 2 STEP_DIR. -/
def State.encMode (s : State) (c : Nat) : Nat := s.cfN (K.ENC_MODE c)

/-- The readouts of a channel's count (R266). -/
def State.showCount (s : State) (c : Nat) : State :=
  let u := (s.enc c).u
  let w := s.cfN (K.WRAP c)
  if w = 0 then s.wr (K.ENC_COUNT c) (wrapS 32 u)
  else (s.wr (K.ENC_COUNT c) (wrapS 32 (u % w))).wr (K.ENC_REVS c) (wrapS 32 (u / w))

/-- A counted edge of direction `d` at `t` (R265, R268), reversed by POLARITY bit 3. -/
def State.countEdge (s : State) (c t : Nat) (d : Int) : State :=
  let d := if bit (s.cfN (K.POLARITY c)) 3 then -d else d
  ((s.updEnc c (fun e => { e with
    u := e.u + d, edge := some t, sign := d
    q := if e.sign = d then (match e.edge with | some t0 => t - t0 | none => 0) else 0 })).perf 18 c 1).showCount c

/-- Axes fed by a channel (R262). -/
def State.fedBy (s : State) (c : Nat) : List Nat :=
  (axesOn s.cf).filter (fun a => s.cf (K.FB_SOURCE a) == 2 && s.cfN (K.FB_CHANNEL a) == c)

/-- POS_UNCERTAIN of a channel and of the axes it feeds. -/
def State.uncertain (s : State) (c : Nat) (v : Bool) : State :=
  foldS (fun s a => s.wr (K.FB_STATUS a) (setBit (s.rdN (K.FB_STATUS a)) 2 v)) (s.wr (K.POS_UNCERTAIN c) (b2i v)) (s.fedBy c)

/-- QUADRATURE_EDGE (R264, R265): filtered A or B of a channel changes, alone in its sample. The count rises when A
leads B. -/
def execQuadratureEdge (ch : Fin 8) (t : Nat) (lineB : Bool) (s : State) : Res :=
  let c := ch.val
  let s := s.at t
  if s.encMode c ≠ 1 ∨ s.ioClock = false then done s
  else
    let e := s.enc c
    let up := (e.a == e.b) != lineB
    let s := s.updEnc c (fun e => if lineB then { e with b := !e.b } else { e with a := !e.a })
    done (s.countEdge c s.clk.now (if up then 1 else -1))

/-- QUADRATURE_ERROR (R265): filtered A and B change in the same sample. -/
def execQuadratureError (ch : Fin 8) (t : Nat) (s : State) : Res :=
  let c := ch.val
  let s := s.at t
  if s.encMode c ≠ 1 ∨ s.ioClock = false then done s
  else
    let s := (s.updEnc c (fun e => { e with a := !e.a, b := !e.b })).bump (K.QERR c) |>.uncertain c true
    done (foldS (fun s a => if s.rd (K.QERR_FAULT a) = 1 then s.axisFault a Ev.ENCODER_FAULT (s.rdN (K.REACT_ENCODER a)) else s)
      s (s.fedBy c))

/-- The measured position of an unwrapped count (R263). -/
def State.posOf (s : State) (a : Nat) (u : Int) : Int :=
  let c : Int := max 1 (s.cf (K.COUNTS_PER_TURN a))
  let u := if s.cf (K.FB_INVERT a) = 1 then -u else u
  let whole := u / c
  let f := roundHalfUp ((((u - whole * c) * 2 ^ 32 : Int) : Rat) / c)
  wrapS 64 ((if f = 2 ^ 32 then (whole + 1) * 2 ^ 32 else whole * 2 ^ 32 + f) + s.rd (K.FRAME_SHIFT a))

/-- An index position reaches an axis (R271, R253). -/
def State.indexAt (s : State) (a : Nat) (u : Int) : State :=
  (s.wr (K.INDEX_POS a) (s.posOf a u)).updAxis a (fun x => { x with indexNew := true })

/-- INDEX_EDGE (R267): a rising edge of filtered Z; `illegal`: in the same sample as an illegal transition. -/
def execIndexEdge (ch : Fin 8) (t : Nat) (illegal : Bool) (s : State) : Res :=
  let c := ch.val
  let s := s.at t
  if s.encMode c ≠ 1 ∨ s.cf (K.INDEX_ENABLE c) ≠ 1 ∨ s.ioClock = false then done s
  else
    let u := (s.enc c).u
    let w := s.cfN (K.WRAP c)
    let s := (s.wr (K.INDEX_LATCH c) (wrapS 64 u)).bump (K.INDEX_EDGES c)
    let s := if w = 0 then s
      else (s.updEnc c (fun e => { e with u := w * roundHalfUp ((u : Rat) / w) })).showCount c
    let s := if illegal then s else s.uncertain c false
    done (foldS (fun s a => s.indexAt a u) s (s.fedBy c))

/-- STEP_EDGE (R268): a rising edge of filtered A in STEP_DIR mode, with the level of B. -/
def execStepEdge (ch : Fin 8) (t : Nat) (dirHigh : Bool) (s : State) : Res :=
  let c := ch.val
  let s := s.at t
  if s.encMode c ≠ 2 ∨ s.ioClock = false then done s else done (s.countEdge c s.clk.now (if dirHigh then -1 else 1))

/-- The capture of a channel at the common instant (R269), with 5 ns resolution. -/
def State.captureOf (s : State) (c : Nat) : Cap :=
  let e := s.enc c
  { n := e.u, age := e.edge.map (fun t => (s.clk.now - t) / 5 * 5), sign := e.sign, q := e.q }

/-- The capture both heads compute from (R270). -/
def State.capture (s : State) (c : Nat) : Option Cap :=
  match (s.enc c).senior with
  | some k => some k
  | none => (s.enc c).caps.head?

/-! ### The speed estimator (R272) -/

/-- Sign of an integer. -/
def sgnI (x : Int) : Int := x.sign

/-- What a cycle's estimation yields: the estimator, DIR_CHANGED if it changes, whether DIR_CHANGES counts, and the
period measured. -/
structure EstRun where
  est : Est
  dirChanged : Option Bool
  counted : Bool
  period : Option Nat
  deriving DecidableEq, Repr

/-- One cycle of R272 at time `t` with count `u`: `age` the time from the last edge, `edgeSign` the captured sign of an
on-chip channel. -/
def estimate (e : Est) (t u : Int) (age : Option Nat) (edgeSign : Option Int) (tZero : Nat) : EstRun :=
  match e.last with
  | none => { est := { e with v := 0, ref := none, last := some (t, u) }, dirChanged := none, counted := false, period := some 0 }
  | some (tp, up) =>
    let du := u - up
    let te := t - (age.getD 0 : Nat)
    let seen := age.isSome && decide (tp < te)
    let e := { e with last := some (t, u) }
    if !seen then
      match e.ref with
      | none => { est := { e with v := 0, ref := none }, dirChanged := none, counted := false, period := some 0 }
      | some (_, tr, _) =>
        let dt := t - tr
        if (tZero : Int) < dt then
          { est := { e with v := 0, ref := none }, dirChanged := none, counted := false, period := some 0 }
        else
          { est := { e with v := (sgnR e.v : Rat) * minR (absR e.v) (if dt ≤ 0 then absR e.v else b64 (1 / (dt : Rat))) }
            dirChanged := none, counted := false, period := none }
    else
      let other := (match e.ref with | some (_, _, d) => sgnI du != d | none => false)
        || (match edgeSign with | some d => d != sgnI du | none => false)
      if du = 0 ∨ other then
        let d : Option Int := match edgeSign with
          | some d => some d
          | none => if du ≠ 0 then some (sgnI du) else e.ref.map (fun r => -r.2.2)
        { est := { e with v := 0, ref := d.map (fun d => (u, te, d)) }, dirChanged := some true, counted := true, period := none }
      else match e.ref with
        | none => { est := { e with v := 0, ref := some (u, te, sgnI du) }, dirChanged := none, counted := false, period := none }
        | some (ur, tr, d) =>
          { est := { e with v := b64 (((u - ur : Int) : Rat) / ((te - tr : Int) : Rat)), ref := some (u, te, d) }
            dirChanged := some false, counted := false, period := some (te - tr).toNat }

/-- The speed in R8 units of an estimate in counts per ns (R272). -/
def speedOf (v : Rat) (countsPerTurn : Nat) (invert : Bool) : Int :=
  let x := roundHalfUp (v * 1000000000 / (max 1 countsPerTurn : Nat) * 65536)
  satS 32 (if invert then -x else x)

/-! ### The apply instant (R106) -/

/-- A rational rounded up. -/
def ceilR (x : Rat) : Int := -((-x).floor)

/-- APPLY_AT of an island's records (R106), ns. -/
def State.applyAt (s : State) (n : Nat) : Nat :=
  let d := maxR (s.port n).delay (s.port (24 + n)).delay
  let m := max (margin s.cf n) (margin s.cf (24 + n))
  (ceilR (((s.cfN K.SLOT_LENGTH + s.cfN K.AP_DOWN + wireNs (cyclicLen s.cf n true) + m + s.rdN (K.APPLY_SETUP n) : Nat) : Rat)
    + d)).toNat

/-- APPLY_AT of an axis's on-time record: the cycle time while run-ahead is off or in graph mode (R106, R159). -/
def State.axisApply (s : State) (a : Nat) : Nat :=
  if s.rd (K.RA_ENABLE a) ≠ 1 ∨ graphAxis s.cf a then s.ct
  else match axisPlace s.cf a with
    | some p => s.applyAt p.1
    | none => s.ct

/-! ### Prediction (R197, R216, R219) -/

/-- Network cycle time in s. -/
def State.tcSec (s : State) : Rat := (s.ct : Rat) / 1000000000

/-- Rotate a stationary vector into the frame of an angle. -/
def intoFrame (v : Rat × Rat) (th : Rat) : Rat × Rat :=
  let c := Config.cosTurn th
  let n := Config.sinTurn th
  (v.1 * c + v.2 * n, v.2 * c - v.1 * n)

/-- The interval-weighted voltage vector in the stationary frame (R219). -/
def Axis.vWeighted (x : Axis) : Rat × Rat :=
  (x.wSent * x.vSentPrev.1 + (1 - x.wSent) * x.vSent.1, x.wSent * x.vSentPrev.2 + (1 - x.wSent) * x.vSent.2)

/-- The vector of R219 in this cycle; the record of a result that is computed and not settled yet counts as sent on time
(log 75). -/
def State.vWeighted (s : State) (a : Nat) : Rat × Rat :=
  let x := s.axis a
  if x.settled = .open_ ∧ x.ranAt = s.clk.tick + 1 then
    let w : Rat := (s.axisApply a : Rat) / (s.ct : Rat)
    ({ x with wSent := w, vSentPrev := x.vSent, vSent := x.vNew } : Axis).vWeighted
  else x.vWeighted

/-- Electrical speed of a speed in turns/s, rad/s. -/
def State.omegaE (s : State) (a : Nat) (turns : Rat) : Rat := Config.twoPi * (s.polePairs a : Rat) * turns

/-- The one-step motor model of R219. -/
def State.modelCurrent (s : State) (a : Nat) (h : Inputs) : Rat × Rat :=
  let x := s.axis a
  let tc := s.tcSec
  let r := s.rdR (K.R_PHASE a)
  let ld := s.rdR (K.L_D a)
  let lq := s.rdR (K.L_Q a)
  let psi := s.rdR (K.PSI a)
  let w := s.omegaE a (turnsOf h.speed)
  let v := s.vWeighted a
  if !twoBridge s.cf a then
    let d := intoFrame v x.thetaS
    (h.i0 + tc / ld * (d.1 - r * h.i0 + w * lq * h.i1), h.i1 + tc / lq * (d.2 - r * h.i1 - w * ld * h.i0 - w * psi))
  else
    let th := if s.rd (K.OBS_ENABLE a) = 1 then x.obs.theta else x.thetaS
    let we := if s.rd (K.OBS_ENABLE a) = 1 then x.obs.omega else w
    let eA := -we * psi * Config.sinTurn th
    let eB := we * psi * Config.cosTurn th
    (h.i0 + tc / ld * (v.1 - r * h.i0 - eA), h.i1 + tc / ld * (v.2 - r * h.i1 - eB))

/-- The predicted measured inputs of the next cycle (R197). -/
def State.predict (s : State) (a : Nat) : Inputs :=
  let x := s.axis a
  let h1 := x.h1.getD {}
  let h0 := x.h0.getD h1
  let m := s.rdR (K.I_MAX a)
  let mode := s.rd (K.PRED_CURRENT a)
  let i : Rat × Rat := if mode = 0 then (h1.i0, h1.i1)
    else if mode = 1 then (clampR (-m) m (h1.i0 + (h1.i0 - h0.i0)), clampR (-m) m (h1.i1 + (h1.i1 - h0.i1)))
    else
      let q := s.modelCurrent a h1
      (clampR (-m) m q.1, clampR (-m) m q.2)
  { pos := wrapS 64 (h1.pos + (h1.pos - h0.pos)), speed := satS 32 (h1.speed + (h1.speed - h0.speed)), i0 := i.1, i1 := i.2 }

/-- The axis takes its angle from the observer (R214): sensorless in phase OBSERVER, or degraded. -/
def State.obsAngle (s : State) (a : Nat) : Bool :=
  (s.axisType a == 4 && s.rd (K.SENSORLESS_PHASE a) == 1) || s.degraded a

/-- Electrical turns the observer advances in a cycle. -/
def State.obsStep (s : State) (a : Nat) : Rat := (s.axis a).obs.omega * s.tcSec / Config.twoPi

/-- The predicted electrical angle θ_p of the next sample instant (R216). -/
def State.thetaP (s : State) (a : Nat) (p : Inputs) : Rat :=
  if (s.axis a).aligning then 0
  else if s.obsAngle a then fracR ((s.axis a).obs.theta + s.obsStep a)
  else s.angleS a p.pos

/-! ### The observer (R224, R225) -/

/-- The observer's correction error. -/
def State.obsErr (s : State) (a : Nat) (i : Rat × Rat) : Rat :=
  let x := s.axis a
  let o := x.obs
  let v := s.vWeighted a
  let r := s.rdR (K.R_PHASE a)
  let l := s.rdR (K.L_D a)
  let tc := s.tcSec
  let eA := v.1 - r * i.1 - l * (i.1 - o.i0) / tc
  let eB := v.2 - r * i.2 - l * (i.2 - o.i1) / tc
  let ed := eA * Config.cosTurn o.theta + eB * Config.sinTurn o.theta
  let sg : Rat := if o.omega < 0 then -1 else 1
  let psi := s.rdR (K.PSI a)
  let d := psi * maxR (absR o.omega) (s.omegaE a (turnsOf (s.rd (K.MIN_OBS_SPEED a))))
  clampR (-1) 1 (if psi = 0 then Config.obsErrPsiZero (-ed * sg) else -ed * sg / d)

/-- Tenths of an electrical degree, in 16 bits. -/
def tenths (x : Rat) : Int := satS 16 (roundHalfUp (x * 3600))

/-- The observer's speed in turns/s. -/
def State.obsTurns (s : State) (a : Nat) : Rat := (s.axis a).obs.omega / (Config.twoPi * (s.polePairs a : Rat))

/-- An update of the observer with real currents, or without correction in a bridged cycle. -/
def State.obsUpdate (s : State) (a : Nat) (i : Option (Rat × Rat)) : State :=
  let o := (s.axis a).obs
  match i with
  | none =>
    s.updAxis a (fun x => { x with obs := { o with thetaPrev := o.theta, theta := fracR (o.theta + s.obsStep a) } })
  | some i =>
    let wn := Config.twoPi * s.rdR (K.OBS_BANDWIDTH a)
    let err := s.obsErr a i
    let om := o.omega + wn * wn * err * s.tcSec
    let th := fracR (o.theta + (om + 2 * wn * err) * s.tcSec / Config.twoPi)
    let s := s.updAxis a (fun x => { x with obs := { o with thetaPrev := o.theta, theta := th, omega := om, i0 := i.1, i1 := i.2 } })
    s.wr (K.OBS_ANGLE_ERR a) (tenths (Config.asinTurn err))

/-- Restart the convergence timer. -/
def State.obsTimer (s : State) (a : Nat) : State :=
  s.updAxis a (fun x => { x with obs := { x.obs with since := s.clk.now } })

/-- The observer's state at the end of the front end (R225); `dev`: the deviation counts. -/
def State.obsState (s : State) (a : Nat) (dev : Bool) : State :=
  let st := s.rd (K.OBS_STATE a)
  let w := absR (s.obsTurns a)
  let m := turnsOf (s.rd (K.MIN_OBS_SPEED a))
  let lim : Int := s.rd (K.OBS_CONV_ERR a)
  let err : Int := (s.rd (K.OBS_ANGLE_ERR a)).natAbs
  let dv : Int := if dev then ((s.rd (K.OBS_ANGLE_DEV a)).natAbs : Int) else 0
  if st = 1 then (if m ≤ w then (s.wr (K.OBS_STATE a) 2).obsTimer a else s)
  else if st = 2 then
    (if w < 8 / 10 * m then s.wr (K.OBS_STATE a) 1 else if lim < err ∨ lim < dv then s.obsTimer a else s)
  else if st = 3 then
    (if w < 8 / 10 * m then s.wr (K.OBS_STATE a) 1
     else if 2 * lim < err ∨ 2 * lim < dv then ((s.wr (K.OBS_STATE a) 2).obsTimer a).raise Ev.OBSERVER_LOST a 0
     else s)
  else s

/-! ### The front end (R195) -/

/-- What the back end and the correction need of the front end: measured inputs, whether the frame is valid, θ_s and
the bus voltage in 1/16 V. -/
structure Front where
  inp : Inputs
  frame : Bool
  theta : Rat
  vbus : Nat
  deriving DecidableEq, Repr

/-- The valid FEEDBACK frame of this cycle with the axis's record (R276). -/
def State.fbOf (s : State) (a : Nat) : Option (Bytes × FbRec) :=
  match axisPlace s.cf a with
  | some p => if (s.island p.1).fbStale then none else (s.island p.1).fb.map (fun f => (f, fbRec f p.2))
  | none => none

/-- VBUS of a FEEDBACK frame, in 1/16 V (R103). -/
def fbVbus (f : Bytes) : Nat := uAt f 28 2

/-- The count, edge age and edge sign the axis's source delivers in this cycle (R262, R269, R271, R272); counts an invalid
EDGE_T. -/
def State.countIn (s : State) (a : Nat) : State × Option (Int × Option Nat × Option Int) :=
  match s.fbOf a with
  | none => (s, none)
  | some (_, r) =>
    if s.cf (K.FB_SOURCE a) = 2 then
      (s, (s.capture (s.cfN (K.FB_CHANNEL a))).map (fun k => (k.n, k.age, some k.sign)))
    else if s.cf (K.FB_SOURCE a) = 1 ∧ !bit r.status 3 then
      let e := (s.axis a).est
      let u0 := s.rd (K.UNWRAPPED_COUNT a)
      let d : Int := match e.posLast with
        | some p => wrapS 32 ((r.pos : Int) - p)
        | none => 0
      let u := match e.posLast with
        | some _ => u0 + d
        | none => toSigned 32 r.pos
      let bad := d != 0 && (r.edgeT == 0xFFFF || Nat.ble s.ct (4 * r.edgeT))
      let s := s.updAxis a (fun x => { x with est := { x.est with posLast := some r.pos } })
      (if bad then s.bump (K.EDGE_T_INVALID a) else s, some (u, some (if bad then 0 else 4 * r.edgeT), none))
    else (s, none)

/-- A delivered count: position, speed estimate and readouts (R263, R272). -/
def State.takeCount (s : State) (a : Nat) (c : Int × Option Nat × Option Int) : State :=
  let x := s.axis a
  let tS : Int := s.netStart
  let e := match x.est.last with
    | some (tp, _) => if tS < tp then { x.est with last := none } else x.est
    | none => x.est
  let r := estimate e tS c.1 c.2.1 c.2.2 (s.rdN (K.T_ZERO a))
  let still := decide (c.1 = s.rd (K.UNWRAPPED_COUNT a)) && s.rd (K.OBS_STATE a) == 3
    && decide (s.rd (K.FREEZE_SPEED a) < (s.rd (K.OBS_SPEED a)).natAbs)
  let s := s.updAxis a (fun x => { x with est := r.est, freezeRun := if still then x.freezeRun + 1 else 0 })
  let s := ((s.wr (K.UNWRAPPED_COUNT a) (wrapS 64 c.1)).wr (K.MEASURED_POS a) (s.posOf a c.1)).wr (K.SPEED_EST a)
    (speedOf r.est.v (s.cfN (K.COUNTS_PER_TURN a)) (s.cf (K.FB_INVERT a) == 1))
  let s := match r.dirChanged with
    | some b => s.wr (K.FB_STATUS a) (setBit (s.rdN (K.FB_STATUS a)) 5 b)
    | none => s
  let s := if r.counted then s.bump (K.DIR_CHANGES a) else s
  let s := match r.period with
    | some p => s.wr (K.EDGE_PERIOD a) (min p (2 ^ 32 - 1) : Nat)
    | none => s
  (s.wr (K.EST_SOURCE a) 0).wr (K.MISSING_RUN a) 0

/-- FB_STATUS bits 0 and 1 (R274, R275). -/
def State.fbFlags (s : State) (a : Nat) (delivered extrap : Bool) : State :=
  let f := s.rdN (K.FB_STATUS a)
  s.wr (K.FB_STATUS a) (setBit (setBit f 0 (delivered && !bit f 3 && !bit f 4)) 1 extrap)

/-- A missing cycle (R275): the predicted position and speed stand in. -/
def State.missCount (s : State) (a : Nat) (p : Inputs) : State :=
  let run := min 255 (s.rdN (K.MISSING_RUN a) + 1)
  let ext := Nat.blt run (max 1 (s.rdN (K.N_LOST a)))
  let s := ((s.wr (K.MISSING_RUN a) run).wr (K.EST_SOURCE a) 2).wr (K.MEASURED_POS a) p.pos |>.wr (K.SPEED_EST a) p.speed
  let s := if ext then s.bump (K.EXTRAP_CYCLES a) else s
  s.fbFlags a false ext

/-- Position and speed of this cycle from the axis's source (R262 to R275). -/
def State.measure (s : State) (a : Nat) (p : Inputs) : State :=
  if s.cf (K.FB_SOURCE a) = 0 then
    let m := s.mot a
    let s := if s.axisType a = 4 ∧ s.rd (K.SENSORLESS_PHASE a) = 1 then s else s.wr (K.MEASURED_POS a) (s.pSet a)
    ((s.wr (K.SPEED_EST a) (if s.axisType a = 2 then r8Of m.v else s.rd (K.SPEED_EST a))).wr (K.EST_SOURCE a) 3).fbFlags a
      true false
  else
    let r := s.countIn a
    match r.2 with
    | some c => (r.1.takeCount a c).fbFlags a true false
    | none => r.1.missCount a p

/-- Phase currents in amperes in the stationary frame: (i_alpha, i_beta), or the bridge pair (R213, R215). -/
def State.currents (s : State) (a : Nat) (r : FbRec) : Rat × Rat :=
  let k := real32 (s.cfN (K.CURRENT_SCALE a))
  let iA := k * r.iA
  let iB := k * r.iB
  if twoBridge s.cf a then (iA, iB)
  else
    let iV := if s.cf (K.PHASE_ORDER a) = 1 then -(iA + iB) else iB
    (iA, (iA + 2 * iV) / Config.sqrt3)

/-- The observer's angle moves the measured position, and its speed is the estimate, where R214 and R273 name it. -/
def State.obsMeasure (s : State) (a : Nat) (p0 : Int) : State :=
  let o := (s.axis a).obs
  let s := if s.obsAngle a then
      s.wr (K.MEASURED_POS a) (wrapS 64 (p0 + roundHalfUp (wrapHalf (o.theta - o.thetaPrev) / (max 1 (s.polePairs a) : Nat) * 4294967296)))
    else s
  if s.axisType a = 4 ∨ s.degraded a then (s.wr (K.SPEED_EST a) (r8Of (s.obsTurns a))).wr (K.EST_SOURCE a) 1 else s

/-- The observer's part of the front end (R224, R225). -/
def State.obsFront (s : State) (a : Nat) (p0 : Int) (i : Option (Rat × Rat)) : State :=
  if s.rd (K.OBS_STATE a) = 0 ∨ !(s.axis a).pwm then s
  else
    let s := s.obsUpdate a i
    let enc := s.cf (K.FB_SOURCE a) ≠ 0 ∧ bit (s.rdN (K.FB_STATUS a)) 0
    let dv := wrapHalf ((s.axis a).obs.theta - s.angleS a (s.rd (K.MEASURED_POS a)))
    let s := if enc then s.wr (K.OBS_ANGLE_DEV a) (tenths dv) else s
    let s := s.wr (K.OBS_SPEED a) (r8Of (s.obsTurns a))
    (s.obsState a (decide enc)).obsMeasure a p0

/-- Standstill (R192): the running time since which the speed has stayed below STANDSTILL_SPEED. -/
def State.stillFront (s : State) (a : Nat) : State :=
  let slow := decide ((s.rd (K.SPEED_EST a)).natAbs < s.rd (K.STANDSTILL_SPEED a))
  s.updAxis a (fun x => { x with stillSince := if slow then some (x.stillSince.getD s.clk.now) else none })

/-- A monitor's fault, raised when its condition begins. -/
def State.monitor (s : State) (a : Nat) (now was : Bool) (ev react : Nat) : State :=
  if now && !was then s.axisFault a ev react else s

/-- The monitors of the front end (R182, R183, R278). -/
def State.monitors (s : State) (a : Nat) (f : Front) (status : Nat) : State :=
  let x := s.axis a
  let p := f.inp.pos
  let run := x.pwm
  let soft := run && s.rd (K.SOFT_LIMIT_ENABLE a) == 1 && decide (p < s.rd (K.POS_SOFT_MIN a) ∨ s.rd (K.POS_SOFT_MAX a) < p)
  let fast := run && decide (s.rd (K.OVERSPEED a) < f.inp.speed.natAbs)
  let trip := f.frame && bit status 1
  let temp := f.frame && bit status 2
  let exec := s.stageClosed a 3 && !s.microstep a && posDue s.cf a s.cycle
  let off := s.rd (K.FE_WINDOW a) != 0 && decide (s.rd (K.FE_WINDOW a) < (wrapS 64 (s.pSet a - p)).natAbs)
  let s := s.updAxis a (fun x => { x with
    softFlag := soft, overFlag := fast, tripFlag := if f.frame then trip else x.tripFlag
    tempFlag := if f.frame then temp else x.tempFlag
    feRun := if !exec then x.feRun else if off then x.feRun + 1 else 0
    feFlag := x.feFlag && (!exec || off) })
  let s := s.monitor a trip x.tripFlag Ev.ISLAND_OVERCURRENT 0
  let s := s.monitor a temp x.tempFlag Ev.ISLAND_TEMP (s.rdN (K.REACT_ISLAND_TEMP a))
  let s := s.monitor a soft x.softFlag Ev.SOFT_LIMIT (s.rdN (K.REACT_SOFT_LIMIT a))
  s.monitor a fast x.overFlag Ev.OVERSPEED (s.rdN (K.REACT_OVERSPEED a))

/-- The front end of an axis in this cycle. -/
def State.frontEnd (s : State) (a : Nat) : State × Front :=
  let x := s.axis a
  let p : Inputs := match x.spec with
    | some sp => if sp.tick = s.clk.tick then sp.inp else s.predict a
    | none => s.predict a
  let p0 := s.rd (K.MEASURED_POS a)
  let fb := s.fbOf a
  let frame := fb.isSome
  let cur := fb.map (fun q => s.currents a q.2)
  let vbus := match fb with
    | some q => fbVbus q.1
    | none => x.vbus
  let s := (s.measure a p).obsFront a p0 cur
  let s := match fb with
    | some (_, r) => if s.cf (K.FB_SOURCE a) = 1 ∧ bit r.status 4 then
        s.indexAt a (s.rd (K.UNWRAPPED_COUNT a) - r.indexDelta) else s
    | none => s
  let th := if (s.axis a).aligning then 0
    else if s.obsAngle a then (s.axis a).obs.theta
    else s.angleS a (s.rd (K.MEASURED_POS a))
  let i : Rat × Rat := match cur with
    | some c => if twoBridge s.cf a then c else intoFrame c th
    | none => (p.i0, p.i1)
  let inp : Inputs := { pos := s.rd (K.MEASURED_POS a), speed := s.rd (K.SPEED_EST a), i0 := i.1, i1 := i.2 }
  let f : Front := { inp := inp, frame := frame, theta := th, vbus := vbus }
  let s := (s.wr (K.ELEC_ANGLE a) (wrapU 32 (roundHalfUp (th * 4294967296)))).updAxis a (fun y => { y with
    vbus := vbus, thetaS := th, h1 := some (y.h1.getD inp), h0 := some (y.h0.getD (y.h1.getD inp)) })
  let s := s.stillFront a
  let s := if frame then foldS (fun s k => s.sampleSwitch a inp.pos k) s [0, 1, 2] else s
  let status := match fb with
    | some q => q.2.status
    | none => 0
  let s := s.updAxis a (fun y => { y with brakeSeen := if frame then bit status 5 else y.brakeSeen })
  (s.monitors a f status, f)

/-- The real inputs enter the predictor history (R198). -/
def State.pushHistory (s : State) (a : Nat) (f : Front) : State :=
  s.updAxis a (fun x => { x with h0 := some (x.h1.getD f.inp), h1 := some f.inp })

end Sys2Proof.Machine
end

