-- ==== Sys2Proof/Machine/RunAhead.lean ====
section
/-! DEFINITION. The computation of an axis-cycle (R195 to R208, R217 to R223): the chain's context, the back end,
speculation, the reconcile tests and the correction, squash and recompute, and what follows at the end of a reconcile. -/

namespace Sys2Proof.Machine

open Sys2Proof

/-! ### Back end (R171, R217, R218) -/

/-- What a back end gives: the limited voltage vector in the stationary frame and in the axis's own components, the duties, and dir of each component. -/
structure Back where
  v : Rat × Rat
  own : Rat × Rat
  duty : Int × Int × Int
  d0 : Int
  d1 : Int
  deriving DecidableEq, Repr

/-- The zero-voltage duties (R24, R218). -/
def zeroDuty (two : Bool) : Int × Int × Int := if two then (0, 0, 0) else (0x8000, 0x8000, 0x8000)

/-- A three-phase duty of a phase voltage with the zero sequence added. -/
def dutyU (v vbus : Rat) : Int := roundHalfUp (65535 * clampR 0 1 (1 / 2 + v / vbus))

/-- A bridge duty. -/
def dutyB (v vbus : Rat) : Int := roundHalfUp (32767 * clampR (-1) 1 (v / vbus))

/-- The duties of a stationary voltage vector (R218); PHASE_ORDER 1 exchanges V and W (R213). -/
def State.duties (s : State) (a : Nat) (v : Rat × Rat) (vbus : Rat) : Int × Int × Int :=
  let two := twoBridge s.cf a
  if vbus = 0 then zeroDuty two
  else if two then (dutyB v.1 vbus, dutyB v.2 vbus, 0)
  else
    let vU := v.1
    let vV := -v.1 / 2 + v.2 * Config.sqrt3 / 2
    let vW := -v.1 / 2 - v.2 * Config.sqrt3 / 2
    let z := -(maxR (maxR vU vV) vW + minR (minR vU vV) vW) / 2
    let dV := dutyU (vV + z) vbus
    let dW := dutyU (vW + z) vbus
    if s.cf (K.PHASE_ORDER a) = 1 then (dutyU (vU + z) vbus, dW, dV) else (dutyU (vU + z) vbus, dV, dW)

/-- Whether a bit of FF_ENABLE acts; none does during an alignment (R217, R220). -/
def State.ffBit (s : State) (a i : Nat) : Bool := bit (s.rdN (K.FF_ENABLE a)) i && !(s.axis a).aligning

/-- The apply angle θ_a for a record applied `apply` ns after the cycle start. -/
def State.thetaA (s : State) (a : Nat) (f : Front) (apply : Nat) : Rat :=
  if (s.axis a).aligning then 0
  else f.theta + (s.polePairs a : Rat) * turnsOf f.inp.speed * (((apply : Rat) + (s.ct : Rat) / 2) / 1000000000)

/-- The voltages with the feed-forwards of R217. -/
def State.withFf (s : State) (a : Nat) (f : Front) (v : Rat × Rat) (set prev : Option (Int × Int)) (thA : Rat) : Rat × Rat :=
  let w := s.omegaE a (turnsOf f.inp.speed)
  let psi := s.rdR (K.PSI a)
  if !twoBridge s.cf a then
    let v := if s.ffBit a 0 then
        (v.1 - w * s.rdR (K.L_Q a) * f.inp.i1, v.2 + w * s.rdR (K.L_D a) * f.inp.i0) else v
    if s.ffBit a 1 then (v.1, v.2 + w * psi) else v
  else
    let v := match set, prev with
      | some x, some y => if s.ffBit a 0 then
          let k := s.rdR (K.L_D a) * quantum (s.stageExp a 1) / s.tcSec
          (v.1 + k * (x.1 - y.1 : Int), v.2 + k * (x.2 - y.2 : Int)) else v
      | _, _ => v
    if s.ffBit a 1 then (v.1 - w * psi * Config.sinTurn thA, v.2 + w * psi * Config.cosTurn thA) else v

/-- The back end for a record applied `apply` ns after the cycle start, from the PI outputs `u` in quanta. -/
def State.backEnd (s : State) (a : Nat) (f : Front) (u : Int × Int) (set prev : Option (Int × Int)) (apply : Nat) : Back :=
  let e := s.stageExp a 1
  let vbus : Rat := (f.vbus : Rat) / 16
  let thA := s.thetaA a f apply
  let v := s.withFf a f (ofStage e u.1, ofStage e u.2) set prev thA
  let lim := s.vLim a vbus
  if !twoBridge s.cf a then
    let m2 := v.1 * v.1 + v.2 * v.2
    let act := decide (lim * lim < m2)
    let k := if act then lim / sqrt64 m2 else 1
    let w : Rat × Rat := (v.1 * k, v.2 * k)
    let c := Config.cosTurn thA
    let n := Config.sinTurn thA
    let st : Rat × Rat := (w.1 * c - w.2 * n, w.1 * n + w.2 * c)
    { v := st, own := w, duty := s.duties a st vbus, d0 := if act then sgnR v.1 else 0, d1 := if act then sgnR v.2 else 0 }
  else
    let w : Rat × Rat := (clampR (-lim) lim v.1, clampR (-lim) lim v.2)
    { v := w, own := w, duty := s.duties a w vbus
      d0 := if lim < absR v.1 then sgnR v.1 else 0, d1 := if lim < absR v.2 then sgnR v.2 else 0 }

/-! ### The chain's context -/

/-- The current of a microstepping axis (R221, R223, R228), A. -/
def State.stepCurrent (s : State) (a : Nat) : Rat :=
  if s.axisType a = 2 ∧ (s.mot a).holding then s.rdR (K.I_HOLD a) else s.rdR (K.I_RUN a)

/-- The set-points given directly: the alignment of R220, the commanded angle of R221. -/
def State.direct (s : State) (a : Nat) (p : Int) : Option (Rat × Rat) :=
  if (s.axis a).aligning then some (s.rdR (K.ALIGN_CURRENT a), 0)
  else if s.microstep a then
    let th := s.angleC a p
    let i := s.stepCurrent a
    some (i * Config.cosTurn th, i * Config.sinTurn th)
  else none

/-- The context of an execution of the axis's chain: profile, predicted angle and bus voltage (V). -/
def State.ctx (s : State) (a cyc : Nat) (prof : Profile) (thetaP vbus : Rat) : Ctx :=
  let micro := s.microstep a
  let lvl := if micro then 1 else s.level a
  { runPos := Nat.ble 3 lvl && posDue s.cf a cyc, runVel := Nat.ble 2 lvl && velDue s.cf a cyc, closed := lvl
    threePhase := !twoBridge s.cf a, pos := s.law a 3, vel := s.law a 2, cur := s.curLaw a vbus, velTs := s.stageTs a 2
    pt0 := s.ptCo a 0, pt1 := s.ptCo a 1, pt2 := s.ptCo a 2, pt3 := s.ptCo a 3
    fp0 := s.fpRun a 0, fp1 := s.fpRun a 1, fp2 := s.fpRun a 2, fp3 := s.fpRun a 3
    prof := prof, velSet := prof.v, iqSet := s.iqNow a, direct := s.direct a prof.p, theta := thetaP
    align := (s.axis a).aligning, vClamp := (s.axis a).slsClamp }

/-- The profile values of the present tick. -/
def State.profNow (s : State) (a : Nat) : Profile := { p := s.pSet a, v := (s.mot a).v, a := (s.mot a).a }

/-- Count the invocations of probes (R203). -/
def State.countProbe (s : State) (a : Nat) (l : List (Nat × FpOut)) : State := s.countFps a l

/-! ### Speculation (R195, R203) -/

/-- The probe run of a point's program: the input raised by 2^8 quanta. A run that ends at its fence passes its input,
and the state memory stays (R203). -/
def probeOf (f : FpRun) (u : FpUse) (x : Int) (o : FpOut) : Option (Probe × FpOut) :=
  f.map (fun g =>
    let q := g u (x + 256)
    if o.overrun || q.overrun then ({ dy := 256, use := u }, q) else ({ dy := q.y - o.y, use := q.use }, q))

/-- The probes of the points that ran; the input of a point's program is its linear elements' output. -/
def probes (c : Ctx) (w : Words) (o : ChainOut) (inp : Inputs) : List (Nat × Probe × FpOut) :=
  let one (k : Nat) (co : PtCo) (f : FpRun) (st : PointSt) (x : Int) : List (Nat × Probe × FpOut) :=
    match o.fps.find? (fun e => e.1 == k) with
    | some e => ((probeOf f st.fp (linRun co st x).1 e.2).map (fun p => (k, p.1, p.2))).toList
    | none => []
  let w1 := (chainPos c w inp).1
  let iq := if 2 ≤ c.closed then ofStage c.vel.e o.words.vel.out else c.iqSet
  one 0 c.pt0 c.fp0 w.pt0 (toStage c.pos.e (posErr c.prof.p inp.pos))
    ++ one 1 c.pt1 c.fp1 w.pt1 (toStage c.vel.e (velSetOf c w1))
    ++ one 2 c.pt2 c.fp2 w.pt2 (toStage c.vel.e (turnsOf inp.speed))
    ++ one 3 c.pt3 c.fp3 w.pt3 (toStage c.cur.e iq)

/-- The state as it will be at the next cycle start, for the preview of its profile tick (R196). -/
def State.nextCycle (s : State) : State :=
  { s.updClk (fun c => { c with cyc := c.cycNext.getD (c.cyc + 1), tick := c.tick + 1 }) with
    masters := s.masters.map (fun e => (e.1, e.2.publish)) }

/-- The profile values the next cycle's tick will give. -/
def State.profNext (s : State) (a : Nat) : Profile :=
  let n := s.nextCycle
  (if n.tickDue a then n.profileTick a else n).profNow a

/-- The pending words (R198): dir is 0 for every stage that ran. -/
def pendingWords (c : Ctx) (o : ChainOut) : Words :=
  let w := integrate c o 0 0
  { w with
    pos := if o.pos.isSome then { w.pos with dir := 0 } else w.pos
    vel := if o.vel.isSome then { w.vel with dir := 0 } else w.vel }

/-- The speculation of the next cycle (R195 to R198). -/
def State.speculate (s : State) (a : Nat) : State :=
  let x := s.axis a
  let inp := s.predict a
  let th := s.thetaP a inp
  let prof := s.profNext a
  let c := s.ctx a s.nextCycle.cycle prof th ((x.vbus : Rat) / 16)
  let o := chain c x.words inp
  let pr := probes c x.words o inp
  let s := (s.countFps a o.fps).countProbe a (pr.map (fun e => (e.1, e.2.2)))
  s.updAxis a (fun x => { x with
    spec := some {
      tick := s.clk.tick + 1, inp := inp, prof := prof, words := pendingWords c o, pos := o.pos, vel := o.vel
      e0 := o.e0, e1 := o.e1, u0 := o.u0, u1 := o.u1, theta := th, probes := pr.map (fun e => (e.1, e.2.1))
      satP := o.satP || pr.any (fun e => e.1 == 0 && e.2.2.sat)
      satV := o.satV || pr.any (fun e => (e.1 == 1 || e.1 == 2) && e.2.2.sat)
      satC := o.satC || pr.any (fun e => e.1 == 3 && e.2.2.sat) } })

/-- SPECULATE (R195): the chain of the next cycle from committed words and predicted inputs. -/
def execSpeculate (axis : Fin 128) (s : State) : Res :=
  let a := axis.val
  let x := s.axis a
  if s.power = 2 ∧ s.rd (K.RA_ENABLE a) = 1 ∧ x.pwm ∧ 1 ≤ s.level a ∧ x.h1.isSome ∧ !graphAxis s.cf a then
    done (s.speculate a)
  else done s

/-! ### The correction (R201 to R203) -/

/-- A corrected value with whether it saturates on leaving its accumulator. -/
def fix (b : Bool) (x : Rat) : Int × Bool := (leave x, b || leaves x)

/-- A filter program's state words at commit (R203). -/
def mixUse (w p : FpUse) (dx : Int) : FpUse × Bool :=
  let keys := (w.mem.map (·.1)) ++ ((p.mem.map (·.1)).filter (fun k => (SMap.find w.mem k).isNone))
  let v (k : Nat) : Rat :=
    let a := SMap.get w.mem 0 k
    (a : Rat) + (((SMap.get p.mem 0 k - a) * dx : Int) : Rat) / 256
  ({ w with mem := keys.foldl (fun m k => SMap.put m 0 k (leave (v k))) w.mem }, keys.any (fun k => leaves (v k)))

/-- Pass a change of input (exact quanta) through a point whose pending state is `st` (R201): the change of its output,
the corrected state, and saturation. -/
def passPoint (c : PtCo) (pr : Option Probe) (st : PointSt) (d : Rat) : Rat × PointSt × Bool :=
  let lp := match c.lp with
    | some al => (al * d, { st with lp := leave (st.lp + al * d) }, leaves (st.lp + al * d))
    | none => (d, st, false)
  let q (co : Option BiqCo) (b : Biq) (x : Rat) : Rat × Biq × Bool := match co with
    | some k => (k.b0 * x, { b with x1 := leave (b.x1 + x), y1 := leave (b.y1 + k.b0 * x) },
        leaves (b.x1 + x) || leaves (b.y1 + k.b0 * x))
    | none => (x, b, false)
  let b1 := q c.b1 lp.2.1.b1 lp.1
  let b2 := q c.b2 lp.2.1.b2 b1.1
  let st2 : PointSt := { lp.2.1 with b1 := b1.2.1, b2 := b2.2.1 }
  let sat := lp.2.2 || b1.2.2 || b2.2.2
  match pr with
  | none => (b2.1, st2, sat)
  | some p =>
    let dx := roundHalfUp b2.1
    let m := mixUse st2.fp p.use dx
    ((roundHalfUp ((p.dy : Rat) * dx / 256) : Rat), { st2 with fp := m.1 }, sat || m.2)

/-- The probe of a point. -/
def Spec.probe (sp : Spec) (k : Nat) : Option Probe := (sp.probes.find? (fun e => e.1 == k)).map (·.2)

/-- The outcome of a stage's correction: the squash cause of R200, or the stage's words, the change of its output in
quanta and the residual. -/
inductive Corr where
  | squash (cause : Nat)
  | ok (st : OuterSt) (dout : Rat) (r : Rat)
  deriving DecidableEq, Repr

/-- Tests 5 to 7 and the correction of an outer stage (R200, R201): `de` and `ddm` in exact quanta. -/
def corrOuter (L : Law) (st : OuterSt) (run : StageRun) (de ddm : Rat) (sat : Bool) (rmax : Nat) : Corr :=
  let e' := roundHalfUp ((run.e : Rat) + de)
  let g := gainAt L run.e.natAbs
  let g' := gainAt L e'.natAbs
  let served := !L.gtX.isEmpty
  let sl : Rat := if served && Nat.ble 1 run.seg && Nat.blt run.seg L.gtX.length then g.2.2 else 0
  let f := g.2.1 + sl * ofStage L.e run.e.natAbs
  let fi : Rat := if L.scaleKi then f else 1
  let al : Rat := L.alphaD.getD 1
  let du := L.kp * f * de - L.kd * al * ddm
  let u := fix sat ((run.u : Rat) + du)
  let i := fix u.2 ((st.i : Rat) + L.kits * fi * de)
  let df := fix i.2 ((st.df : Rat) + al * ddm)
  let r := (L.kp + (if L.scaleKi then L.kits else 0)) * absR sl * de * de * quantum L.e
  if served && (g'.1 != run.seg || (e'.sign != run.e.sign && (run.seg != 0 || g'.1 != 0))) then .squash 5
  else if run.dir ≠ 0 ∨ L.lim < u.1 ∨ u.1 < -L.lim ∨ (if L.kd = 0 then i.2 else df.2) then .squash 6
  else if (rmax : Rat) < r then .squash 7
  else .ok { st with
      i := clampI (-L.lim) L.lim i.1, df := df.1, dir := 0, out := clampI (-L.lim) L.lim (leave ((st.out : Rat) + du)) } du r

/-- What the whole correction yields: a cause, or the words but for the current stage's dirs, its PI outputs and the
largest residual. -/
inductive Fixed where
  | squash (cause : Nat)
  | ok (w : Words) (u0 u1 : Int) (r : Rat)
  deriving DecidableEq, Repr

/-- The current stage's correction (R201): `diq` the change of the torque set-point in the stage's quanta. -/
def corrCur (c : Ctx) (sp : Spec) (w : Words) (dOut : Rat) (i0 i1 : Rat) (sat : Bool) (r : Rat) : Fixed :=
  let p := if c.direct.isSome then (0, w.pt3, false) else passPoint c.pt3 (sp.probe 3) w.pt3 dOut
  let d : Rat × Rat := if c.threePhase then (0, p.1)
    else (-p.1 * Config.sinTurn sp.theta, p.1 * Config.cosTurn sp.theta)
  let de0 := d.1 - (toStage c.cur.e (i0 - sp.inp.i0) : Rat)
  let de1 := d.2 - (toStage c.cur.e (i1 - sp.inp.i1) : Rat)
  let u0 := fix (sat || p.2.2) ((sp.u0 : Rat) + c.cur.kp * de0)
  let u1 := fix u0.2 ((sp.u1 : Rat) + c.cur.kp * de1)
  let j0 := fix u1.2 ((w.i0 : Rat) + c.cur.kits * de0)
  let j1 := fix j0.2 ((w.i1 : Rat) + c.cur.kits * de1)
  if j1.2 then .squash 6
  else .ok { w with
      pt3 := p.2.1, i0 := clampI (-c.cur.lim) c.cur.lim j0.1, i1 := clampI (-c.cur.lim) c.cur.lim j1.1, d0 := 0, d1 := 0
      set := w.set.map (fun q => (leave ((q.1 : Rat) + d.1), leave ((q.2 : Rat) + d.2))) } u0.1 u1.1 r

/-- The correction of the chain, stage by stage (R200 tests 5 to 7, R201). -/
def corrChain (c : Ctx) (sp : Spec) (inp : Inputs) (rmax : Nat) : Fixed :=
  let w := sp.words
  let dsT := turnsOf (inp.speed - sp.inp.speed)
  let pos : Corr × PointSt := match sp.pos with
    | none => (.ok w.pos 0 0, w.pt0)
    | some run =>
      let dp := (toStage c.pos.e ((wrapS 64 (inp.pos - sp.inp.pos) : Rat) * pow2 (-32)) : Rat)
      let q := passPoint c.pt0 (sp.probe 0) w.pt0 (-dp)
      (corrOuter c.pos w.pos run q.1 (toStage c.pos.e dsT : Rat) (sp.satP || q.2.2) rmax, q.2.1)
  match pos.1 with
  | .squash k => .squash k
  | .ok pw dPos r0 =>
    let vel : Corr × PointSt × PointSt × Int := match sp.vel with
      | none => (.ok w.vel 0 0, w.pt1, w.pt2, w.vel.fbPrev)
      | some run =>
        let dSet := if sp.pos.isSome then dPos * pow2 (c.pos.e - c.vel.e) else 0
        let q1 := passPoint c.pt1 (sp.probe 1) w.pt1 dSet
        let q2 := passPoint c.pt2 (sp.probe 2) w.pt2 (toStage c.vel.e dsT : Rat)
        let fb := fix (sp.satV || q1.2.2 || q2.2.2) ((w.vel.fbPrev : Rat) + q2.1)
        (corrOuter c.vel w.vel run (q1.1 - q2.1) (q2.1 / c.velTs) fb.2 rmax, q1.2.1, q2.2.1, fb.1)
    match vel.1 with
    | .squash k => .squash k
    | .ok vw dVel r1 =>
      let w1 : Words := { w with
        pos := pw, pt0 := pos.2, vel := { vw with fbPrev := vel.2.2.2 }, pt1 := vel.2.1, pt2 := vel.2.2.1 }
      let dOut := if sp.vel.isSome then dVel * pow2 (c.vel.e - c.cur.e) else 0
      corrCur c sp w1 dOut inp.i0 inp.i1 sp.satC (maxR r0 r1)

/-- Some active filter program on the chain is NONAFFINE (R200, test 3). -/
def State.chainNonAffine (s : State) (a : Nat) (c : Ctx) : Bool :=
  let used (k : Nat) : Bool := if k = 0 then c.runPos else if k = 3 then c.direct.isNone else c.runVel
  (List.range 4).any (fun k => used k && (match s.fpAt a k with
    | some q => !imgAffine q.2
    | none => false))

/-- Test 4 of R200. -/
def State.predError (s : State) (a : Nat) (r p : Inputs) : Bool :=
  let tol := (s.rd (K.TOL_CURRENT a) : Rat) / 1000 * s.rdR (K.I_MAX a)
  decide (s.rd (K.TOL_POS a) < (wrapS 64 (r.pos - p.pos)).natAbs) || decide (s.rd (K.TOL_SPEED a) < (r.speed - p.speed).natAbs)
    || decide (tol < absR (r.i0 - p.i0)) || decide (tol < absR (r.i1 - p.i1))

/-- Raise a peak object to a value. -/
def State.peak (s : State) (k : Nat) (v : Int) : State := if s.rd k < v then s.wr k v else s

/-- The peaks of R212. -/
def State.peaks (s : State) (a : Nat) (r p : Inputs) : State :=
  let di := maxR (absR (r.i0 - p.i0)) (absR (r.i1 - p.i1))
  ((s.peak (K.POS_ERR_PEAK a) (min (wrapS 64 (r.pos - p.pos)).natAbs (2 ^ 32 - 1) : Nat)).peak (K.SPEED_ERR_PEAK a)
    (min (r.speed - p.speed).natAbs (2 ^ 31 - 1) : Nat)).peak (K.CURRENT_ERR_PEAK a)
    (min (roundHalfUp (di * 1000 / s.rdR (K.I_MAX a))) 65535)

/-! ### Commit (R198, R205) -/

/-- The result of a cycle: words, PI outputs in quanta, back ends for the on-time and the LATE_APPLY record. -/
structure Result where
  words : Words
  pos : Option StageRun
  vel : Option StageRun
  onTime : Back
  late : Back
  deriving DecidableEq, Repr

/-- Recompute the cycle from committed words and measured inputs (R205, R208). -/
def State.recompute (s : State) (a : Nat) (f : Front) (thetaP : Rat) : State × Result :=
  let x := s.axis a
  let c := s.ctx a s.cycle (s.profNow a) thetaP ((f.vbus : Rat) / 16)
  let o := chain c x.words f.inp
  let b := s.backEnd a f (o.u0, o.u1) o.words.set x.words.set (s.axisApply a)
  let l := s.backEnd a f (o.u0, o.u1) o.words.set x.words.set s.ct
  (s.countFps a o.fps, { words := integrate c o b.d0 b.d1, pos := o.pos, vel := o.vel, onTime := b, late := l })

/-- Executions with dir not 0, and the gain table's readouts (R176, R194). -/
def State.showStages (s : State) (a : Nat) (r : Result) : State :=
  let s := if r.words.d0 ≠ 0 ∨ r.words.d1 ≠ 0 then s.bump (K.SAT_COUNT_4002 a) else s
  let s := if r.vel.isSome ∧ r.words.vel.dir ≠ 0 then s.bump (K.SAT_COUNT_4003 a) else s
  let s := if r.pos.isSome ∧ r.words.pos.dir ≠ 0 then s.bump (K.SAT_COUNT_4004 a) else s
  let run := if s.served a = 2 then r.vel else if s.served a = 3 then r.pos else none
  match run with
  | some q =>
    (s.wr (K.GT_SEGMENT a) q.seg).wr (K.GT_FACTOR a) (real32Bits (gainAt (s.law a (s.served a)) q.e.natAbs).2.1)
  | none => s

/-- BUS_ZERO (R218): an event only. -/
def State.busZero (s : State) (a vbus : Nat) : State :=
  let z := vbus == 0
  let s := if z then s.bump (K.BUS_ZERO_COUNT a) else s
  let s := if z && !(s.axis a).busZero then s.raise Ev.BUS_ZERO a 0 else s
  s.updAxis a (fun x => { x with busZero := z })

/-- The load angle and the stall counters (R226). -/
def State.stallFront (s : State) (a : Nat) (thetaP : Rat) : State :=
  let x := s.axis a
  let micro := s.microstep a
  let obs := s.rd (K.OBS_STATE a)
  let d := if micro then wrapHalf (s.angleC a (s.pSet a) - x.obs.theta) else wrapHalf (thetaP - x.obs.theta + 1 / 4)
  let la := tenths d
  let s := if obs = 0 then s else
    ((s.wr (K.LOAD_ANGLE a) la).peak (K.LOAD_ANGLE_PEAK a) la.natAbs).updAxis a (fun x => { x with delta := d })
  let slow := decide (absR x.obs.omega < s.omegaE a (absR (s.mot a).v) / 2)
  let jam := x.words.vel.dir != 0 && decide ((s.rd (K.SPEED_EST a)).natAbs < s.rd (K.STALL_SPEED a))
  let angle := micro && obs == 3 && decide (s.rd (K.STALL_ANGLE a) < la.natAbs)
  let held := s.degraded a || x.aligning || decide (s.commandedSpeed a < turnsOf (s.rd (K.MIN_OBS_SPEED a)))
  s.updAxis a (fun x => { x with
    stallRun := if angle && !held then x.stallRun + 1 else 0
    stallTime := if (if micro then slow else jam) && !held then x.stallTime + 1 else 0 })

/-- Keep at most the 65,536 newest entries of a history. -/
def keep65536 {α : Type} (l : List α) : List α := l.take 65536

/-- Counters of a reconcile (R205, R212): `cause` 0 without a squash. -/
def State.countReconcile (s : State) (a cause : Nat) : State :=
  let s := (s.bump (K.RECONCILES a)).perf 4 a 1
  let x := s.axis a
  let s := s.updAxis a (fun x => { x with sqCause := cause, recHist := keep65536 ((cause != 0) :: x.recHist) })
  if cause = 0 then s.updAxis a (fun x => { x with squashRun := 0, squashRaised := false })
  else
    let s := ((s.bump (K.SQUASHES a)).perf 5 a 1).bump (odKey (0x4007 + 32 * a) (10 + cause))
    ((s.wr (K.LAST_SQUASH_CAUSE a) cause).wr (K.LAST_SQUASH_CYCLE a) s.cycle).updAxis a
      (fun y => { y with squashRun := x.squashRun + 1 })

/-- The result commits: words, duties of the record, predictor history. -/
def State.commitAxis (s : State) (a : Nat) (f : Front) (r : Result) : State :=
  let s := s.updAxis a (fun x => { x with
    words := r.words, spec := none, changed := false
    dutyU := r.onTime.duty.1, dutyV := r.onTime.duty.2.1, dutyW := r.onTime.duty.2.2
    lateU := r.late.duty.1, lateV := r.late.duty.2.1, lateW := r.late.duty.2.2
    vNew := r.onTime.v, vLate := r.late.v, vLim := r.onTime.own })
  ((s.pushHistory a f).showStages a r).busZero a f.vbus

/-! ### The end of a reconcile (R223, R228) -/

/-- Sensorless phases of type 4 (R223). -/
def State.phaseEnd (s : State) (a : Nat) : State :=
  if s.axisType a ≠ 4 ∨ !axRuns (s.axState a) then s
  else
    let x := s.axis a
    let lvl := s.level a
    if s.rd (K.SENSORLESS_PHASE a) = 0 then
      if s.rd (K.OBS_STATE a) ≠ 3 then s
      else
        let d := wrapHalf (s.angleC a (s.pSet a) - x.obs.theta)
        let p := wrapS 64 (s.pSet a - roundHalfUp (d / (max 1 (s.polePairs a) : Nat) * 4294967296))
        let i : Rat := s.rdR (K.I_RUN a) * Config.sinTurn d
        let s := ((s.wr (K.SENSORLESS_PHASE a) 1).wr (K.MEASURED_POS a) p).wr (K.CLOSED_LEVEL a) (min lvl 1 : Nat)
        let s := s.updAxis a (fun x => { x with
          h1 := x.h1.map (fun i => { i with pos := p }), h0 := x.h1.map (fun i => { i with pos := p }) })
        (s.closeTo a lvl i).touch a
    else if absR (s.obsTurns a) < 8 / 10 * turnsOf (s.rd (K.MIN_OBS_SPEED a)) ∨ s.rd (K.OBS_STATE a) ≠ 3 then
      let s := (s.setP a (s.rd (K.MEASURED_POS a))).wr (K.SENSORLESS_PHASE a) 0
      (s.updAxis a (fun x => { x with
        words := { x.words with pos := {}, vel := {}, pt0 := {}, pt1 := {}, pt2 := {} } })).touch a
    else s

/-- Degraded mode at the end of a reconcile (R228). -/
def State.degradedEnd (s : State) (a : Nat) : State :=
  if !s.degraded a then s
  else if (s.mot a).v = 0 ∧ s.source a ≠ Src.STOP then s.degEnd a 1
  else if s.rd (K.DEG_STATE a) = 2 then s
  else if s.rd (K.OBS_STATE a) ≠ 3 ∨ absR (s.obsTurns a) < 8 / 10 * turnsOf (s.rd (K.MIN_OBS_SPEED a)) then
    if absR (s.obsTurns a) < 8 / 10 * turnsOf (s.rd (K.MIN_OBS_SPEED a)) then
      if s.axisType a = 3 then
        ((s.wr (K.DEG_STATE a) 2).updAxis a (fun x => { x with degBase := s.pSet a, degTheta := x.obs.theta })).touch a
      else s.degEnd a 2
    else s.degEnd a 3
  else s

/-- What follows the commit. -/
def State.afterCommit (s : State) (a : Nat) (thetaP : Rat) : State := ((s.stallFront a thetaP).phaseEnd a).degradedEnd a

/-- The axis is computed in this cycle: RUN, configured, not in graph mode, its task not cancelled (R147), not computed
yet, and once a first FEEDBACK frame came (R24). -/
def State.computes (s : State) (a : Nat) : Bool :=
  let x := s.axis a
  s.power == 2 && s.axState a != 0 && !graphAxis s.cf a && !x.cancelled && x.ranAt != s.clk.tick + 1
    && (x.h1.isSome || (s.fbOf a).isSome)

/-- An axis that computes no command: PWM is off. Its front end keeps the predictor history. -/
def State.idleAxis (s : State) (a : Nat) (f : Front) : State :=
  let z := zeroDuty (twoBridge s.cf a)
  (s.pushHistory a f).updAxis a (fun x => { x with
    spec := none, changed := false, sqCause := 0, squashRun := 0, squashRaised := false, vLim := (0, 0)
    dutyU := z.1, dutyV := z.2.1, dutyW := z.2.2, lateU := z.1, lateV := z.2.1, lateW := z.2.2, vNew := (0, 0), vLate := (0, 0) })

/-- RECONCILE's tests and correction: the cause (0 none) and the corrected result. -/
def State.tryCorrect (s : State) (a : Nat) (f : Front) (sp : Spec) : Nat × Option Result :=
  let x := s.axis a
  let c := s.ctx a s.cycle (s.profNow a) sp.theta ((f.vbus : Rat) / 16)
  if s.rd (K.FORCE_SQUASH a) = 1 then (1, none)
  else if x.changed then (2, none)
  else if s.chainNonAffine a c ∧ s.rd (K.FP_NONAFFINE a) = 0 then (3, none)
  else
    let back (w : Words) (u0 u1 : Int) (apply : Nat) : Back := s.backEnd a f (u0, u1) w.set x.words.set apply
    let res (w : Words) (u0 u1 : Int) (pos vel : Option StageRun) : Result :=
      { words := w, pos := pos, vel := vel, onTime := back w u0 u1 (s.axisApply a), late := back w u0 u1 s.ct }
    if !f.frame then (0, some (res sp.words sp.u0 sp.u1 sp.pos sp.vel))
    else if s.predError a f.inp sp.inp then (4, none)
    else match corrChain c sp f.inp (s.rdN (K.RESIDUAL_MAX a)) with
      | .squash k => (k, none)
      | .ok w u0 u1 _ =>
        let r := res w u0 u1 sp.pos sp.vel
        if r.onTime.d0 ≠ 0 ∨ r.onTime.d1 ≠ 0 then (6, none) else (0, some r)

/-- The residual of a committed correction, in quanta (R212). -/
def State.residual (s : State) (a : Nat) (f : Front) (sp : Spec) : Int :=
  let c := s.ctx a s.cycle (s.profNow a) sp.theta ((f.vbus : Rat) / 16)
  match corrChain c sp f.inp (s.rdN (K.RESIDUAL_MAX a)) with
  | .ok _ _ _ r => min (roundHalfUp r) 65535
  | .squash _ => 0

/-- The reconcile task of an axis (R195, R200 to R205). -/
def State.reconcile (s : State) (a : Nat) : State :=
  let sp := ((s.axis a).spec).filter (fun sp => sp.tick == s.clk.tick)
  let p := s.predict a
  let thP := s.thetaP a p
  let r := s.frontEnd a
  let f := r.2
  let s := (r.1.perf 2 a 1).updAxis a (fun x => { x with ranAt := s.clk.tick + 1, sqCause := 0 })
  if !(s.axis a).pwm then s.idleAxis a f
  else
    let s : State := match sp with
      | some sp => if f.frame then s.peaks a f.inp sp.inp else s
      | none => s
    let forced : Bool := decide (s.rd (K.FORCE_SQUASH a) = 1)
    let t : Nat × Option Result := match sp with
      | some sp => s.tryCorrect a f sp
      | none => (if forced then 1 else 2, none)
    match t.2 with
    | some res =>
      let s := match sp with
        | some sp => if f.frame then s.peak (K.RESIDUAL_PEAK a) (s.residual a f sp) else s
        | none => s
      ((s.commitAxis a f res).countReconcile a 0).afterCommit a thP
    | none =>
      let q := s.recompute a f thP
      ((q.1.commitAxis a f q.2).countReconcile a t.1).afterCommit a thP

/-- RECONCILE of an axis with run-ahead on. -/
def execReconcile (axis : Fin 128) (s : State) : Res :=
  if s.rd (K.RA_ENABLE axis.val) = 1 ∧ s.computes axis.val then done (s.reconcile axis.val) else done s

/-- The full computation of an axis with run-ahead off (R208). -/
def State.fullCompute (s : State) (a : Nat) : State :=
  let thP := s.thetaP a (s.predict a)
  let r := s.frontEnd a
  let s := (r.1.perf 2 a 1).updAxis a (fun x => { x with ranAt := s.clk.tick + 1, sqCause := 0 })
  if !(s.axis a).pwm then s.idleAxis a r.2
  else
    let q := s.recompute a r.2 thP
    (q.1.commitAxis a r.2 q.2).afterCommit a thP

/-- FULL_COMPUTE. -/
def execFullCompute (axis : Fin 128) (s : State) : Res :=
  if s.rd (K.RA_ENABLE axis.val) = 0 ∧ s.computes axis.val then done (s.fullCompute axis.val) else done s

/-- RA_SQUASH_RUN (R205): SQUASH_RUN_LIMIT consecutive squashes, once per run. -/
def execRaSquashRun (axis : Fin 128) (s : State) : Res :=
  let a := axis.val
  let x := s.axis a
  let lim := s.rdN (K.SQUASH_RUN_LIMIT a)
  if lim = 0 ∨ x.squashRun < lim ∨ x.squashRaised then done s
  else done ((s.updAxis a (fun x => { x with squashRaised := true })).raise Ev.RA_SQUASH_RUN a (s.rdN (K.LAST_SQUASH_CAUSE a)))

end Sys2Proof.Machine
end

