-- ==== Sys2Proof/Machine/Points.lean ====
section
/-! DEFINITION. The point image (R283 to R290): accepted writes, the value of a point in a downstream frame, the
snapshot; and the masters (R291). -/

namespace Sys2Proof.Machine

open Sys2Proof

/-! ### Points -/

/-- Apply a timed operation to a BIT value: set, clear, toggle. -/
def timedOp (op : Nat) (v : Int) : Int := if op = 1 then 1 else if op = 2 then 0 else if v = 0 then 1 else 0

/-- Insert a timed action in instant order, after those of the same instant (R122). -/
def insertAct (x : SentAction) : List SentAction → List SentAction
  | [] => [x]
  | y :: r => if x.instant < y.instant then x :: y :: r else y :: insertAct x r

/-- A point's value with the sent timed actions up to an instant applied in instant order (R301). -/
def applyActs (l : List SentAction) (p : Nat) (latch v : Int) : Int :=
  (l.filter (fun x => x.point == p && decide (x.instant ≤ latch))).foldl (fun v x => timedOp x.op v) v

/-- The value of an output point in a frame latched at an instant of network time (R301). -/
def State.outAt (s : State) (p : Nat) (latch : Int) : Int := applyActs s.sentActs p latch (SMap.get s.pubOut 0 p)

/-- The published value of a point (R286, R290). -/
def State.pointNow (s : State) (p : Nat) (output : Bool) : Int :=
  if output then SMap.get s.pubOut 0 p else SMap.get s.pubIn 0 p

/-- A host write to a point (R289, R290): an output point within its type; refused for an input point and for a point
no island owns. -/
def State.pointWrite (s : State) (p : Nat) (v : Int) : WRes :=
  match pointOwner s.cf p with
  | none => (s, .refused)
  | some (_, _, r) =>
    if !r.output then (s, .refused)
    else if v < (pointRange r.ty).1 ∨ (pointRange r.ty).2 < v then (s, .range)
    else WRes.ok { s with outPts := SMap.insert s.outPts p v }

/-- POINT_WRITE. -/
def execPointWrite (point : Fin 262144) (v : Int) (s : State) : Res := answered (s.pointWrite point v)

/-- The snapshot (R286, R301): received inputs and accepted outputs are published together, with the timed actions whose
instant has come. -/
def State.publish (s : State) : State :=
  let now : Int := s.netStart + dynEnd s.cf
  let dueNow : List SentAction := s.sentActs.filter (fun x => decide (x.instant ≤ now))
  let out := s.outPts.foldl (fun m e => SMap.put m 0 e.1 e.2) s.pubOut
  { s.wrN K.SNAPSHOT_CYCLE s.cycle with
    pubIn := s.rxPts
    pubOut := dueNow.foldl (fun m x => SMap.put m 0 x.point (timedOp x.op (SMap.get m 0 x.point))) out
    outPts := []
    sentActs := s.sentActs.filter (fun x => !decide (x.instant ≤ now)) }

/-! ### Masters (R291) -/

/-- Ticks of a division from an axis's latest tick to a cycle. -/
def sinceTick (d a cyc : Nat) : Nat := (cyc + d - a % d) % d

/-- The set-point of an axis at the next common instant (AXIS_SETPOINT): at its latest tick at or before the cycle, and
v_p for the time since. -/
def State.setpointNext (s : State) (a : Nat) : Int × Rat × Rat :=
  let n := s.nextCycle
  let p := s.profNext a
  let d := max 1 (if 3 ≤ s.level a then s.cfN (K.POS_DIV a) else s.cfN (K.VEL_DIV a))
  let dt : Rat := (sinceTick d a n.cycle : Rat) * s.tcSec
  (wrapS 64 (p.p + roundHalfUp (p.v * dt * 4294967296)), p.v, p.a)

/-- The extrapolation of R197 from two samples of position and R8 speed. -/
def extrapolate (h1 h0 : Int × Int) : Int × Int := (wrapS 64 (2 * h1.1 - h0.1), satS 32 (2 * h1.2 - h0.2))

/-- Acceleration from two R8 speeds one cycle apart, turns/s². -/
def State.accOf (s : State) (s1 s0 : Int) : Rat := b64 (turnsOf (s1 - s0) / s.tcSec)

/-- The value AXIS_MEASURED gives. -/
def State.measuredNext (s : State) (a : Nat) : Int × Rat × Rat :=
  let x := s.axis a
  let h1 := x.h1.getD {}
  let h0 := x.h0.getD h1
  let p := s.predict a
  (p.pos, turnsOf p.speed, s.accOf h1.speed h0.speed)

/-- Position of an unwrapped count by R263 without inversion and frame shift. -/
def countPos (u : Int) (counts : Nat) : Int :=
  let c : Int := max 1 counts
  let whole := u / c
  wrapS 64 (whole * 2 ^ 32 + roundHalfUp ((((u - whole * c) * 2 ^ 32 : Int) : Rat) / c))

/-- A master's task of a cycle (R291): the master value of the next cycle. -/
def State.masterUpdate (s : State) (m : Nat) : State :=
  let x := s.master m
  let ref := s.cfN (K.MASTER_REF m)
  let put (v : Int × Rat × Rat) : State := s.setMaster m { x with nPos := v.1, nV := v.2.1, nA := v.2.2 }
  match s.cfN (K.MASTER_SOURCE m) with
  | 0 => put (0, 0, 0)
  | 1 => put (s.setpointNext ref)
  | 2 => put (s.measuredNext ref)
  | 3 =>
    match s.capture ref with
    | none => s
    | some k =>
      let counts := s.cfN (K.MASTER_COUNTS_PER_TURN m)
      let r := estimate x.est s.netStart k.n k.age (some k.sign) (s.rdN (K.MASTER_T_ZERO m))
      let h : Int × Int := (countPos k.n counts, speedOf r.est.v counts false)
      let h0 := x.h1.getD h
      let e := extrapolate h h0
      s.setMaster m { x with
        nPos := e.1, nV := turnsOf e.2, nA := s.accOf h.2 h0.2, h1 := some h, h0 := some h0, est := r.est }
  | _ =>
    let acc := s.rdR (K.VIRT_ACC m)
    let r := rampStep { acc := acc, dec := acc, vt := turnsOf (s.rd (K.VIRT_SPEED m)) } x.pos x.v (b64 s.tcSec)
    put (r.1, r.2.1, r.2.2.1)

/-- MASTER_UPDATE. -/
def execMasterUpdate (master : Fin 8) (s : State) : Res := done (s.masterUpdate master)

/-- At a cycle start the computed values become those of the cycle (R291, R303). -/
def State.mastersStart (s : State) : State :=
  foldS (fun s m =>
    let x := (s.master m).publish
    (((s.setMaster m x).wr (K.MASTER_POS m) x.pos).wr (K.MASTER_SPEED m) (r8Of x.v)).wr (K.MASTER_ACC m) (real32Bits x.a))
    s (List.range 8)

end Sys2Proof.Machine
end

