-- ==== Sys2Proof/Machine/Wheel.lean ====
section
/-! DEFINITION. The event wheel (R292 to R302): records, arming, prediction of crossings, timed outputs on islands, and
the end of a timed action. -/

namespace Sys2Proof.Machine

open Sys2Proof

/-! ### Records -/

/-- A wheel entry record (R292). -/
structure WheelRec where
  kind : Nat
  flags : Nat
  action : Nat
  master : Nat
  target : Nat
  time : Int
  period : Nat
  tag : Nat
  rest : Nat
  deriving DecidableEq, Repr

/-- Read a record. WHEN is unsigned for TIME, signed for ANGLE. -/
def wheelRec (b : Bytes) : WheelRec :=
  { kind := uAt b 0 1, flags := uAt b 1 1, action := uAt b 2 1, master := uAt b 3 1, target := uAt b 4 4
    time := if uAt b 0 1 = 1 then uAt b 8 8 else sAt b 8 8
    period := uAt b 16 4, tag := uAt b 20 2, rest := uAt b 22 10 }

/-- PERIODIC. -/
def WheelRec.periodic (r : WheelRec) : Bool := bit r.flags 0
/-- EXEC_IF_LATE. -/
def WheelRec.execLate (r : WheelRec) : Bool := bit r.flags 1
/-- Direction: 0 POS, 1 NEG, 2 BOTH. -/
def WheelRec.dir (r : WheelRec) : Nat := field r.flags 2 2
/-- An action on a point (1 SET, 2 CLEAR, 3 TOGGLE). -/
def WheelRec.onPoint (r : WheelRec) : Bool := Nat.ble 1 r.action && Nat.ble r.action 3

/-- The record of an entry. -/
def State.wheelRec (s : State) (e : Nat) : WheelRec := Machine.wheelRec (s.rdB (K.ENTRY e))
/-- An armed entry's words. -/
def State.wheelEntry (s : State) (e : Nat) : WheelEntry := (SMap.find s.wheel e).getD {}
/-- Set them. -/
def State.setWheel (s : State) (e : Nat) (x : WheelEntry) : State := { s with wheel := SMap.insert s.wheel e x }

/-- The state of an entry (ENTRY_STATUS bits 2 to 0): 0 FREE, 1 ARMED, 2 SENT, 3 DONE, 4 PASSED, 5 MISSED, 6 REFUSED. -/
def State.wheelState (s : State) (e : Nat) : Nat := field (s.rdN (K.ENTRY_STATUS e)) 0 3

/-- Set an entry's state, LATE flag and code; ENTRIES_ARMED follows (R303). -/
def State.wheelStatus (s : State) (e st : Nat) (late : Bool) (code : Nat) : State :=
  let d : Int := b2i (st == 1) - b2i (s.wheelState e == 1)
  (s.wrN (K.ENTRY_STATUS e) (st + 8 * b2n late + 256 * code)).wr K.ENTRIES_ARMED (s.rd K.ENTRIES_ARMED + d)

/-- The LATE flag of an entry. -/
def State.wheelLate (s : State) (e : Nat) : Bool := bit (s.rdN (K.ENTRY_STATUS e)) 3

/-- Count and raise WHEEL_LATE, WHEEL_PASSED or WHEEL_MISSED (R294, R300). -/
def State.wheelNote (s : State) (e key ev : Nat) : State := (s.bump key).raise ev e (s.wheelRec e).tag

/-- Flag an entry LATE. -/
def State.flagLate (s : State) (e : Nat) : State :=
  if s.wheelLate e then s
  else ((s.wheelStatus e (s.wheelState e) true 0).wheelNote e K.WHEEL_LATE Ev.WHEEL_LATE)

/-! ### Writing a record (R292 to R295) -/

/-- A field is reserved or contradicts KIND (FORM). -/
def wheelForm (r : WheelRec) : Bool :=
  let common := 16 ≤ r.flags || r.rest != 0
  if r.kind = 0 then common
  else common || 2 < r.kind || r.action == 0 || 7 < r.action || r.dir == 3
    || (r.action == 4 && 128 ≤ r.target) || (r.action == 5 && r.target != 0) || (r.action == 6 && 2 ≤ r.target)
    || (r.action == 7 && 65536 ≤ r.target)
    || (r.kind == 1 && (r.master != 0 || r.dir != 0))
    || (r.kind == 2 && (8 ≤ r.master || r.period != 0 || (r.periodic && (r.time < 0 || 4294967296 ≤ r.time))))

/-- The point is an allocated BIT output. -/
def State.bitOutput (s : State) (p : Nat) : Bool :=
  match pointOwner s.cf p with
  | some (_, _, r) => r.output && r.ty == 0
  | none => false

/-- The code of R293 for which a record is refused. -/
def State.wheelRefuse (s : State) (e : Nat) (r : WheelRec) : Option Nat :=
  if wheelForm r then some 1
  else if r.kind ≠ 0 ∧ r.onPoint ∧ !s.bitOutput r.target then some 2
  else if r.kind = 2 ∧ s.noMaster r.master then some 3
  else if r.kind = 1 ∧ (if r.periodic then r.period < s.ct else r.period ≠ 0) then some 4
  else if r.kind = 2 ∧ !s.markReleases 1 then some 5
  else if s.wheelState e = 2 then some 6
  else none

/-- The island of a point action's target. -/
def State.pointIsland (s : State) (p : Nat) : Nat := ((pointOwner s.cf p).map (·.1)).getD 0

/-- The earliest instant of a record in this cycle (R294). -/
def State.earliest (s : State) (r : WheelRec) : Int :=
  (s.netStart : Int) + (if r.onPoint then s.applyAt (s.pointIsland r.target) else 0 : Nat)

/-- The master has reached a one-shot angle (R295). -/
def Master.reached (m : Master) (dir : Nat) (w : Int) : Bool :=
  let pos := decide (0 ≤ wrapS 64 (m.pos - w))
  let neg := decide (wrapS 64 (m.pos - w) ≤ 0)
  if dir = 0 then pos else if dir = 1 then neg
  else (decide (wrapS 64 (m.prev - w) ≤ 0) && pos) || (decide (0 ≤ wrapS 64 (m.prev - w)) && neg)

/-- Arm an entry whose record was stored (R294, R295). -/
def State.wheelArm (s : State) (e : Nat) (r : WheelRec) : State :=
  let first := s.earliest r
  let window : Int := s.rd K.LATE_WINDOW * s.ct
  if r.kind = 1 then
    let late := first - r.time
    if late ≤ 0 then (s.setWheel e { instant := some r.time }).wheelStatus e 1 false 0
    else if late ≤ window then
      ((s.setWheel e { instant := some (if r.onPoint then r.time else first), forced := some s.clk.cyc }).wheelStatus e 1
        false 0).flagLate e
    else ({ s with wheel := SMap.erase s.wheel e }.wheelStatus e 4 false 0).wheelNote e K.WHEEL_PASSED Ev.WHEEL_PASSED
  else if !r.periodic && (s.master r.master).reached r.dir r.time then
    if r.execLate then
      ((s.setWheel e { instant := some first, forced := some s.clk.cyc }).wheelStatus e 1 false 0).flagLate e
    else ({ s with wheel := SMap.erase s.wheel e }.wheelStatus e 4 false 0).wheelNote e K.WHEEL_PASSED Ev.WHEEL_PASSED
  else (s.setWheel e {}).wheelStatus e 1 false 0

/-- A write of a wheel entry (R292, R293). -/
def State.wheelWrite (s : State) (e : Nat) (b : Bytes) : WRes :=
  if b.length ≠ 32 then (s, .length)
  else
    let r := Machine.wheelRec b
    match s.wheelRefuse e r with
    | some c => ({ s with wheel := SMap.erase s.wheel e }.wheelStatus e 6 false c, .refused)
    | none =>
      let s := s.wrB (K.ENTRY e) b
      if r.kind = 0 then WRes.ok ({ s with wheel := SMap.erase s.wheel e }.wheelStatus e 0 false 0)
      else WRes.ok (s.wheelArm e r)

/-- WHEEL_ENTRY_WRITE. -/
def execWheelEntryWrite (entry : Fin 4096) (record : Bytes) (s : State) : Res := answered (s.wheelWrite entry record)

/-! ### Predicting a crossing (R296, R297) -/

/-- The fractional part of a position difference, in turns. -/
def fracTurn (d : Int) : Rat := ((d % 4294967296 : Int) : Rat) / 4294967296

/-- The time at which the master is at `d` turns from its position, moving up (`up`) or down, at the earliest; at once
where `d` is 0 (R296). Before 4T. -/
def crossTime (v a : Rat) (d : Rat) (up : Bool) (horizon : Rat) : Option Rat :=
  let ok (t : Rat) : Option Rat := if 0 ≤ t ∧ t < horizon then some t else none
  if d = 0 then some 0
  else if a = 0 then
    if v = 0 then none else if decide (0 < v) = up then ok (b64 (d / v)) else none
  else
    let disc := b64 (b64 (v * v) + b64 (b64 (2 * a) * d))
    if disc ≤ 0 then none
    else
      let r := sqrt64 disc
      ok (b64 (b64 (-v + (if up then r else -r)) / a))

/-- The distances at which a record's angle lies ahead of a position: in the first turn and `k` turns on. -/
def WheelRec.ahead (r : WheelRec) (p0 : Int) (up : Bool) (k : Nat) : Rat :=
  if r.periodic then
    if up then fracTurn (r.time - p0) + k else -fracTurn (p0 - r.time) - k
  else b64 (wrapS 64 (r.time - p0)) / 4294967296

/-- The directions a record crosses in. -/
def WheelRec.ups (r : WheelRec) : List Bool := if r.dir = 0 then [true] else if r.dir = 1 then [false] else [true, false]

/-- The earliest of the candidates. -/
def minOpt : List (Option Rat) → Option Rat
  | [] => none
  | x :: r => match x, minOpt r with
    | none, y => y
    | some a, none => some a
    | some a, some b => some (minR a b)

/-- The crossings of the turns after the first one that fall before a time (R296: dropped and counted), to `n` turns. -/
def furtherCross (r : WheelRec) (p0 : Int) (v a stop : Rat) (n : Nat) : Nat :=
  (r.ups.map (fun up => (List.range n).countP (fun k => (crossTime v a (r.ahead p0 up (k + 1)) up stop).isSome))).sum

/-- The crossing a plan finds for a record over the horizon, in network time, with further ones in its cycle. -/
def State.crossing (s : State) (r : WheelRec) : Option (Int × Nat) :=
  let m := s.master r.master
  let start : Int := s.nextCycle.netStart
  let t := minOpt (r.ups.map (fun up => crossTime m.nV m.nA (r.ahead m.nPos up 0) up (4 * s.tcSec)))
  t.map (fun tau =>
    let inst := start + roundHalfUp (tau * 1000000000)
    let endOf : Rat := (((inst - start) / s.ct + 1) * s.ct : Int) / 1000000000
    let both := (r.ups.countP (fun up => (crossTime m.nV m.nA (r.ahead m.nPos up 0) up endOf).isSome)) - 1
    (inst, if r.periodic then both + furtherCross r m.nPos m.nV m.nA endOf 64 else 0))

/-- The entry is a ready ANGLE entry that has no fixed instant. -/
def State.wheelReady (s : State) (e : Nat) : Bool :=
  s.wheelState e == 1 && (s.wheelRec e).kind == 2 && (s.wheelEntry e).ready && (s.wheelEntry e).instant.isNone

/-- WHEEL_PLAN (R296): the release of this cycle predicts every ready ANGLE entry's crossing. -/
def execWheelPlan (s : State) : Res :=
  done (foldS (fun s e =>
    if s.wheelReady e then
      let x := s.wheelEntry e
      let old := match x.plan with
        | some p => if p.tick < s.clk.tick then x.plan else x.planOld
        | none => x.planOld
      s.setWheel e { x with plan := some { tick := s.clk.tick, cross := s.crossing (s.wheelRec e) }, planOld := old }
    else s) s (s.wheel.map (·.1)))

/-- The prediction this cycle's frames and actions use: of the latest release before this cycle (R297). -/
def State.usedPlan (s : State) (x : WheelEntry) : Option (Int × Nat) :=
  match x.plan with
  | some p => if p.tick < s.clk.tick then p.cross else x.planOld.bind (·.cross)
  | none => none

/-- The instant of an entry's action as this cycle uses it. -/
def State.wheelInstant (s : State) (e : Nat) : Option Int :=
  let x := s.wheelEntry e
  match x.instant with
  | some i => some i
  | none => if x.ready then (s.usedPlan x).map (·.1) else none

/-- The further crossings dropped with the one an entry acts on. -/
def State.wheelSkipped (s : State) (e : Nat) : State :=
  let x := s.wheelEntry e
  match x.instant with
  | some _ => s
  | none => s.bumpBy K.SKIPPED_CROSSINGS (((s.usedPlan x).map (·.2)).getD 0)

/-- At a cycle start a periodic ANGLE entry that acted becomes ready where frac(pm − A) lies in [0.25, 0.75) (R296). -/
def State.wheelCycle (s : State) : State :=
  foldS (fun s e =>
    let x := s.wheelEntry e
    let r := s.wheelRec e
    let f := fracTurn ((s.master r.master).pos - r.time)
    if r.kind = 2 ∧ r.periodic ∧ !x.ready ∧ s.wheelState e = 1 ∧ 1 / 4 ≤ f ∧ f < 3 / 4 then
      s.setWheel e { x with ready := true, plan := none, planOld := none }
    else s) s (s.wheel.map (·.1))

/-- An action of an entry is over: DONE, or ARMED again when periodic, with its next instant (R294, R299). -/
def State.wheelOver (s : State) (e : Nat) (oneShot : Nat) : State :=
  let r := s.wheelRec e
  let x := s.wheelEntry e
  if !r.periodic then { s with wheel := SMap.erase s.wheel e }.wheelStatus e oneShot (s.wheelLate e) 0
  else if r.kind = 1 then
    (s.setWheel e { instant := x.instant.map (· + r.period) }).wheelStatus e 1 (s.wheelLate e) 0
  else (s.setWheel e { ready := false }).wheelStatus e 1 (s.wheelLate e) 0

/-- ENTRY_DONE (R299): the instant of a sent timed point action has come. -/
def execEntryDone (entry : Fin 4096) (t : Nat) (s : State) : Res :=
  let s := s.at t
  let e := entry.val
  match (s.wheelEntry e).instant with
  | some i => if s.wheelState e = 2 ∧ i ≤ s.netNow then done (s.wheelOver e 3) else done s
  | none => done s

/-! ### Timed outputs of a COMMAND frame (R298 to R300) -/

/-- An action that may go in an island's frame of this cycle. -/
structure Timed where
  entry : Nat
  instant : Int
  local_ : Nat
  op : Nat
  last : Int
  eligible : Bool
  late : Bool
  missed : Bool
  deriving DecidableEq, Repr

/-- What an armed point entry of an island is to this cycle's frame: eligible (R298), late within the window, or beyond
it (R300). -/
def State.timedOf (s : State) (n e : Nat) : Option Timed :=
  let r := s.wheelRec e
  if s.wheelState e ≠ 1 ∨ !r.onPoint then none
  else match pointOwner s.cf r.target, s.wheelInstant e with
    | some (k, j, _), some i =>
      if k ≠ n then none
      else
        let cyc : Int := s.clk.cyc
        let t := i - s.rd (K.TO_LATENCY n)
        let ap : Int := s.applyAt n
        let last := (t - ap) / s.ct
        let first := t / s.ct - 3
        let first := if r.kind = 2 then max first (last - s.rd K.LEAD_CYCLES + 1) else first
        let late := cyc * s.ct + ap - t
        let inWindow := decide (late ≤ s.rd K.LATE_WINDOW * s.ct) || (s.wheelEntry e).forced == some s.clk.cyc
        some { entry := e, instant := i, local_ := j, op := r.action, last := last
               eligible := decide (first ≤ cyc ∧ cyc ≤ last) || (decide (last < cyc) && inWindow)
               late := decide (last < cyc), missed := decide (last < cyc) && !inWindow }
    | _, _ => none

/-- The earlier in the order of R299: smaller m_last, earlier instant, lower entry number. -/
def Timed.before (x y : Timed) : Bool :=
  decide (x.last < y.last) || (decide (x.last = y.last) &&
    (decide (x.instant < y.instant) || (decide (x.instant = y.instant) && Nat.ble x.entry y.entry)))

/-- The first in that order. -/
def firstTimed : List Timed → Option Timed
  | [] => none
  | x :: r => match firstTimed r with
    | none => some x
    | some y => some (if x.before y then x else y)

/-- Fill TO_POINT and TO_AT of an island's COMMAND frame (R299), discard what is beyond its window (R300), and fix the
instant of what is overdue from now on. -/
def State.timedFill (s : State) (n : Nat) : State × Nat × Nat :=
  let all := (s.wheel.map (·.1)).filterMap (s.timedOf n)
  let s := foldS (fun s x => if x.missed then (s.wheelNote x.entry K.WHEEL_MISSED Ev.WHEEL_MISSED).wheelOver x.entry 5 else s)
    s all
  let pick := firstTimed (all.filter (·.eligible))
  let s := foldS (fun s x =>
    if !x.missed && decide (x.last ≤ (s.clk.cyc : Int)) && (pick.map (·.entry)) != some x.entry then
      s.setWheel x.entry { (s.wheelEntry x.entry) with instant := some x.instant }
    else s) s all
  match pick with
  | none => (s, 0, 0)
  | some x =>
    let s := if x.late then s.flagLate x.entry else s
    let s := s.wheelSkipped x.entry
    let target := (s.wheelRec x.entry).target
    let s := (s.setWheel x.entry { (s.wheelEntry x.entry) with instant := some x.instant, forced := none }).wheelStatus
      x.entry 2 (s.wheelLate x.entry) 0
    ({ s with sentActs := insertAct { instant := x.instant, point := target, op := x.op } s.sentActs },
      x.local_ + 16384 * x.op, (max 0 (x.instant - s.rd (K.TO_LATENCY n) - s.netStart)).toNat)

end Sys2Proof.Machine
end

