-- ==== Sys2Proof/Machine/Ingress.lean ====
section
/-! DEFINITION. Network/Ingress: FEEDBACK frames and the tasks they release (R73, R74, R81, R85, R103, R110, R122, R204,
R276, R343), POINTS and RELAY frames (R47, R112, R113, R126), and the loss of copies. -/

namespace Sys2Proof.Machine

open Sys2Proof

/-! ### Exchanges and containers -/

/-- The exchange a valid copy of FEEDBACK closes: COMMAND of the cycle before out, FEEDBACK back (R73, R74). T2 is
0xFFFFFFFF where the island had no COMMAND. -/
def State.fbExchange (s : State) (p : Nat) (t4 : Rat) (f : Bytes) : State :=
  match (s.port p).t1Prev with
  | none => s
  | some t1 =>
    if uAt f 20 4 = 0xFFFF_FFFF then s
    else
      let e := exchange t1 (sixteenth (uAt f 20 4)) (sixteenth (uAt f 24 4)) t4
      let l := (s.port p).recent ++ [e.1]
      let s := (s.updPort p (fun x => { x with devNow := some e.2 })).publishDelay p (l.drop (l.length - 16))
      let x := s.port p
      if (s.cfN (K.PLANNED_DELAY p) : Rat) < x.delay ∧ x.planRaised = false then
        (s.updPort p (fun x => { x with planRaised := true })).raise Ev.PORT_DELAY_PLAN p x.delay16
      else s

/-- The safety container of a valid FEEDBACK frame: the first valid one of the cycle is accepted (R99, R110). -/
def State.container (s : State) (n : Nat) (f : Bytes) : State :=
  let i := s.island n
  let a := islandAxes s.cf n
  if i.scDone then s
  else if !scUpOk n a f then s.bump (K.SC_CRC_ERRORS n)
  else if i.scSeqIn = some (uAt f 12 1) then s.bump (K.SC_STALE n)
  else
    let c : ScIn := { flags := uAt f 13 1, axes := uAt f 14 2, speeds := (List.range a).map (fun j => (fbRec f j).safeSpeed) }
    s.setIsland n { i with scSeqIn := some (uAt f 12 1), scDone := true, scIn := some c, scAt := s.clk.now }

/-! ### Interrupted cycles (R25, R26, R343) -/

/-- A fault being ridden through sees an interrupted cycle of an axis (R26, R460). -/
def Ride.see (r : Ride) (a run : Nat) : Ride :=
  { r with axes := if r.axes.contains a then r.axes else r.axes ++ [a], longest := max r.longest run, quiet := 0, hit := true }

/-- An interrupted cycle of an axis counts once: kind 1 HOLD, 2 LATE_APPLY, 3 NO_FRAME, with the cycle it was (R343). -/
def State.interrupt (s : State) (a kind cyc : Nat) : State :=
  let run := (s.axis a).interruptRun + 1
  let s := s.updAxis a (fun x => { x with interrupted := true, interruptRun := run })
  let s := (s.bump (K.INTERRUPTED_CYCLES a)).wr (K.INTERRUPT_RUN_PEAK a)
    (max (s.rdN (K.INTERRUPT_RUN_PEAK a)) (min run 255) : Nat)
  let s := (s.wrN (K.LAST_INTERRUPT_CYCLE a) (cyc % 2 ^ 32)).wrN (K.LAST_INTERRUPT_KIND a) kind
  { s with recorder := { s.recorder with rides := s.recorder.rides.map (fun r => r.see a run) } }

/-- The cycle before was held by the island for want of a COMMAND (R118). -/
def State.heldCycle (s : State) (n : Nat) : State :=
  foldS (fun s a => if a < 128 ∧ (s.axis a).interrupted = false then s.interrupt a 3 (s.clk.cyc - 1) else s)
    (s.bump (K.HELD_CYCLES n)) (axisMap s.cf n)

/-! ### Tasks of an island's cycle -/

/-- Configured axes of an island by local number. -/
def State.axesOf (s : State) (n : Nat) : List Nat := (axisMap s.cf n).filter (fun a => a < 128 && axisOn s.cf a)

/-- Loop stages of an axis (R142: s_a). -/
def stageCount (ty : Nat) : Nat := if ty = 2 then 2 else 3

/-- Filter programs at an axis's points (R142: f_a). -/
def State.programCount (s : State) (a : Nat) : Nat := (List.range 4).countP (fun p => (s.fpAt a p).isSome)

/-- The tasks of an axis for this cycle, and the speculative ones for the next (R135, R195, R208); feedback tokens for a
graph-mode axis (R158). -/
def State.axisTasks (s : State) (a : Nat) : State :=
  if graphAxis s.cf a then s.placeTokens a
  else
    let ra := s.rd (K.RA_ENABLE a) == 1
    let s := s.submit (newTask (if ra then .reconcile a else .full a) 0 (some a) s.cycle s.clk.now [] true)
    if ra then
      foldS (fun s _ => s.submit (newTask (.speculate a) 2 (some a) ((s.cycle + 1) % 2 ^ 32) s.clk.now [] true)) s
        (List.range (stageCount (s.axisType a) + s.programCount a))
    else s

/-- The tasks of an island whose FEEDBACK of the cycle is decided, with its safety-feed task behind them (R135). No axis
is computed in power state CONFIG (R24). -/
def State.islandTasks (s : State) (n : Nat) : State :=
  if s.power ≠ 2 then s
  else
    let first := s.ferry.nextId
    let s := foldS State.axisTasks s (s.axesOf n)
    let deps := (s.ferry.tasks.filter (fun t => Nat.ble first t.id && t.kind.command.isSome)).map (·.id)
    s.submit (newTask (.safetyFeed n) 1 (some (160 + n)) s.cycle s.clk.now deps true)

/-! ### FEEDBACK -/

/-- The timed outputs an island accepted against the number sent (R122). -/
def State.toCheck (s : State) (n count : Nat) : State :=
  let s := match (s.island n).toExpect with
    | some e =>
      let lost := (e + 256 - count) % 256
      if lost ≠ 0 ∧ lost < 128 then (s.bumpBy (K.TO_LOST n) lost).raise Ev.TIMED_OUTPUT_LOST n lost else s
    | none => s
  s.updIsland n (fun i => { i with toExpect := some count })

/-- The FAST inputs of a FEEDBACK frame enter the receive copy (R107, R285, R286). -/
def State.takeFast (s : State) (n : Nat) (f : Bytes) : State :=
  let runs := localPoints 0 (pointRuns s.cf n)
  let vals : List (Nat × Int) := unpackPoints (fun r => r.cls == 0 && !r.output) runs (f.drop (32 + 16 * islandAxes s.cf n))
  let base := s.cfN (K.FIRST_POINT n)
  ({ s with rxPts := vals.foldl (fun (m : SMap Int) (e : Nat × Int) => SMap.put m 0 (base + e.1) e.2) s.rxPts }.wrN (K.FAST_SAMPLE_CYCLE n)
    s.cycle).inputsFresh n [0]

/-- A frame that repeats the last accepted SEQ is missing for every axis of the island, and frozen for each whose current
stage is closed (R276). -/
def State.repeated (s : State) (n : Nat) : State :=
  foldS (fun s a => if 1 ≤ s.level a then s.feedbackFault a Ev.FEEDBACK_FROZEN false else s)
    (s.updIsland n (fun i => { i with fbStale := true })) (s.axesOf n)

/-- The first valid copy of an island's FEEDBACK in a cycle is kept (R81). -/
def State.keepFeedback (s : State) (n : Nat) (f : Bytes) : State :=
  let h := headerOf f
  let last := (s.island n).sampleSeq
  let s := s.updIsland n (fun i => { i with fb := some f, fbDone := true, fbStale := false, sampleSeq := some h.seq })
  let s := if last = some h.seq then s.repeated n
    else
      let gap : Bool := match last with
        | some q => h.seq != (q + 1) % 65536
        | none => false
      let s := if gap then foldS (fun s a => s.bump (K.SEQ_GAPS a)) s (s.axesOf n) else s
      s.toCheck n (uAt f 30 1)
  let st := uAt f 31 1
  let s := if bit st 3 then s.bump (K.TO_LATE n) else s
  let s := if bit st 4 then s.bump (K.TO_OVERFLOW n) else s
  let s := if bit h.flags 4 then s.heldCycle n else s
  (s.takeFast n f).islandTasks n

/-- The first valid copy on a port in this cycle, and the end of a channel's loss (R81). -/
def State.copyIn (s : State) (p : Nat) : State :=
  let lost := (s.port p).lost
  let s := s.updPort p (fun x => { x with copy := true, lost := false })
  if lost then s.raise Ev.CHANNEL_RESTORED (portIsland p) (portChannel p) else s

/-- FEEDBACK_RECEIVED (R81): `mac` is the MAC time-stamp in ns from cycle start, `envOk` the checks of FCS, address and
EtherType (R98). -/
def execFeedbackReceived (port : Fin 48) (mac : Nat) (envOk : Bool) (f : Bytes) (s : State) : Res :=
  let p := port.val
  let n := portIsland p
  let s := s.at (s.clk.startNow + mac)
  let r := s.arrive p mac envOk f
  match r.2 with
  | some (.slot 0) =>
    if f.length < cyclicLen s.cf n false then done r.1
    else
      let s := ((r.1.fbExchange p (s.planeTime p mac) f).copyIn p).container n f
      let s := if s.dual.on then s.emit (.straitFeedback n f) else s
      if (s.island n).fbDone then done s else done (s.keepFeedback n f)
  | _ => done r.1

/-- An island whose FEEDBACK is missing is decided: its tasks run on predicted inputs (R204). -/
def State.decideMissing (s : State) (n : Nat) : State :=
  if s.integrated n ∧ (s.island n).fbDone = false then
    (s.updIsland n (fun i => { i with fb := none, fbDone := true })).islandTasks n
  else s

/-- A port's copy was absent while the other channel delivered, or it came (R81). -/
def State.missPort (s : State) (p : Nat) : State :=
  let other := if p < 24 then p + 24 else p - 24
  if (s.port p).copy then s.updPort p (fun x => { x with missRun := 0 })
  else if (s.port other).copy ∧ s.guard p ≠ G.DISABLED then
    ((s.bump (K.CHANNEL_MISS p)).perf 10 (portIsland p) 1).updPort p (fun x => { x with missRun := x.missRun + 1 })
  else s

/-- The heads agree which FEEDBACK frames there are (R85): this head has a live peer. -/
def State.agrees (s : State) : Bool := s.dual.on && s.straitUp

/-- FEEDBACK_DEADLINE (R204, R81): the instant L. With a peer the decision waits for the agreement instant. -/
def execFeedbackDeadline (s : State) : Res :=
  let s := foldS State.missPort s (List.range 48)
  if s.agrees then done s else done (foldS State.decideMissing s (List.range 24))

/-- FEEDBACK_AGREEMENT (R85, R270): `peerHas` are the islands whose FEEDBACK the other head received. A frame neither
head has is missing; a channel without a capture of the senior head takes this head's own. -/
def execFeedbackAgreement (peerHas : BitVec 24) (s : State) : Res :=
  let s := foldS (fun s n => if peerHas.toNat.testBit n then s else s.decideMissing n) s (List.range 24)
  done (foldS (fun s c => if s.dual.on && s.dhRole != 1 && (s.enc c).senior.isNone && s.encMode c != 0 then
    s.bump (K.OWN_CAPTURES c) else s) s (List.range 8))

/-- STRAIT_FEEDBACK_RECEIVED (R85, R270, R444): the other head's copy of an island's FEEDBACK (`src` below 24), or the
senior head's capture of channel `src` - 24: count, age of its last edge in ns and the edge's sign, interval of the last
two steps. -/
def execStraitFeedbackReceived (src : Fin 32) (f : Bytes) (n : Int) (age : Option Nat) (sign : Int) (q : Nat) (s : State) : Res :=
  let k := src.val
  if s.dual.on = false ∨ s.straitUp = false then done s
  else if 24 ≤ k then
    let c : Cap := { n := n, age := age, sign := sign, q := q }
    if s.dhRole = 2 then done (s.updEnc (k - 24) (fun e => { e with senior := some c, caps := c :: e.caps.drop 1 }))
    else done s
  else if s.validUp k true (headerOf f) 3 ∧ cyclicLen s.cf k false ≤ f.length then
    let s := (s.updIsland k (fun i => { i with forwarded := some f })).container k f
    if (s.island k).fbDone then done s else done ((s.bump K.FB_FORWARDED).keepFeedback k f)
  else done s

/-! ### Dynamic and further static frames -/

/-- The number by which a place's first copy of a cycle is known. -/
def Place.key : Place → Nat
  | .slot k => 65536 + k
  | .mini id => id

/-- A frame at a place of the right type that is the first copy there in this cycle (R81): the island's record of it. -/
def State.firstCopy (s : State) (n : Nat) (pl : Place) : Option State :=
  if (s.island n).seen.contains pl.key then none
  else some (s.updIsland n (fun i => { i with seen := pl.key :: i.seen }))

/-- Parts of a transfer of so many octets (R113). -/
def partCount (total : Nat) : Nat := max 1 ((total + 1479) / 1480)

/-- The values of a complete transfer enter the receive copy, with their sample cycles (R286, R287, R304). -/
def State.takePoints (s : State) (n : Nat) (x : PointsXfer) : State :=
  let runs := localPoints 0 (pointRuns s.cf n)
  let vals : List (Nat × Int) := unpackPoints (fun r => inContent x.content r.cls && !r.output) runs x.data
  let base := s.cfN (K.FIRST_POINT n)
  let s := { s with rxPts := vals.foldl (fun (m : SMap Int) (e : Nat × Int) => SMap.put m 0 (base + e.1) e.2) s.rxPts }
  let s := if bit x.content 0 then s.wrN (K.MEDIUM_SAMPLE_CYCLE n) x.sample else s
  let s := if bit x.content 1 then s.wrN (K.SLOW_SAMPLE_CYCLE n) x.sample else s
  let s := if bit x.content 2 then (s.wrN (K.OC_SAMPLE_CYCLE n) x.sample).bump (K.OC_TRANSFERS n) else s
  s.inputsFresh n ([1, 2, 3].filter (fun c => inContent x.content c))

/-- A part of a POINTS transfer (R112, R113): part 0 begins a transfer, the next part continues it, and the last one
completes it. -/
def State.pointsPart (s : State) (n : Nat) (f : Bytes) : State :=
  let part := uAt f 10 1
  let parts := uAt f 11 1
  let content := uAt f 12 1
  let sample := uAt f 16 4
  let total := pointsBytes s.cf n false content
  let size := min 1480 (total - 1480 * part)
  if parts ≠ partCount total ∨ parts ≤ part ∨ f.length < 20 + size ∨ 8 ≤ content then s
  else
    let data := slice f 20 size
    let x : Option PointsXfer :=
      if part = 0 then some { content := content, ocCount := uAt f 14 2, sample := sample, done := 1, data := data }
      else match (s.island n).pointsIn with
        | some x => if x.content = content ∧ x.sample = sample ∧ x.done = part then
            some { x with done := part + 1, data := x.data ++ data } else none
        | none => none
    match x with
    | none => s
    | some x =>
      let s := s.updIsland n (fun i => { i with pointsIn := some x })
      if x.done = parts then s.takePoints n x else s

/-- POINTS_RECEIVED (R112). -/
def execPointsReceived (port : Fin 48) (mac : Nat) (envOk : Bool) (f : Bytes) (s : State) : Res :=
  let n := portIsland port.val
  let r := (s.at (s.clk.startNow + mac)).arrive port.val mac envOk f
  match r.2 with
  | some pl =>
    if Place.ty s.cf pl = 5 ∧ 20 ≤ f.length then
      match r.1.firstCopy n pl with
      | some s => done (s.pointsPart n f)
      | none => done r.1
    else done r.1
  | none => done r.1

/-- The downstream slots of role RELAY that serve an island, ascending (R36, R46). -/
def relaySlots (g : Nat → Int) (n : Nat) : List Nat :=
  (fromTo 2 (nat g K.STATIC_SLOTS)).filter (fun k => downRole g k == 4 && slotMask g k n)

/-- A relay payload for one destination (R47): queued, or counted as dropped or without slot. -/
def State.relayOne (s : State) (src rseq : Nat) (data : Bytes) (dest : Nat) : State :=
  let q := SMap.get s.net.relays [] dest
  if !s.integrated dest || (relaySlots s.cf dest).isEmpty then s.bump K.RELAY_NO_SLOT
  else if 4 ≤ q.length then s.bump K.RELAY_DROPS
  else s.updNet (fun x => { x with
    relays := SMap.put x.relays [] dest (q ++ [{ src := src, rseq := rseq, data := data, tick := s.clk.tick }]) })

/-- The entries of a RELAY frame from an offset, at most `n` (R126): source, destination, counter, data. -/
def relayEntries : Nat → Nat → Bytes → List (Nat × Nat × Nat × Bytes)
  | 0, _, _ => []
  | n + 1, off, f =>
    let len := uAt f (off + 2) 1
    if f.length < off + 4 + len ∨ 64 < len then []
    else (uAt f off 1, uAt f (off + 1) 1, uAt f (off + 3) 1, slice f (off + 4) len) :: relayEntries n (off + 4 + pad4 len) f

/-- RELAY_RECEIVED (R46, R47, R126): destination 0xFF is every integrated island but the sender. -/
def execRelayReceived (port : Fin 48) (mac : Nat) (envOk : Bool) (f : Bytes) (s : State) : Res :=
  let n := portIsland port.val
  let r := (s.at (s.clk.startNow + mac)).arrive port.val mac envOk f
  match r.2 with
  | some pl =>
    if Place.ty s.cf pl = 7 ∧ 16 ≤ f.length then
      match r.1.firstCopy n pl with
      | some s =>
        done (foldS (fun s e =>
          let dests := if e.2.1 = 0xFF then s.integratedList.filter (· != n) else [e.2.1]
          foldS (fun s d => s.relayOne e.1 e.2.2.1 e.2.2.2 d) s dests) s (relayEntries (uAt f 12 1) 16 f))
      | none => done r.1
    else done r.1
  | none => done r.1

end Sys2Proof.Machine
end

