-- ==== Sys2Proof/Machine/Lighthouse.lean ====
section
/-! DEFINITION. The Lighthouse (R422 to R449): safe inputs and outputs, groups and demands, the axis safety states, the
monitoring of islands, degraded mode, and the safety parameters with their signature and password. -/

namespace Sys2Proof.Machine

open Sys2Proof

/-- LH_STATE (R451). -/
abbrev LH.OFF : Nat := 0
/-- STARTUP. -/
abbrev LH.STARTUP : Nat := 1
/-- RUN. -/
abbrev LH.RUN : Nat := 2
/-- SAFE_FAULT. -/
abbrev LH.SAFE_FAULT : Nat := 3

/-- Axis safety states (R451), which are also the codes of demands (0 none, 1 SLS, 2 SS1, 3 STO). -/
abbrev SS.RUN : Nat := 0
/-- SLS. -/
abbrev SS.SLS : Nat := 1
/-- SS1. -/
abbrev SS.SS1 : Nat := 2
/-- STO. -/
abbrev SS.STO : Nat := 3
/-- STO_LOCKED. -/
abbrev SS.LOCKED : Nat := 4

/-- LH_STATE. -/
def State.lhState (s : State) : Nat := s.rdN K.LH_STATE
/-- AXIS_SAFETY_STATE. -/
def State.safety (s : State) (a : Nat) : Nat := s.rdN (K.AXIS_SAFETY_STATE a)
/-- Update the Lighthouse. -/
def State.updLh (s : State) (f : Lh → Lh) : State := { s with lh := f s.lh }
/-- What the Lighthouse holds of an axis. -/
def State.lhAxis (s : State) (a : Nat) : LhAxis := SMap.get s.lh.axes {} a
/-- Update it. -/
def State.updLhAxis (s : State) (a : Nat) (f : LhAxis → LhAxis) : State :=
  s.updLh (fun l => { l with axes := SMap.put l.axes {} a (f (SMap.get l.axes {} a)) })
/-- A safe input. -/
def State.si (s : State) (k : Nat) : SiIn := SMap.get s.lh.si {} k
/-- Update it. -/
def State.updSi (s : State) (k : Nat) (f : SiIn → SiIn) : State :=
  s.updLh (fun l => { l with si := SMap.put l.si {} k (f (SMap.get l.si {} k)) })
/-- A safe output pair. -/
def State.so (s : State) (o : Nat) : SoOut := SMap.get s.lh.so {} o
/-- Update it. -/
def State.updSo (s : State) (o : Nat) (f : SoOut → SoOut) : State :=
  s.updLh (fun l => { l with so := SMap.put l.so {} o (f (SMap.get l.so {} o)) })

/-- EXTRA of the events of groups 2 and 12 (R463). -/
def whoExtra (w : Who) : Bytes := leBytes 1 w.role.val ++ leBytes 1 w.session.val ++ [0, 0] ++ leBytes 4 w.peer.toNat
/-- EXTRA where no session is concerned (R463). -/
def noWho : Bytes := [0, 0xFF, 0, 0, 0, 0, 0, 0]
/-- Raise an event of group 12 that no session caused. -/
def State.raise12 (s : State) (ev d0 d1 : Nat) : State := s.raiseX ev d0 d1 noWho

/-! ### Groups and scopes -/

/-- The axis is in a group (R432). -/
def inGroup (g : Nat → Int) (k a : Nat) : Bool := bit (nat g (K.GROUP_AXES k (a / 32))) (a % 32)
/-- The groups of an axis, lowest first. -/
def State.groupsOf (s : State) (a : Nat) : List Nat := (List.range 8).filter (fun k => inGroup s.cf k a)

/-- The axes of a degraded scope (R442). -/
def State.inScope (s : State) (c : Scope) (a : Nat) : Bool :=
  match c.cause with
  | 1 => (List.range 8).any (fun k => bit (s.cfN (K.SI_GROUPS c.ref)) k && inGroup s.cf k a)
  | 2 => if s.cf (K.SO_SOURCE c.ref) = 1 then inGroup s.cf (s.cfN (K.SO_REF c.ref)) a else s.cfN (K.SO_REF c.ref) == a
  | 3 => ((axisPlace s.cf a).map (fun p => p.1 == c.ref)).getD false
  | _ => c.ref == a

/-- A safety element loses a channel (R442, R443): a first one adds its scope, a second one stops it. -/
def State.degradeAdd (s : State) (cause ref chan : Nat) : State :=
  match s.lh.scopes.find? (fun c => c.cause == cause && c.ref == ref) with
  | some c =>
    if c.failed.contains chan then s
    else
      let c' : Scope := { c with failed := c.failed ++ [chan], second := true }
      s.updLh (fun l => { l with scopes := l.scopes.map (fun x => if x.cause = cause ∧ x.ref = ref then c' else x) })
  | none =>
    let c : Scope := { cause := cause, ref := ref, failed := [chan], second := false }
    let s := s.updLh (fun l => { l with scopes := l.scopes ++ [c] })
    if s.rd K.DEGRADED_STATE ≠ 0 then s
    else
      ((((s.wr K.DEGRADED_STATE 1).wr K.DEGRADED_CAUSE cause).wr K.DEGRADED_REF ref).updLh
        (fun l => { l with degradedAt := s.clk.now })).raise12 Ev.SAFETY_DEGRADED ref cause

/-! ### Safe inputs (R426 to R429) -/

/-- A channel shows demand: A when low; B when low, in mode ANTIVALENT when high (R426). -/
def State.chanDemand (s : State) (k : Nat) (chB : Bool) : Bool :=
  let x := s.si k
  if chB then (if s.cf (K.SI_MODE k) = 2 then x.b else !x.b) else !x.a

/-- The input shows demand (R426 to R428): in FAULT, with no healthy channel, or by a healthy channel. -/
def State.siDemand (s : State) (k : Nat) : Bool :=
  let x := s.si k
  x.dis || (x.faultA && x.faultB) || (!x.faultA && s.chanDemand k false) || (!x.faultB && s.chanDemand k true)

/-- SI_STATE and SI_FAULT as the input stands. -/
def State.siShow (s : State) (k : Nat) : State :=
  let x := s.si k
  let st : Nat := if s.cf (K.SI_MODE k) = 0 then 0 else if x.dis then 3 else if s.siDemand k then 2 else 1
  let f : Nat := if x.dis then 1 else if x.faultA then 2 else if x.faultB then 3 else 0
  (s.wr (K.SI_STATE k) st).wr (K.SI_FAULT k) f

/-- A channel's level changed: disagreement begins or ends, the time to leave FAULT begins or ends, and a press of a
RESET input begins with closed contacts and ends when they open (R428, R429). -/
def State.siEdge (s : State) (k : Nat) : State :=
  let dA := s.chanDemand k false
  let dB := s.chanDemand k true
  let now := s.clk.now
  let x := s.si k
  let split : Bool := dA != dB && !x.faultA && !x.faultB
  let dis := if split then (match x.disSince with
    | some t => some t
    | none => some now) else none
  let both := if x.dis ∧ dA ∧ dB then (match x.bothSince with
    | some t => some t
    | none => some now) else none
  let closed : Bool := !s.siDemand k
  let held : Bool := match x.closedAt with
    | some t => Nat.ble (t + 100000000) now && Nat.ble now (t + 5000000000)
    | none => false
  let closedAt := if closed then (match x.closedAt with
    | some t => some t
    | none => some now) else none
  let s := s.updSi k (fun x => { x with
    disSince := dis, bothSince := both, closedAt := closedAt
    press := (!closed && held && s.cf (K.SI_FUNCTION k) == 4) || (x.press && !closed) })
  s.siShow k

/-- The Lighthouse runs its program: STARTUP or RUN. -/
def State.lhAlive (s : State) : Bool := s.lhState == LH.STARTUP || s.lhState == LH.RUN

/-- SI_CHANNEL_CHANGE (R426): channel A (`chB` false) or B of an input has held a new level for SI_FILTER. -/
def execSiChannelChange (input : Fin 16) (chB level : Bool) (t : Nat) (s : State) : Res :=
  let k := input.val
  let s := s.at t
  if s.lhAlive = false ∨ s.cf (K.SI_MODE k) = 0 then done s
  else
    let s := s.wrN (K.SI_RAW k) (setBit (s.rdN (K.SI_RAW k)) (b2n chB) level)
    let s := s.updSi k (fun x => if chB then { x with b := level } else { x with a := level })
    done (s.siEdge k)

/-- SI_TEST_PULSE (R427): the pulse window of a channel ends. Two pulses in a row through which the channel stayed high
are a channel fault. -/
def execSiTestPulse (input : Fin 16) (chB stayedHigh : Bool) (t : Nat) (s : State) : Res :=
  let k := input.val
  let s := s.at t
  if s.lhAlive = false ∨ s.cf (K.SI_MODE k) = 0 ∨ s.cf (K.SI_TEST_PULSE k) = 0 then done s
  else
    let x := s.si k
    let stay := if stayedHigh then (if chB then x.stayB else x.stayA) + 1 else 0
    let pass := if stayedHigh then 0 else (if chB then x.passB else x.passA) + 1
    let s := s.updSi k (fun x => if chB then { x with stayB := stay, passB := pass } else { x with stayA := stay, passA := pass })
    let faulty := if chB then x.faultB else x.faultA
    if stay < 2 ∨ faulty then done s
    else
      let s := s.updSi k (fun x => if chB then { x with faultB := true, disSince := none } else { x with faultA := true, disSince := none })
      let s := ((s.siShow k).raise12 Ev.SI_FAULT k (if chB then 3 else 2)).startRide Ev.SI_FAULT
      done (s.degradeAdd 1 k (b2n chB))

/-- SI_DISCREPANCY (R428): the channels have disagreed for longer than SI_DISCREPANCY. -/
def execSiDiscrepancy (input : Fin 16) (t : Nat) (s : State) : Res :=
  let k := input.val
  let s := s.at t
  let x := s.si k
  match x.disSince with
  | none => done s
  | some t0 =>
    if s.lhAlive = false ∨ s.cf (K.SI_MODE k) = 0 ∨ x.dis ∨ x.faultA ∨ x.faultB ∨
        s.elapsed t0 (1000000 * s.cfN (K.SI_DISCREPANCY k)) = false then done s
    else done (((s.updSi k (fun x => { x with dis := true })).siShow k).raise12 Ev.SI_FAULT k 1)

/-- An input in FAULT leaves it when both channels have shown demand for one SI_FILTER (R428). -/
def State.siClear (s : State) (k : Nat) : State :=
  let x := s.si k
  let clear : Bool := x.dis && (match x.bothSince with
    | some t0 => s.elapsed t0 (100000 * s.cfN (K.SI_FILTER k))
    | none => false)
  let s := if clear then s.updSi k (fun x => { x with dis := false, bothSince := none, disSince := none }) else s
  s.siShow k

/-- The demand an input makes on its groups (R429). -/
def State.siGives (s : State) (k : Nat) : Nat :=
  if s.cf (K.SI_MODE k) = 0 ∨ s.siDemand k = false then 0
  else match s.cfN (K.SI_FUNCTION k) with
    | 1 => SS.STO
    | 2 => SS.SS1
    | 3 => SS.SLS
    | _ => 0

/-- GROUP_DEMAND of a group (R432); a rise of the demand is a SAFETY_DEMAND. -/
def State.groupUpdate (s : State) (g : Nat) : State :=
  let d := ((List.range 16).filter (fun k => bit (s.cfN (K.SI_GROUPS k)) g)).foldl (fun m k => max m (s.siGives k)) 0
  let old := s.rdN (K.GROUP_DEMAND g)
  let s := s.wrN (K.GROUP_DEMAND g) d
  if old < d then s.raise12 Ev.SAFETY_DEMAND g 1 else s

/-! ### What the islands and the scopes demand -/

/-- The container last accepted from an axis's island, with the axis's local number. -/
def State.scOf (s : State) (a : Nat) : Option (ScIn × Nat) :=
  match axisPlace s.cf a with
  | some p => (s.island p.1).scIn.map (fun c => (c, p.2))
  | none => none

/-- The safe speed of an axis, R8 units (R437). -/
def State.safeSpeed (s : State) (a : Nat) : Int :=
  match s.scOf a with
  | some (c, j) => ((c.speeds[j]?).getD 0) * 1024
  | none => 0

/-- SAFE_SPEED_VALID of the latest container. -/
def State.safeValid (s : State) (a : Nat) : Bool :=
  match s.scOf a with
  | some (c, _) => bit c.flags 1
  | none => false

/-- When the latest container of an island was accepted; RUN began where there was none (R437). -/
def State.scSince (s : State) (n : Nat) : Nat :=
  if (s.island n).scIn.isSome then max (s.island n).scAt s.lh.runAt else s.lh.runAt

/-- No container of an island was accepted for SC_LOSS_TIME. -/
def State.scLost (s : State) (n : Nat) : Bool := s.elapsed (s.scSince n) (1000000 * s.cfN K.SC_LOSS_TIME)

/-- An output pair that reads on although both its switches are off serves the axis (R431). -/
def State.stuckOn (s : State) (a : Nat) : Bool :=
  (List.range 8).any (fun o => s.rd (K.SO_FAULT o) == 3 && s.inScope { cause := 2, ref := o, failed := [], second := true } a)

/-- The axis-level causes of STO present now, by their code of R451: NOT_COMMISSIONED, ISLAND_SAFETY_FAULT,
CONTAINER_LOSS, XCHK, SECOND_FAULT, and DEGRADED_EXPIRY of an axis in no group (R425, R431, R437, R438, R443). -/
def State.presentCauses (s : State) (a : Nat) : List Nat :=
  let c1 := if s.rd K.PASSWORD_STATE = 0 then [12] else []
  let c2 := match s.scOf a with
    | some (c, _) => if bit c.flags 0 then [11] else []
    | none => []
  let c3 := if ((axisPlace s.cf a).map (fun p => s.lh.lost.contains p.1)).getD false then [5] else []
  let c4 := if (s.lhAxis a).latched.contains 6 ∧ s.cfN (K.XCHK_CYCLES a) ≤ (s.lhAxis a).xrun then [6] else []
  let c5 := if s.lh.scopes.any (fun c => c.second && s.inScope c a) ∨ s.stuckOn a then [8] else []
  c1 ++ c2 ++ c3 ++ c4 ++ c5

/-- The limit of degraded mode has passed for the axis (R443). -/
def State.expired (s : State) (a : Nat) : Bool := s.rd K.DEGRADED_STATE == 2 && s.lh.scopes.any (fun c => s.inScope c a)

/-- The demand of the axis's groups (R432). -/
def State.groupDemand (s : State) (a : Nat) : Nat := (s.groupsOf a).foldl (fun m g => max m (s.rdN (K.GROUP_DEMAND g))) 0

/-- The demand on an axis (R432): of its groups, of axis-level causes, of the expiry, and of the degraded mode of its
feedback, whose stop is monitored as SS1-r (R228). -/
def State.demand (s : State) (a : Nat) : Nat :=
  let grouped : Bool := !(s.groupsOf a).isEmpty
  if (s.presentCauses a).isEmpty = false then SS.STO
  else
    let d := s.groupDemand a
    let e := if s.expired a then (if grouped then SS.SS1 else SS.STO) else 0
    let f := if s.degraded a ∧ grouped then SS.SS1 else 0
    max d (max e f)

/-- The cause of STO that a demand of STO gives (R451): INPUT where a group demands it. -/
def State.stoCauseOf (s : State) (a : Nat) : Nat :=
  if s.groupDemand a = SS.STO then 1
  else match s.presentCauses a with
    | c :: _ => c
    | [] => 7

/-! ### The axis safety state (R433 to R436) -/

/-- The Lighthouse releases the axis's brake (R436): while the firmware asks for it and the axis is in no STO; after STO
until SBC_DELAY has passed. -/
def State.brakeReleased (s : State) (a : Nat) : Bool :=
  if s.cf (K.SBC_ENABLE a) = 0 then (s.axis a).brakeReq
  else (((s.axis a).brakeReq && Nat.blt (s.safety a) SS.STO) || (s.lhAxis a).sbcHold) && s.lhState == LH.RUN

/-- A cause is latched. -/
def State.latchCause (s : State) (a c : Nat) : State :=
  s.updLhAxis a (fun x => { x with latched := if x.latched.contains c then x.latched else x.latched ++ [c] })

/-- The axis enters STO with a cause. -/
def State.enterSto (s : State) (a cause : Nat) : State :=
  let hold : Bool := s.brakeReleased a && s.cf (K.SBC_ENABLE a) != 0 && s.cf (K.SBC_DELAY a) != 0
  let s := (s.wrN (K.AXIS_SAFETY_STATE a) SS.STO).wrN (K.STO_CAUSE a) cause
  let s := s.updLhAxis a (fun x => { x with stoAt := s.clk.now, readback := false, sbcHold := hold, monitored := false })
  (s.updAxis a (fun x => { x with slsClamp := none })).stoAxis a

/-- STO is withdrawn. -/
def State.leaveSto (s : State) (a : Nat) : State :=
  let s := (s.wrN (K.AXIS_SAFETY_STATE a) SS.RUN).wrN (K.STO_CAUSE a) 0
  (s.updLhAxis a (fun x => { x with latched := [], readback := false, sbcHold := false })).stoWithdrawn a

/-- The group whose demand `d` started a function: the lowest, else the lowest that contains the axis (R433). -/
def State.leadGroup (s : State) (a d : Nat) : Nat :=
  match (s.groupsOf a).find? (fun g => s.rdN (K.GROUP_DEMAND g) == d) with
  | some g => g
  | none => ((s.groupsOf a).head?).getD 0

/-- The axis enters SS1 with the parameters of group `g` (R433, R246). -/
def State.enterSs1 (s : State) (a g : Nat) : State :=
  let s := s.wrN (K.AXIS_SAFETY_STATE a) SS.SS1
  let v0 := (s.safeSpeed a).natAbs
  let s := s.updLhAxis a (fun x => { x with
    since := s.clk.now, group := g, v0 := v0, monitored := false
    timed := s.cf (K.SS1_MODE g) == 1 && !s.degraded a })
  let s := s.updAxis a (fun x => { x with slsClamp := none })
  if axRuns (s.axState a) ∧ s.degraded a = false then s.stopAxis a (K.QUICK_STOP_DEC a) else s

/-- The axis enters SLS: SLS_ACTIVE, and the clamp starts from the present set-point (R433). -/
def State.enterSls (s : State) (a : Nat) : State :=
  let g := s.leadGroup a SS.SLS
  let s := s.wrN (K.AXIS_SAFETY_STATE a) SS.SLS
  let s := s.updLhAxis a (fun x => { x with since := s.clk.now, group := g, monitored := false })
  s.updAxis a (fun x => { x with slsClamp := some (maxR (turnsOf (s.cf (K.SLS_LIMIT g))) (absR x.mot.v)) })

/-- The clamp comes down to SLS_LIMIT at QUICK_STOP_DEC, 250 µs at a time. -/
def State.clampDown (s : State) (a : Nat) : State :=
  let l := turnsOf (s.cf (K.SLS_LIMIT (s.lhAxis a).group))
  let d := s.rdR (K.QUICK_STOP_DEC a) / 4000
  s.updAxis a (fun x => { x with slsClamp := x.slsClamp.map (fun c => maxR l (c - d)) })

/-- The envelope of SS1-r in R8 units (R434). -/
def State.envelope (s : State) (a : Nat) : Rat :=
  let x := s.lhAxis a
  let tau : Rat := ((s.clk.now - x.since : Nat) : Rat) / 1000000000
  let del : Rat := (s.cfN (K.SS1_DELAY x.group) : Rat) / 1000
  let top : Rat := (x.v0 : Rat) + (s.cf (K.SS1_TOLERANCE x.group) : Rat)
  if tau ≤ del then top else top - 65536 * real32 (s.cfN (K.SS1_DECEL x.group)) * (tau - del)

/-- A violation of SLS or SS1 (R433): the event, and STO with its cause latched. -/
def State.violation (s : State) (a cause : Nat) (event : Bool) : State :=
  let s := if event then s.raise12 Ev.SAFETY_VIOLATION a cause else s
  (s.latchCause a cause).enterSto a cause

/-- The safe speed in SLS (R433, R437). -/
def State.slsWatch (s : State) (a : Nat) : State :=
  let x := s.lhAxis a
  if s.safeValid a = false then s.violation a 3 false
  else if x.monitored ∧ s.cf (K.SLS_LIMIT x.group) < (s.safeSpeed a).natAbs then
    if s.cf (K.SLS_REACTION x.group) = 1 then (s.raise12 Ev.SAFETY_VIOLATION a 3).enterSs1 a x.group
    else s.violation a 3 true
  else s.clampDown a

/-- The safe speed in SS1 (R433, R434, R437): SS1-t ends with its timer. -/
def State.ss1Watch (s : State) (a : Nat) : State :=
  let x := s.lhAxis a
  let v := (s.safeSpeed a).natAbs
  let still := s.cf (K.SS1_STANDSTILL x.group)
  if x.timed then s
  else if s.safeValid a = false then s.violation a 4 false
  else if (v : Int) ≤ still ∨ s.envelope a ≤ still then s.enterSto a 2
  else if s.envelope a < v then s.violation a 4 true
  else s

/-- One axis in a Lighthouse cycle (R433). -/
def State.lhAxisCycle (s : State) (a : Nat) : State :=
  let s := if s.scOf a |>.isSome then s.wr (K.SAFE_SPEED_R8 a) (satS 32 (s.safeSpeed a)) else s
  let s := foldS (fun s c => s.latchCause a c) s (s.presentCauses a)
  let s := if s.expired a then s.latchCause a 7 else s
  let d := s.demand a
  let st := s.safety a
  if st = SS.STO then
    if d ≠ 0 then s
    else if (s.groupsOf a).all (fun g => s.cf (K.RESTART_MODE g) == 0) ∧ (s.lhAxis a).latched = [] then s.leaveSto a
    else s.wrN (K.AXIS_SAFETY_STATE a) SS.LOCKED
  else if st = SS.LOCKED then
    if d = 0 then s
    else (s.wrN (K.AXIS_SAFETY_STATE a) SS.STO).wrN (K.STO_CAUSE a) (if d = SS.STO then s.stoCauseOf a else s.rdN (K.STO_CAUSE a))
  else if d = SS.STO then s.enterSto a (s.stoCauseOf a)
  else if st = SS.SS1 then s.ss1Watch a
  else if d = SS.SS1 then s.enterSs1 a (s.leadGroup a SS.SS1)
  else if st = SS.SLS then
    if d = 0 then (s.wrN (K.AXIS_SAFETY_STATE a) SS.RUN).updAxis a (fun x => { x with slsClamp := none })
    else s.slsWatch a
  else if d = SS.SLS then s.enterSls a
  else s

/-- A reset of one axis (R435): in STO_LOCKED with no demand. -/
def State.resetAxis (s : State) (a : Nat) : State :=
  if s.safety a = SS.LOCKED ∧ s.demand a = 0 then s.leaveSto a else s

/-! ### Safe outputs (R430, R431) -/

/-- The pair is to be energised. -/
def State.soWanted (s : State) (o : Nat) : Bool :=
  let r := s.cfN (K.SO_REF o)
  s.lhState == LH.RUN && match s.cfN (K.SO_SOURCE o) with
    | 1 => (List.range 128).all (fun a => !inGroup s.cf r a || Nat.blt (s.safety a) SS.STO)
    | 2 => s.brakeReleased r
    | _ => false

/-- SO_STATE as the pairs stand. -/
def State.soUpdate (s : State) : State :=
  foldS (fun s o => s.wrN (K.SO_STATE o) (if s.rd (K.SO_FAULT o) = 3 then 2 else b2n (s.soWanted o))) s (List.range 8)

/-- SO_TEST_PULSE (R431) on the high-side (`low` false) or low-side switch: `result` 0 it read back off and turned on
again, 1 it did not read back off, 2 it failed to turn on, 3 the output reads on with both switches off. -/
def execSoTestPulse (output : Fin 8) (low : Bool) (result : Fin 4) (t : Nat) (s : State) : Res :=
  let o := output.val
  let s := s.at t
  if s.lhState ≠ LH.RUN ∨ s.cf (K.SO_SOURCE o) = 0 then done s
  else if result.val = 3 then
    if s.rd (K.SO_FAULT o) = 3 then done s
    else
      let s := (s.wr (K.SO_FAULT o) 3).raise12 Ev.SO_FAULT o 3
      let s := foldS (fun s a => if s.inScope { cause := 2, ref := o, failed := [], second := true } a then
          (s.latchCause a 8).enterSto a 8 else s) s ((List.range 128).filter (fun a => Nat.blt (s.safety a) SS.STO))
      done s.soUpdate
  else if s.cf (K.SO_TEST_PULSE o) = 0 ∨ s.rd (K.SO_STATE o) ≠ 1 then done s
  else if result.val = 0 then
    done (s.updSo o (fun x => if low then { x with passLow := x.passLow + 1 } else { x with passHigh := x.passHigh + 1 }))
  else
    let s := s.updSo o (fun x => if low then { x with passLow := 0 } else { x with passHigh := 0 })
    if s.lh.scopes.any (fun c => c.cause == 2 && c.ref == o && c.failed.contains (b2n low)) then done s
    else
      let code : Nat := if low then 2 else 1
      let s := if s.rd (K.SO_FAULT o) = 0 then s.wrN (K.SO_FAULT o) code else s
      done (((s.raise12 Ev.SO_FAULT o code).startRide Ev.SO_FAULT).degradeAdd 2 o (b2n low))

/-! ### Lighthouse states and the Lighthouse cycle (R424, R425) -/

/-- Every axis enters a safety state with a cause. -/
def State.allAxes (s : State) (st cause : Nat) : State :=
  foldS (fun s a => (((s.wrN (K.AXIS_SAFETY_STATE a) st).wrN (K.STO_CAUSE a) cause).updAxis a
    (fun x => { x with slsClamp := none })).stoAxis a) s (List.range 128)

/-- STARTUP ends when the self-test has passed and one SI_FILTER has elapsed on every enabled input (R425); the demands of
the groups stand from then on. -/
def State.lhTryRun (s : State) : State :=
  let ready := (List.range 16).all (fun k => s.cf (K.SI_MODE k) == 0 || s.elapsed s.lh.startedAt (100000 * s.cfN (K.SI_FILTER k)))
  if s.lhState = LH.STARTUP ∧ s.lh.tested ∧ ready then
    foldS State.groupUpdate (((s.wrN K.LH_STATE LH.RUN).allAxes SS.LOCKED 10).updLh (fun l => { l with runAt := s.clk.now }))
      (List.range 8)
  else s

/-- LH powers up (R425). -/
def State.lhStart (s : State) : State :=
  let s := (s.wrN K.LH_STATE LH.STARTUP).updLh (fun l => { l with
    startedAt := s.clk.now, tested := false, si := [], so := [], axes := [], lost := [], scopes := [] })
  let s := (((s.wr K.LH_FAULT_CAUSE 0).wr K.DEGRADED_STATE 0).wr K.DEGRADED_CAUSE 0).wr K.DEGRADED_REF 0
  let s := foldS (fun s k => (s.wr (K.SI_FAULT k) 0).wr (K.SI_RAW k) 0) s (List.range 16)
  let s := foldS State.siShow s (List.range 16)
  let s := foldS (fun s o => (s.wr (K.SO_FAULT o) 0).wr (K.GROUP_DEMAND o) 0) s (List.range 8)
  (s.allAxes SS.LOCKED 10).soUpdate

/-- LH leaves power (R425, R475): safe outputs off, every container STO_ALL; demands and degraded mode are lost. -/
def State.lhOff (s : State) : State :=
  if s.lhState = LH.OFF then s
  else
    let s := s.zero ([K.DEGRADED_STATE, K.DEGRADED_CAUSE, K.DEGRADED_REF] ++ (List.range 8).map (fun g => K.GROUP_DEMAND g))
    (((s.wrN K.LH_STATE LH.OFF).updLh (fun l => { l with scopes := [] })).allAxes SS.LOCKED 10).soUpdate

/-- LH_POWERED. -/
def execLhPowered (t : Nat) (s : State) : Res :=
  let s := s.at t
  if s.lhState = LH.OFF ∧ s.domainOn Dom.LH then done s.lhStart else done s

/-- A Lighthouse fault (R425): outputs de-energised, STO_ALL everywhere. -/
def State.lhFault (s : State) (cause : Nat) : State :=
  let s := (s.wrN K.LH_STATE LH.SAFE_FAULT).wrN K.LH_FAULT_CAUSE cause
  ((s.allAxes SS.STO 9).soUpdate).raiseU Ev.LH_FAULT none (some cause) noWho

/-- LH_SELF_TEST_COMPLETE (R425). -/
def execLhSelfTestComplete (pass : Bool) (t : Nat) (s : State) : Res :=
  let s := s.at t
  if s.lhState ≠ LH.STARTUP then done s
  else if pass then done (s.updLh (fun l => { l with tested := true })).lhTryRun
  else done (s.lhFault 4)

/-- LH_FAULT (R422, R424, R425): 1 the lockstep comparator, 2 the comparator of complemented copies, 3 the clock. -/
def execLhFault (cause : Fin 4) (t : Nat) (s : State) : Res :=
  let s := s.at t
  if s.lhState = LH.RUN ∧ cause.val ≠ 0 then done (s.lhFault cause.val) else done s

/-- The keys and lengths of the safety parameters, ascending (R446). -/
def safetyKeys : List (Nat × Nat) :=
  let block (base n : Nat) (l : List (Nat × Nat)) : List (Nat × Nat) :=
    (List.range n).flatMap (fun i => l.map (fun e => (odKey (base + i) e.1, e.2)))
  [(K.DEGRADED_TIME, 4), (K.SC_LOSS_TIME, 2), (K.XCHK_MISS_MAX, 2)]
    ++ block 0x6010 16 [(1, 1), (2, 1), (3, 2), (4, 1), (5, 1), (6, 1)]
    ++ block 0x6040 8 [(1, 4), (2, 4), (3, 4), (4, 4), (5, 1), (6, 2), (7, 2), (8, 4), (9, 4), (10, 4), (11, 4), (12, 2), (13, 1), (14, 1)]
    ++ block 0x6050 8 [(1, 1), (2, 1), (3, 1), (4, 2)]
    ++ block 0x6100 128 [(1, 1), (2, 2), (3, 4), (4, 2)]

/-- The signature of a set of safety parameters (R447). -/
def safetySig (g : Nat → Int) : Nat := crc32c (safetyKeys.flatMap (fun e => leInt e.2 (g e.1)))

/-- The entry is a safety parameter (R446). -/
def isSafety (k : Nat) : Bool :=
  decide (0x6000 ≤ k / 256 ∧ k / 256 < 0x6400) && (match odRow k with
    | some r => r.cls == .safety
    | none => false)

/-- SAFETY_PENDING (R446). -/
def State.safetyPending (s : State) : Bool := s.od.filter (fun e => isSafety e.1) != s.act.filter (fun e => isSafety e.1)

/-- Every configured axis is in STO or STO_LOCKED and every safe output is off (R447). -/
def State.safetyQuiet (s : State) : Bool :=
  (axesOn s.cf).all (fun a => Nat.ble SS.STO (s.safety a)) && (List.range 8).all (fun o => s.rd (K.SO_STATE o) == 0)

/-- An acknowledged set becomes active (R447). -/
def State.lhActivate (s : State) : State :=
  match s.lh.activate with
  | none => s
  | some (m, w) =>
    let old := safetySig s.cf
    let s := { s with act := replacePart isSafety s.act m }.updLh (fun l => { l with activate := none })
    let s := ((s.allAxes SS.LOCKED 10).bump K.ACTIVATIONS)
    s.raiseX Ev.SAFETY_PARAM_CHANGE old (safetySig s.cf) (whoExtra w)

/-- LIGHTHOUSE_CYCLE (R424). -/
def execLighthouseCycle (t : Nat) (s : State) : Res :=
  let s := s.at t
  if s.lhState = LH.STARTUP then done s.lhActivate.lhTryRun
  else if s.lhState = LH.RUN then
    let s := s.lhActivate
    let s := s.updLh (fun l => { l with lost := l.lost.filter s.scLost })
    let s := foldS State.siClear s (List.range 16)
    let s := foldS State.groupUpdate s (List.range 8)
    done (foldS State.lhAxisCycle s (List.range 128)).soUpdate
  else done s

/-! ### Timers of the axis states -/

/-- SLS_RAMP_EXPIRY (R433): monitoring against SLS_LIMIT begins. -/
def execSlsRampExpiry (axis : Fin 128) (t : Nat) (s : State) : Res :=
  let a := axis.val
  let s := s.at t
  let x := s.lhAxis a
  if s.lhState = LH.RUN ∧ s.safety a = SS.SLS ∧ s.elapsed x.since (1000000 * s.cfN (K.SLS_RAMP_TIME x.group)) then
    done (s.updLhAxis a (fun x => { x with monitored := true }))
  else done s

/-- SS1_TIMEOUT (R433): SS1-t ends. -/
def execSs1Timeout (axis : Fin 128) (t : Nat) (s : State) : Res :=
  let a := axis.val
  let s := s.at t
  let x := s.lhAxis a
  if s.lhState = LH.RUN ∧ s.safety a = SS.SS1 ∧ x.timed ∧ s.elapsed x.since (1000000 * s.cfN (K.SS1_TIME x.group)) then
    done (s.enterSto a 2).soUpdate
  else done s

/-- SC_LOSS_TIMEOUT (R437). -/
def execScLossTimeout (island : Fin 24) (t : Nat) (s : State) : Res :=
  let n := island.val
  let s := s.at t
  if s.lhState = LH.RUN ∧ s.scLost n ∧ s.lh.lost.contains n = false ∧ (s.axesOf n).isEmpty = false then
    let s := s.updLh (fun l => { l with lost := l.lost ++ [n] })
    done (foldS (fun s a => (s.latchCause a 5).raise12 Ev.SAFE_COMM_LOSS a 5) s (s.axesOf n))
  else done s

/-- The cross-check of one axis for a cycle that ends (R438): `ran` says whether the axis was computed in it. -/
def State.lhCompareAxis (s : State) (a : Nat) (ran : Bool) : State :=
  let got : Bool := ((axisPlace s.cf a).map (fun p => (s.island p.1).scDone)).getD false
  let s := if ran then s.updLhAxis a (fun x => { x with xmiss := 0 })
    else if s.power = 2 ∧ s.safety a < SS.STO then s.updLhAxis a (fun x => { x with xmiss := x.xmiss + 1 })
    else s
  if ran ∧ got then
    let d := s.safeSpeed a - s.rd (K.SPEED_EST a)
    let bad : Bool := decide (s.cf (K.XCHK_TOL a) < d.natAbs)
    (s.wr (K.XCHK_DEVIATION a) (satS 32 d)).updLhAxis a (fun x => { x with xrun := if bad then x.xrun + 1 else 0 })
  else s

/-- The cross-check of every axis, as a network cycle ends. -/
def State.lhCompare (s : State) : State :=
  if s.lhState ≠ LH.RUN then s
  else foldS (fun s a => s.lhCompareAxis a ((s.axis a).ranAt == s.clk.tick + 1)) s (axesOn s.cf)

/-- XCHK_MISMATCH (R438). -/
def execXchkMismatch (axis : Fin 128) (s : State) : Res :=
  let a := axis.val
  let x := s.lhAxis a
  if s.lhState = LH.RUN ∧ s.cfN (K.XCHK_CYCLES a) ≤ x.xrun ∧ x.latched.contains 6 = false then
    done ((s.latchCause a 6).raise12 Ev.XCHK_MISMATCH a 6)
  else done s

/-- XCHK_MISSING (R438). -/
def execXchkMissing (axis : Fin 128) (s : State) : Res :=
  let a := axis.val
  if s.lhState = LH.RUN ∧ s.cfN K.XCHK_MISS_MAX < (s.lhAxis a).xmiss then done (s.degradeAdd 4 a 0) else done s

/-- CHANNEL_LOST (R81, R442): the run of misses of a port reached CHANNEL_LOSS_CYCLES. -/
def execChannelLost (port : Fin 48) (s : State) : Res :=
  let p := port.val
  if (s.port p).lost = false ∧ s.rdN K.CHANNEL_LOSS_CYCLES ≤ (s.port p).missRun ∧ 0 < (s.port p).missRun then
    let s := (s.updPort p (fun x => { x with lost := true })).raise Ev.CHANNEL_LOST (portIsland p) (portChannel p)
    let s := if (s.port p).linkUp then s.startRide Ev.CHANNEL_LOST else s
    if s.lhState = LH.RUN then done (s.degradeAdd 3 (portIsland p) (portChannel p)) else done s
  else done s

/-- SBC_DELAY_EXPIRY (R436): the brake release is withdrawn SBC_DELAY after the STO. -/
def execSbcDelayExpiry (axis : Fin 128) (t : Nat) (s : State) : Res :=
  let a := axis.val
  let s := s.at t
  let x := s.lhAxis a
  if x.sbcHold ∧ s.elapsed x.stoAt (1000000 * s.cfN (K.SBC_DELAY a)) then
    done (s.updLhAxis a (fun x => { x with sbcHold := false })).soUpdate
  else done s

/-- STO_READBACK_FAIL (R439). -/
def execStoReadbackFail (axis : Fin 128) (t : Nat) (s : State) : Res :=
  let a := axis.val
  let s := s.at t
  let x := s.lhAxis a
  match s.scOf a with
  | some (c, j) =>
    if s.lhState = LH.RUN ∧ SS.STO ≤ s.safety a ∧ x.readback = false ∧ bit c.axes j = false ∧
        s.elapsed (max x.stoAt s.lh.startedAt) 10000000 then
      done ((s.updLhAxis a (fun x => { x with readback := true })).raise12 Ev.STO_READBACK_FAIL a (s.rdN (K.STO_CAUSE a)))
    else done s
  | none => done s

/-! ### Resets and degraded mode -/

/-- A reset of every axis (R435). -/
def safetyReset (s : State) : WRes :=
  if s.lhState = LH.RUN then .ok (foldS State.resetAxis s (List.range 128)).soUpdate else .ok s

/-- SAFETY_RESET. -/
def execSafetyReset (s : State) : Res := answered (safetyReset s)

/-- SAFETY_RESET_PRESS (R429): a RESET input acts on the axes of its groups. -/
def execSafetyResetPress (input : Fin 16) (s : State) : Res :=
  let k := input.val
  if s.lhState = LH.RUN ∧ (s.si k).press then
    let s := s.updSi k (fun x => { x with press := false })
    let hit (a : Nat) : Bool := (s.groupsOf a).any (fun g => bit (s.cfN (K.SI_GROUPS k)) g)
    done (foldS State.resetAxis s ((List.range 128).filter hit)).soUpdate
  else done s

/-- DEGRADED_TIME_EXPIRY (R443). -/
def execDegradedTimeExpiry (t : Nat) (s : State) : Res :=
  let s := s.at t
  if s.rd K.DEGRADED_STATE = 1 ∧ s.elapsed s.lh.degradedAt (1000000000 * s.cfN K.DEGRADED_TIME) then
    done ((s.wr K.DEGRADED_STATE 2).raise12 Ev.SAFETY_DEGRADED_END (s.rdN K.DEGRADED_REF) (s.rdN K.DEGRADED_CAUSE))
  else done s

/-- The cause of a scope has gone (R443): its channels passed two test pulses, its channel was restored, or estimates are
present. -/
def State.scopeGone (s : State) (c : Scope) : Bool :=
  match c.cause with
  | 1 => c.failed.all (fun h => Nat.ble 2 (if h = 0 then (s.si c.ref).passA else (s.si c.ref).passB))
  | 2 => c.failed.all (fun h => Nat.ble 2 (if h = 0 then (s.so c.ref).passHigh else (s.so c.ref).passLow))
  | 3 => c.failed.all (fun h => !(s.port (c.ref + 24 * h)).lost)
  | _ => (s.lhAxis c.ref).xmiss == 0

/-- The element of a cleared scope is whole again. -/
def State.scopeClear (s : State) (c : Scope) : State :=
  match c.cause with
  | 1 => (s.updSi c.ref (fun x => { x with faultA := false, faultB := false, stayA := 0, stayB := 0 })).siEdge c.ref
  | 2 => if s.rd (K.SO_FAULT c.ref) = 3 then s else s.wr (K.SO_FAULT c.ref) 0
  | _ => s

/-- SAFETY_ACK := 1 (R443). -/
def safetyAck (s : State) : WRes :=
  if s.rd K.DEGRADED_STATE = 0 ∨ s.lh.scopes.all s.scopeGone = false then .ok s
  else
    let l := s.lh.scopes
    let s := s.raise12 Ev.SAFETY_DEGRADED_END (s.rdN K.DEGRADED_REF) (s.rdN K.DEGRADED_CAUSE)
    let s := foldS State.scopeClear (s.updLh (fun l => { l with scopes := [] })) l
    .ok (((s.wr K.DEGRADED_STATE 0).wr K.DEGRADED_CAUSE 0).wr K.DEGRADED_REF 0)

/-- SAFETY_ACK. -/
def execSafetyAck (s : State) : Res := answered (safetyAck s)

/-- DEGRADED_REMAIN, s (R451). -/
def State.degradedRemain (s : State) : Nat :=
  if s.rd K.DEGRADED_STATE = 1 then (s.lh.degradedAt + 1000000000 * s.cfN K.DEGRADED_TIME - s.clk.now) / 1000000000 else 0

/-! ### Two heads (R445) -/

/-- SAFETY_SIG_COMPARE: the other head's active signature. -/
def execSafetySigCompare (peer : BitVec 32) (s : State) : Res :=
  if s.dual.on ∧ s.straitUp then
    let s := s.wrN K.PEER_SIG peer.toNat
    if peer.toNat = safetySig s.cf then done s else done (s.raiseU Ev.SAFETY_SIG_MISMATCH none none noWho)
  else done s

/-! ### Signature and password (R446 to R449) -/

/-- PASSWORD_STATE is LOCKED_OUT. -/
def State.lockedOut (s : State) : Bool := s.rd K.PASSWORD_STATE == 2

/-- A write that carries a password during the lockout is answered PASSWORD (R448). -/
def State.lockBar (s : State) (w : Who) : Bool := s.lockedOut && w.pw.isSome

/-- The check of the Safety Officer password (R448): the fifth wrong one within 60 s locks it for 300 s. -/
def State.passCheck (s : State) (w : Who) : State × Bool :=
  match s.lh.password, w.pw with
  | some p, some q =>
    if s.lockedOut then (s, false)
    else if p = q then (s, true)
    else
      let now := s.clk.now
      let l := s.lh.wrong.filter (fun t => Nat.blt now (t + 60000000000)) ++ [now]
      let s := s.raiseU Ev.SAFETY_PASSWORD_FAIL none none (whoExtra w)
      if 5 ≤ l.length then
        ((s.wr K.PASSWORD_STATE 2).updLh (fun x => { x with wrong := [], lockUntil := now + 300000000000 }), false)
      else (s.updLh (fun x => { x with wrong := l }), false)
  | _, _ => (s, false)

/-- A password's form (R448). -/
def passwordOk (b : Bytes) : Bool :=
  Nat.ble 8 b.length && Nat.ble b.length 32 && b.all (fun c => Nat.ble 0x20 c.toNat && Nat.ble c.toNat 0x7E)

/-- The write of PASSWORD_NEW (R448). -/
def passwordNew (w : Who) (new : Bytes) (s : State) : WRes :=
  let set (s : State) : WRes :=
    if 32 < new.length then (s, .length)
    else if passwordOk new = false then (s, .range)
    else .ok (((s.wr K.PASSWORD_STATE 1).updLh (fun l => { l with password := some new })).raiseU Ev.PASSWORD_CHANGE none none (whoExtra w))
  if s.rd K.PASSWORD_STATE = 0 then (if w.role.val < 4 then (s, .role) else set s)
  else if w.role.val < 3 then (s, .role)
  else match s.passCheck w with
    | (s, false) => (s, .password)
    | (s, true) => set s

/-- PASSWORD_NEW. -/
def execPasswordNew (w : Who) (new : Bytes) (t : Nat) (s : State) : Res := answered (passwordNew w new (s.at t))

/-- PASSWORD_LOCKOUT_END (R448). -/
def execPasswordLockoutEnd (t : Nat) (s : State) : Res :=
  let s := s.at t
  if s.lockedOut ∧ s.lh.lockUntil ≤ s.clk.now then done (s.wr K.PASSWORD_STATE 1) else done s

/-- The write of SAFETY_SIG_ACK (R447). -/
def safetySigAck (w : Who) (v : Nat) (s : State) : WRes :=
  if w.role.val < 3 then (s, .role)
  else if s.lockBar w then (s, .password)
  else if v = safetySig s.pend ∧ s.safetyQuiet then
    .ok (s.updLh (fun l => { l with activate := some (s.od.filter (fun e => isSafety e.1), { w with pw := none }) }))
  else (s, .refused)

/-- SAFETY_SIG_ACK. -/
def execSafetySigAck (w : Who) (v : BitVec 32) (t : Nat) (s : State) : Res := answered (safetySigAck w v.toNat (s.at t))

/-- The write of SAFETY_DISCARD (R447). -/
def safetyDiscard (w : Who) (s : State) : WRes :=
  if w.role.val < 3 then (s, .role)
  else if s.lockBar w then (s, .password)
  else .ok { s with od := replacePart isSafety s.od s.act }

/-- SAFETY_DISCARD. -/
def execSafetyDiscard (w : Who) (s : State) : Res := answered (safetyDiscard w s)

/-- The write of SAFETY_CLEAR (R449). -/
def safetyClear (w : Who) (key : Nat) (s : State) : WRes :=
  if w.role.val < 4 then (s, .role)
  else if s.lockBar w then (s, .password)
  else if key ≠ 0x5346_434C then (s, .range)
  else if s.safetyQuiet = false then (s, .refused)
  else
    let old := safetySig s.cf
    let s := { s with od := replacePart isSafety s.od [], act := replacePart isSafety s.act [] }
    let s := (s.wr K.PASSWORD_STATE 0).updLh (fun l => { l with activate := none, password := none, wrong := [] })
    .ok (s.raiseX Ev.SAFETY_PARAM_CHANGE old (safetySig s.cf) (whoExtra w))

/-- SAFETY_CLEAR. -/
def execSafetyClear (w : Who) (key : BitVec 32) (t : Nat) (s : State) : Res := answered (safetyClear w key.toNat (s.at t))

/-! ### The containers sent (R23, R424, R433) -/

/-- SC_AXES to an island. -/
def State.scAxes (s : State) (n : Nat) : Nat :=
  ((List.range (islandAxes s.cf n)).map (fun j => match axisAt s.cf n j with
    | some a => if s.lhState ≠ LH.RUN ∨ SS.STO ≤ s.safety a then 2 ^ j else 0
    | none => 0)).sum

/-- STO_ALL to an island. -/
def State.scAll (s : State) (n : Nat) : Bool := s.lhState != LH.RUN || s.scAxes n == 2 ^ islandAxes s.cf n - 1

/-- SAFE_WORD of an axis (R104). -/
def State.safeWord (s : State) (a : Nat) : Nat := b2n (s.brakeReleased a) + 2 * b2n (s.safety a == SS.SLS)

end Sys2Proof.Machine
end

