-- ==== Sys2Proof/Machine/Egress.lean ====
section
/-! DEFINITION. Network/Egress: how axis records are settled (R150), COMMAND frames (R23, R24, R104, R106, R527), relay
frames (R46), and the dynamic frames of the head (R41 to R43, R112, R113, R124). -/

namespace Sys2Proof.Machine

open Sys2Proof

/-! ### Settling the records (R150) -/

/-- What a record that is not HOLD leaves behind: the vector sent and its weight (R219), and the delay (R207). -/
def Axis.sendAs (x : Axis) (u v w : Int) (vec : Rat × Rat) (applyAt : Nat) (weight : Rat) (hist : Bool) : Axis :=
  { x with
    sentU := u, sentV := v, sentW := w, vSentPrev := x.vSent, vSent := vec, applyAt := applyAt, wSent := weight
    delayHist := if hist then keep65536 (applyAt :: x.delayHist) else x.delayHist }

/-- A deadline is missed (R150): with LATE_APPLY (`late`) or HOLD. -/
def State.missDeadline (s : State) (a : Nat) (late : Bool) : State :=
  let s := ((s.bump (K.AXIS_DEADLINE_MISSES a)).bump K.DEADLINE_MISSES_TOTAL).perf (if late then 6 else 7) a 1
  let s := if late then (if s.rd (K.RA_ENABLE a) = 1 then s.bump (K.LATE_APPLIES a) else s)
    else (s.bump (K.AXIS_HOLDS a)).bump K.HOLDS_TOTAL
  s.interrupt a (if late then 2 else 1) s.clk.cyc

/-- The record goes out with APPLY_AT of R106. -/
def State.settleOnTime (s : State) (a : Nat) : State :=
  let ap := s.axisApply a
  let ra : Bool := s.rd (K.RA_ENABLE a) == 1
  s.updAxis a (fun x => { (x.sendAs x.dutyU x.dutyV x.dutyW x.vNew ap ((ap : Rat) / (s.ct : Rat)) ra) with
    settled := .onTime, interrupted := false, interruptRun := 0 })

/-- The record goes out with LATE_APPLY. -/
def State.settleLate (s : State) (a : Nat) : State :=
  let ra : Bool := s.rd (K.RA_ENABLE a) == 1
  (s.updAxis a (fun x => { (x.sendAs x.lateU x.lateV x.lateW x.vLate s.ct 1 ra) with settled := .late })).missDeadline a true

/-- The record carries HOLD and repeats the duties last sent (R106). -/
def State.settleHold (s : State) (a : Nat) : State :=
  (s.updAxis a (fun x => { x with settled := .hold, vSentPrev := x.vSent, applyAt := s.axisApply a })).missDeadline a false

/-- The records of an island are settled in this cycle (R23, R24). -/
def State.settles (s : State) (n : Nat) : Bool := s.integrated n && s.netState == N.OPERATE && s.power == 2

/-- One record at its fill instant (R150). -/
def State.fill (s : State) (a : Nat) : State :=
  let x := s.axis a
  if x.settled ≠ .open_ then s
  else if x.committed ∧ x.cancelled = false then s.settleLate a
  else s.settleHold a

/-- ASSEMBLY_INSTANT (R150): results committed by now go out with APPLY_AT. -/
def execAssemblyInstant (island : Fin 24) (s : State) : Res :=
  let n := island.val
  if s.settles n then
    done (foldS (fun s a => if (s.axis a).committed ∧ (s.axis a).cancelled = false ∧ (s.axis a).settled = .open_ then
      s.settleOnTime a else s) s (s.axesOf n))
  else done s

/-- FILL_INSTANT (R150). -/
def execFillInstant (island : Fin 24) (localAxis : Fin 16) (s : State) : Res :=
  match axisAt s.cf island.val localAxis.val with
  | some a => if s.settles island.val ∧ axisOn s.cf a then done (s.fill a) else done s
  | none => done s

/-! ### COMMAND -/

/-- CUR_TRIP (R527). -/
def State.curTrip (s : State) (a : Nat) : Nat :=
  let x := roundHalfUp (5 / 4 * s.rdR (K.I_MAX a) / real32 (s.cfN (K.CURRENT_SCALE a)))
  (clampI 0 0xFFFF x).toNat

/-- The record of an axis (R104): computed in power state RUN, of zero voltage in CONFIG (R24). -/
def State.cmdRec (s : State) (a : Nat) : CmdRec :=
  let x := s.axis a
  let two := twoBridge s.cf a
  let z := zeroDuty two
  if s.power = 2 ∧ axisOn s.cf a then
    { dutyU := x.sentU, dutyV := x.sentV, dutyW := x.sentW, applyAt := x.applyAt, pwm := x.pwm
      late := x.settled == .late, hold := x.settled == .hold, twoBridge := two, curTrip := s.curTrip a
      safeWord := s.safeWord a }
  else
    { dutyU := z.1, dutyV := z.2.1, dutyW := z.2.2, applyAt := s.axisApply a, pwm := false, late := false, hold := false
      twoBridge := two, curTrip := s.curTrip a, safeWord := s.safeWord a }

/-- The records of an island in order of their local axes. -/
def State.cmdRecs (s : State) (n : Nat) : List CmdRec :=
  (List.range (islandAxes s.cf n)).filterMap (fun j => (axisAt s.cf n j).map s.cmdRec)

/-- The FAST outputs of a frame, latched at the start of the next cycle (R107, R113, R301). -/
def State.fastOut (s : State) (n : Nat) : Bytes :=
  let base := s.cfN (K.FIRST_POINT n)
  packPoints (fun r => r.cls == 0 && r.output) (localPoints 0 (pointRuns s.cf n))
    (fun j => s.outAt (base + j) (s.netStart + s.ct : Nat))

/-- A COMMAND frame for one channel (R104). -/
def State.commandBytes (s : State) (n channel toPoint toAt : Nat) : Bytes :=
  let i := s.island n
  let flags := 2 * b2n s.dual.standby + 8 * b2n i.rateAdj.isSome
  let recs := s.cmdRecs n
  let scFlags := b2n (s.scAll n) + 2 * b2n (s.dual.on && s.dhRole == 2)
  (s.header 4 n channel flags 0xFFFF (i.sampleSeq.getD 0)).bytes
    ++ scDown n s.cycle s.net.scSeq scFlags (s.scAxes n) (recs.map (·.safeWord))
    ++ leInt 4 (i.corr + s.net.extStep) ++ leInt 2 (i.rateAdj.getD 0) ++ leBytes 2 toPoint ++ leBytes 4 toAt
    ++ recs.flatMap CmdRec.bytes ++ s.fastOut n

/-- The open ports of an island. -/
def State.openPorts (s : State) (n : Nat) : List Nat := [n, 24 + n].filter s.portOpen

/-- In CONFIG the duties last sent are those of zero voltage (R24). -/
def State.zeroSent (s : State) (n : Nat) : State :=
  if s.power = 2 then s
  else foldS (fun s a =>
    let z := zeroDuty (twoBridge s.cf a)
    s.updAxis a (fun x => { x with sentU := z.1, sentV := z.2.1, sentW := z.2.2, vSent := (0, 0), vSentPrev := (0, 0) })) s (s.axesOf n)

/-- COMMAND_SEND (R23): in downstream slot 1 of an integrated island; the frame starts `late` ns after the action
point. Records not settled yet are settled as their fill instants have it. -/
def execCommandSend (island : Fin 24) (late : Nat) (s : State) : Res :=
  let n := island.val
  if s.integrated n = false ∨ s.netState ≠ N.OPERATE ∨ s.power = 0 then done s
  else
    let c := s.sched
    let start := c.len + c.apDown + late
    let s := s.updClk (fun x => { x with quiet := false })
    let s := if s.settles n then foldS State.fill s (s.axesOf n) else s
    let s := (s.wrN (K.APPLY_AT n) (s.applyAt n)).zeroSent n
    let s := foldS (fun s p => s.updPort p (fun x => { x with t1 := none })) s (s.openPorts n)
    if 2 * c.len < start + wireNs (cyclicLen s.cf n true) then
      done (foldS State.headOverrun s (s.openPorts n))
    else
      let (s, toPoint, toAt) := s.timedFill n
      let s := foldS (fun s p =>
        (s.sendFrame p start (s.commandBytes n (portChannel p) toPoint toAt)).updPort p
          (fun x => { x with t1 := some ((start + sfdNs : Nat) : Rat) })) s (s.openPorts n)
      done ((s.perf 11 n (if toPoint < 16384 then 0 else 1)).updIsland n (fun i => { i with
        rateAdj := none
        toExpect := if toPoint < 16384 then i.toExpect else i.toExpect.map (fun e => (e + 1) % 256) }))

/-! ### Relay -/

/-- RELAY_SEND (R46): in the first downstream slot of role RELAY, a destination gets what came in earlier cycles. -/
def execRelaySend (island : Fin 24) (late : Nat) (s : State) : Res :=
  let n := island.val
  let q := SMap.get s.net.relays [] n
  let now := q.filter (fun r => Nat.blt r.tick s.clk.tick)
  match relaySlots s.cf n with
  | [] => done s
  | k :: _ =>
    if s.integrated n = false ∨ s.netState ≠ N.OPERATE ∨ now.isEmpty ∨ (s.island n).relaySent then done s
    else
      let c := s.sched
      let start := k * c.len + c.apDown + late
      let body := leBytes 1 now.length ++ [0, 0, 0] ++ now.flatMap (fun r => relayEntry r.src n r.rseq r.data)
      if (k + 1) * c.len < start + wireNs (12 + body.length) then done (foldS State.headOverrun s (s.openPorts n))
      else
        let s := foldS (fun s p => s.sendFrame p start ((s.header 7 n (portChannel p) 0 0xFFFF 0).bytes ++ body)) s
          (s.openPorts n)
        let s := s.updIsland n (fun i => { i with relaySent := true })
        done (s.updNet (fun x => { x with
          relays := SMap.put x.relays [] n (q.filter (fun r => !Nat.blt r.tick s.clk.tick)) }))

/-! ### POINTS downstream (R112, R113) -/

/-- The ON_CHANGE outputs of an island with their values by local number. -/
def State.ocValues (s : State) (n : Nat) : List (Nat × Int) :=
  let base := s.cfN (K.FIRST_POINT n)
  ((localPoints 0 (pointRuns s.cf n)).filter (fun e => e.2.cls == 3 && e.2.output)).map
    (fun e => (e.1, s.pointNow (base + e.1) true))

/-- At a cycle start the transfer that is due is taken from the image: MEDIUM and SLOW by their phase, ON_CHANGE points
when one of them changed and a frame goes out. -/
def State.pointsDue (s : State) (n : Nat) : State :=
  if s.integrated n = false then s
  else
    let i := s.island n
    let has (content : Nat) : Bool := pointsBytes s.cf n true content != 0
    let medium : Bool := has 1 && s.clk.cyc % 32 == s.cfN (K.PHASE_MEDIUM n)
    let slow : Bool := has 2 && s.clk.cyc % 1024 == s.cfN (K.PHASE_SLOW n)
    let oc := s.ocValues n
    let changed : Bool := has 4 && oc.any (fun e => SMap.get i.ocLast 0 e.1 != e.2)
    let take : Bool := medium || slow || (changed && i.pointsOut.isEmpty)
    if take = false then s
    else
      let content := b2n medium + 2 * b2n slow + 4 * b2n changed
      let base := s.cfN (K.FIRST_POINT n)
      let parts := partCount (pointsBytes s.cf n true content)
      let latch : Int := ((s.clk.cyc + parts) * s.ct : Nat)
      let data := packPoints (fun r => inContent content r.cls && r.output) (localPoints 0 (pointRuns s.cf n))
        (fun j => s.outAt (base + j) latch)
      let count := if changed then (i.ocOut + 1) % 65536 else i.ocOut
      let x : PointsXfer := { content := content, ocCount := count, sample := s.cycle, done := 0, data := data }
      let last : SMap Int := if changed then oc.foldl (fun (m : SMap Int) (e : Nat × Int) => SMap.put m 0 e.1 e.2) i.ocLast else i.ocLast
      s.setIsland n { i with pointsOut := i.pointsOut ++ [x], ocOut := count, ocLast := last }

/-- The next part of an island's transfer: SEQ and body; one part in a cycle. -/
def State.pointsNext (s : State) (n : Nat) : Option (Nat × Bytes) :=
  let i := s.island n
  if i.pointsSentAt = some s.clk.tick then none
  else match i.pointsOut with
    | [] => none
    | x :: _ =>
      some (x.done + 256 * partCount x.data.length,
        leBytes 1 x.content ++ [0] ++ leBytes 2 x.ocCount ++ leBytes 4 x.sample ++ slice x.data (1480 * x.done) (min 1480 (x.data.length - 1480 * x.done)))

/-- A part was sent. -/
def State.pointsSent (s : State) (n : Nat) : State :=
  s.updIsland n (fun i => match i.pointsOut with
    | [] => i
    | x :: r => { i with
        pointsSentAt := some s.clk.tick
        pointsOut := if x.done + 1 < partCount x.data.length then { x with done := x.done + 1 } :: r else r })

/-- POINTS_SEND (R36): in a downstream static slot `slot` of role POINTS whose mask names the island. -/
def execPointsSend (island : Fin 24) (slot : Fin 64) (late : Nat) (s : State) : Res :=
  let n := island.val
  let k := slot.val
  if s.integrated n = false ∨ s.netState ≠ N.OPERATE ∨ s.sched.slots ≤ k ∨ downRole s.cf k ≠ 3 ∨ slotMask s.cf k n = false then done s
  else match s.pointsNext n with
    | none => done s
    | some (seq, body) =>
      let c := s.sched
      let start := k * c.len + c.apDown + late
      if (k + 1) * c.len < start + wireNs (12 + body.length) then done (foldS State.headOverrun s (s.openPorts n))
      else
        let s := foldS (fun s p => s.sendFrame p start ((s.header 5 n (portChannel p) 0 0xFFFF seq).bytes ++ body)) s
          (s.openPorts n)
        done (s.pointsSent n)

/-! ### Dynamic frames (R41 to R43, R124) -/

/-- A frame the head has for a mini-slot: type, SEQ, flags, body. -/
structure DynFrame where
  ty : Nat
  seq : Nat
  flags : Nat
  body : Bytes
  deriving DecidableEq, Repr

/-- The next mailbox frame of an island: an ABORT, else the next segment of the oldest request that has one (R124,
R125). -/
def State.mailNext (s : State) (n : Nat) : Option DynFrame :=
  let i := s.island n
  match i.aborts with
  | (tag, gen) :: _ =>
    let m : MailFrame := { tag := tag, gen := gen, kind := 2, service := 0, status := 0, index := 0, sub := 0, len := 0, offset := 0, data := [] }
    some { ty := 6, seq := 0, flags := 0, body := m.bytes }
  | [] =>
    match i.mbx.find? (fun x => !x.finished) with
    | none => none
    | some x =>
      let seg := slice x.data x.sent (min 192 (x.data.length - x.sent))
      let m : MailFrame := { tag := x.tag, gen := x.gen, kind := 0, service := x.service, status := 0, index := x.index
                             sub := x.sub, len := seg.length, offset := x.sent, data := seg }
      some { ty := 6, seq := 0, flags := if x.sent + seg.length < x.data.length then 64 else 0, body := m.bytes }

/-- The first request that has a segment to send has sent it. -/
def mailAdvance : List Mbx → List Mbx
  | [] => []
  | x :: r =>
    if x.finished then x :: mailAdvance r
    else { x with sent := min x.data.length (x.sent + 192), finished := Nat.ble x.data.length (x.sent + 192) } :: r

/-- A mailbox frame was sent. -/
def State.mailSent (s : State) (n : Nat) : State :=
  s.updIsland n (fun i => match i.aborts with
    | _ :: r => { i with aborts := r }
    | [] => { i with mbx := mailAdvance i.mbx })

/-- The frame pending for an ID the head owns (R40). -/
def State.dynNext (s : State) (n id : Nat) : Option DynFrame :=
  match ownerService (owner s.cf id) with
  | 1 => s.mailNext n
  | 2 => (s.pointsNext n).map (fun e => { ty := 5, seq := e.1, flags := 0, body := e.2 })
  | _ => none

/-- One port's procedure of R42 up to and with an ID: the position it starts the frame at, where it fits. -/
def State.dynPort (s : State) (p id wire : Nat) : State × Option Nat :=
  let c := s.sched
  let ids := ownedIds s.cf (portIsland p) true
  let x := s.port p
  let before := ((ids.drop x.dnIdx).takeWhile (· < id)).length
  let pos := (if x.dnIdx = 0 then staticEnd s.cf else x.dnPos) + before * c.miniLen
  let m := margin s.cf p
  if decide (pos + c.apMini + wire + m ≤ dynEnd s.cf) then
    (s.updPort p (fun x => { x with dnPos := pos + occupancy c.apMini wire m c.miniLen, dnIdx := x.dnIdx + before + 1 }),
      some (pos + c.apMini))
  else (s.updPort p (fun x => { x with dnPos := pos + c.miniLen, dnIdx := x.dnIdx + before + 1 }), none)

/-- DYNAMIC_FRAME_SEND (R41, R42): the turn of mini-slot `id` of an island comes; its pending frame is sent on both
ports where it fits before dyn_end, `late` ns after its action point. -/
def execDynamicFrameSend (island : Fin 24) (id : Fin 1024) (late : Nat) (s : State) : Res :=
  let n := island.val
  let ids := ownedIds s.cf n true
  if s.integrated n = false ∨ s.netState ≠ N.OPERATE ∨ ids.contains id.val = false then done s
  else match s.dynNext n id.val with
    | none => done s
    | some f =>
      let wire := wireNs (12 + f.body.length)
      let turn (p : Nat) : Bool := decide ((s.port p).dnIdx ≤ (ids.filter (· < id.val)).length)
      let ports := (s.openPorts n).filter turn
      let run (acc : State × Bool) (p : Nat) : State × Bool :=
        match acc.1.dynPort p id.val wire with
        | (s, none) => (s, acc.2)
        | (s, some start) =>
          if dynEnd s.cf < start + late + wire then (s.headOverrun p, true)
          else (s.sendFrame p (start + late) ((s.header f.ty n (portChannel p) f.flags id.val f.seq).bytes ++ f.body), true)
      let r := ports.foldl run (s, false)
      if r.2 then done (if f.ty = 5 then r.1.pointsSent n else r.1.mailSent n) else done r.1

end Sys2Proof.Machine
end

