-- ==== Sys2Proof/Machine/FilterOps.lean ====
section
/-! DEFINITION. Filter programs as the host and the skerries handle them (R306 to R321): loading and unloading, an
invocation, and the meaning of each filter-class instruction in it. -/

namespace Sys2Proof.Machine

open Sys2Proof

/-! ### Loading (R317, R318) -/

/-- The axis points and acquisition channels that select a program (FP_USERS). -/
def State.fpUsers (s : State) (p : Nat) : Nat :=
  ((List.range 512).countP (fun u => s.rd (K.FP_SELECT (u / 4) (u % 4)) == (p : Int))) +
  ((List.range 16).countP (fun c => s.rd (K.CH_FP c) == (p : Int)))

/-- The readouts of a program that is not loaded (log 20). -/
def State.fpClear (s : State) (p st : Nat) : State :=
  { (s.zero [K.FP_CLASS p, K.FP_CODE_LEN p, K.FP_STATIC_CYCLES p, K.FP_VARIABLE p, K.FP_DIGEST p,
      K.FP_USER_VERSION p]).wrN (K.FP_STATE p) st with fpLoaded := SMap.erase s.fpLoaded p }

/-- FP_RESULT: code and instruction index. -/
def fpResult (code idx : Nat) : Nat := code + idx * 65536

/-- A write of LOAD (R317, R318): the checks in order, then the program replaces any earlier one of its number. -/
def State.fpLoad (s : State) (p : Nat) : WRes :=
  let b := s.rdB (K.FP_IMAGE p)
  if s.rd (K.FP_STATE p) = 1 ∧ s.fpUsers p ≠ 0 then (s.wrN (K.FP_RESULT p) (fpResult 12 0xFFFF), .refused)
  else match loadCheck b with
    | some (c, k) => ((s.fpClear p 2).wrN (K.FP_RESULT p) (fpResult c k), .refused)
    | none =>
      let s := { s with fpLoaded := SMap.insert s.fpLoaded p b }
      let s := (s.wr (K.FP_STATE p) 1).wrN (K.FP_RESULT p) (fpResult 0 0xFFFF)
      let s := (s.wrN (K.FP_CLASS p) (b2n !(imgAffine b))).wrN (K.FP_CODE_LEN p) (imgCode b)
      let s := (s.wrN (K.FP_STATIC_CYCLES p) (imgStatic b)).wrN (K.FP_VARIABLE p) (b2n (imgVariable b))
      .ok ((s.wrN (K.FP_DIGEST p) (uAt b (b.length - 4) 4)).wrN (K.FP_USER_VERSION p) (uAt b 24 4))

/-- A write of UNLOAD (R318). -/
def State.fpUnload (s : State) (p : Nat) : WRes :=
  if s.fpUsers p ≠ 0 then (s.wrN (K.FP_RESULT p) (fpResult 12 0xFFFF), .refused) else .ok (s.fpClear p 0)

/-- FP_LOAD with LOAD. -/
def execFpLoad (prog : Fin 64) (s : State) : Res := answered (s.fpLoad prog)
/-- FP_LOAD with UNLOAD. -/
def execFpUnload (prog : Fin 64) (s : State) : Res := answered (s.fpUnload prog)

/-! ### An invocation (R306, R313 to R315) -/

/-- The persisted state of a use: an axis point of the committed words, or an acquisition channel. -/
def State.fpUse (s : State) (u : Nat) : FpUse :=
  if u < 512 then
    let w := (s.axis (u / 4)).words
    match u % 4 with
    | 0 => w.pt0.fp
    | 1 => w.pt1.fp
    | 2 => w.pt2.fp
    | _ => w.pt3.fp
  else SMap.get s.acqUse {} (u - 512)

/-- The words with the program state of a point replaced. -/
def Words.setFp (w : Words) (p : Nat) (f : FpUse) : Words :=
  match p with
  | 0 => { w with pt0 := { w.pt0 with fp := f } }
  | 1 => { w with pt1 := { w.pt1 with fp := f } }
  | 2 => { w with pt2 := { w.pt2 with fp := f } }
  | _ => { w with pt3 := { w.pt3 with fp := f } }

/-- Replace the persisted state of a use. -/
def State.setFpUse (s : State) (u : Nat) (f : FpUse) : State :=
  if u < 512 then s.updAxis (u / 4) (fun x => { x with words := x.words.setFp (u % 4) f })
  else { s with acqUse := SMap.put s.acqUse {} (u - 512) f }

/-- The use selects the program. -/
def State.useSelects (s : State) (u p : Nat) : Bool :=
  if u < 512 then s.rd (K.FP_SELECT (u / 4) (u % 4)) == (p : Int)
  else Nat.blt u 528 && s.rd (K.CH_FP (u - 512)) == (p : Int)

/-- The exponent in force: of the stage that owns the point, or of the channel (R306, R320). -/
def State.useExp (s : State) (u : Nat) : Int :=
  if u < 512 then s.stageExp (u / 4) (pointStage (u % 4)) else s.rd (K.CH_EXP (u - 512))

/-- What RDCNT reads (R312): R211 does not apply to acquisition channels (R320). -/
def State.useCounter (s : State) (u n : Nat) : Option Nat :=
  if u < 512 then s.fpCounter n
  else if s.rd K.FP_COUNTER_GRANT = 1 then some (SMap.get s.counters.live 0 n) else none

/-- CONTEXT_A and CONTEXT_B (R307). -/
def useCtx (u : Nat) : Nat × Nat := if u < 512 then (u / 4, u % 4) else (0x100 + (u - 512), 4)

/-- FP_INVOCATION: the machine is set up (R306); a program not loaded, of CODE_LEN 0 (R314), or not selected by the use
is not invoked. -/
def State.fpInvoke (s : State) (p u : Nat) (x : Int) : State :=
  match s.fpImage p with
  | none => s
  | some b =>
    if imgCode b = 0 ∨ s.useSelects u p = false then s
    else
      let x := satS 24 x
      let m := fmEntry b (s.fpUse u) (s.useExp u) (useCtx u).1 (useCtx u).2 x
      { s with fm := some { prog := p, use := u, x := x, m := m, out := none } }

/-- FP_INVOCATION. -/
def execFpInvocation (prog : Fin 64) (use : Nat) (x : Int) (s : State) : Res := done (s.fpInvoke prog use x)

/-- The invocation ends (R313, R314): with its output, the state kept, and its counts. -/
def State.fpFinish (s : State) (r : FilterRun) (m : Fm) (fence : Bool) : State :=
  let o : FpOut :=
    { y := if fence then r.x else m.load 1, use := if fence then s.fpUse r.use else m.kept,
      sat := m.sat, denied := m.denied, overrun := fence }
  { ((s.setFpUse r.use o.use).countFp r.prog r.use o) with fm := some { r with m := m, out := some o.y } }

/-- The instruction is executed in the invocation in progress (R309): at the fence the invocation ends instead (R313);
END delivers Y and the new state (R314). With no invocation in progress nothing is executed. -/
def State.fpStep (s : State) (i : FInst) : Res :=
  match s.fm with
  | none => done s
  | some r =>
    if r.out.isSome then done s
    else if i.ok r.m = false then .fault .illFormedFilterInstruction
    else if r.m.fenced i then done (s.fpFinish r r.m true)
    else
      let m := i.run (s.useCounter r.use) r.m
      match i with
      | .fin => done (s.fpFinish r m false)
      | _ => done { s with fm := some { r with m := m } }

/-! ### The instructions (R309) -/
/-- NOP: nothing. -/
def execFpNop (s : State) : Res := s.fpStep .nop
/-- END: ends the invocation (R314). -/
def execFpEnd (s : State) : Res := s.fpStep .fin
/-- REP: repeats the next `len` + 1 instructions `count` + 1 times (R311). -/
def execFpRep (len : Fin 64) (count : Fin 4096) (s : State) : Res := s.fpStep (.rep (len + 1) (count + 1))
/-- REPR: repeats the next `len` + 1 instructions as often as the register says (R311). -/
def execFpRepr (len : Fin 64) (gC : Fin 16) (s : State) : Res := s.fpStep (.repr (len + 1) gC)
/-- LDI: gD := imm, sign-extended. -/
def execFpLdi (gD : Fin 16) (imm : BitVec 22) (s : State) : Res := s.fpStep (.ldi gD imm.toInt)
/-- MOV: gD := gS. -/
def execFpMov (gD gS : Fin 16) (s : State) : Res := s.fpStep (.mov gD gS)
/-- LD: gD := M[addr] (R307). -/
def execFpLd (gD : Fin 16) (addr : Fin 2048) (s : State) : Res := s.fpStep (.ld gD addr)
/-- ST: M[addr] := gS (R307). -/
def execFpSt (gS : Fin 16) (addr : Fin 2048) (s : State) : Res := s.fpStep (.st gS addr)
/-- CBLD: gD := M[base + i]; i := i + step. -/
def execFpCbld (gD : Fin 16) (cb : Fin 4) (step : BitVec 4) (s : State) : Res := s.fpStep (.cbld gD cb step.toInt)
/-- CBST: M[base + i] := gS; i := i + step. -/
def execFpCbst (gS : Fin 16) (cb : Fin 4) (step : BitVec 4) (s : State) : Res := s.fpStep (.cbst gS cb step.toInt)
/-- CBPUSH: i := i + 1; M[base + i] := gS. -/
def execFpCbpush (gS : Fin 16) (cb : Fin 4) (s : State) : Res := s.fpStep (.cbpush gS cb)
/-- CBIDX: i := idx mod length. -/
def execFpCbidx (cb : Fin 4) (idx : Fin 1024) (s : State) : Res := s.fpStep (.cbidx cb idx)
/-- ADD: gD := gA + gB, saturated (R308). -/
def execFpAdd (gD gA gB : Fin 16) (s : State) : Res := s.fpStep (.add gD gA gB)
/-- SUB: gD := gA − gB, saturated. -/
def execFpSub (gD gA gB : Fin 16) (s : State) : Res := s.fpStep (.sub gD gA gB)
/-- NEG: gD := −gS, saturated. -/
def execFpNeg (gD gS : Fin 16) (s : State) : Res := s.fpStep (.neg gD gS)
/-- SHL: gD := gS × 2^n, saturated. -/
def execFpShl (gD gS : Fin 16) (n : Fin 32) (s : State) : Res := s.fpStep (.shl gD gS n)
/-- SHR: gD := gS × 2^−n, half up. -/
def execFpShr (gD gS : Fin 16) (n : Fin 32) (s : State) : Res := s.fpStep (.shr gD gS n)
/-- ABS: gD := the absolute value of gS, saturated. -/
def execFpAbs (gD gS : Fin 16) (s : State) : Res := s.fpStep (.abs gD gS)
/-- MIN: the smaller. -/
def execFpMin (gD gA gB : Fin 16) (s : State) : Res := s.fpStep (.min gD gA gB)
/-- MAX: the larger. -/
def execFpMax (gD gA gB : Fin 16) (s : State) : Res := s.fpStep (.max gD gA gB)
/-- SEL: gD := gA if gC ≥ 0, else gB. -/
def execFpSel (gD gC gA gB : Fin 16) (s : State) : Res := s.fpStep (.sel gD gC gA gB)
/-- CLR: acc := 0. -/
def execFpClr (acc : Fin 4) (s : State) : Res := s.fpStep (.clr acc)
/-- MAC: acc := acc + gA × gB, saturated. -/
def execFpMac (acc : Fin 4) (gA gB : Fin 16) (s : State) : Res := s.fpStep (.mac acc gA gB)
/-- MSU: acc := acc − gA × gB, saturated. -/
def execFpMsu (acc : Fin 4) (gA gB : Fin 16) (s : State) : Res := s.fpStep (.msu acc gA gB)
/-- FTAP: one or two filter taps (R310). -/
def execFpFtap (acc cbD cbC : Fin 4) (two : Bool) (s : State) : Res := s.fpStep (.ftap acc cbD cbC two)
/-- ACCADD: acc := acc + gS × 2^(23 − sh). -/
def execFpAccadd (acc : Fin 4) (gS : Fin 16) (sh : BitVec 6) (s : State) : Res := s.fpStep (.accadd acc gS sh.toInt)
/-- RND: gD := acc × 2^(sh − 23), half up and saturated. -/
def execFpRnd (acc : Fin 4) (gD : Fin 16) (sh : BitVec 6) (s : State) : Res := s.fpStep (.rnd acc gD sh.toInt)
/-- EXP: gD := e. -/
def execFpExp (gD : Fin 16) (s : State) : Res := s.fpStep (.exp gD)
/-- RDCNT: gD := a part of a performance counter (R312). -/
def execFpRdcnt (gD : Fin 16) (counter : Fin 64) (high : Bool) (s : State) : Res := s.fpStep (.rdcnt gD counter high)

/-! ### The cycle fence (R313) -/

/-- The instruction that stands next in the program of the invocation in progress. -/
def State.fpNext (s : State) (r : FilterRun) : Option FInst :=
  (s.fpImage r.prog).bind (fun b => finstOf (imgWord b r.m.pc))

/-- CYCLE_FENCE: the next instruction would bring the cycle counter above 2,000, and the invocation ends as an overrun. -/
def execCycleFence (s : State) : Res :=
  match s.fm with
  | none => done s
  | some r =>
    match s.fpNext r with
    | some i => if r.out.isNone && r.m.fenced i then done (s.fpFinish r r.m true) else done s
    | none => done s

end Sys2Proof.Machine
end

