-- ==== Sys2Proof/Machine/Acquisition.lean ====
section
/-! DEFINITION. Acquisition, axis trace and performance counters (R402 to R418): axis signals, base samples and rows,
triggers and the life of an acquisition, trace rings and their freezing, counter control and bandwidth windows. -/

namespace Sys2Proof.Machine

open Sys2Proof

/-! ### Axis signals (R402) -/

/-- STATUS_WORD of an axis. -/
def State.statusWord (s : State) (a : Nat) : Nat :=
  let x := s.axis a
  let w := x.words
  b2n x.pwm + 2 * b2n (s.brakeReleased a) + 4 * b2n (s.stageClosed a 1 && (w.d0 != 0 || w.d1 != 0))
    + 8 * b2n (s.stageClosed a 2 && w.vel.dir != 0) + 16 * b2n (s.stageClosed a 3 && w.pos.dir != 0)
    + 32 * b2n x.feFlag + 64 * b2n x.softFlag + 128 * b2n (s.still a) + 256 * b2n (s.rd (K.FAULT_CODE a) != 0)
    + 512 * b2n (s.stoDemanded a) + 1024 * b2n (x.settledPrev == .late) + 2048 * b2n (x.settledPrev == .hold)
    + 4096 * b2n (s.rd (K.GT_COUNT a) != 0)

/-- A quantity in units of 2^-16, saturated to I32. -/
def q16 (x : Rat) : Int := satS 32 (roundHalfUp (x * 65536))

/-- Axis signal by code. -/
def State.axisSignal (s : State) (a code : Nat) : Int :=
  let x := s.axis a
  let h := x.h1.getD {}
  let two := twoBridge s.cf a
  let p := s.rd (K.MEASURED_POS a)
  match code with
  | 1 => wrapS 32 (s.pSet a / 65536)
  | 2 => wrapS 32 (p / 65536)
  | 3 => satS 32 (wrapS 64 (s.pSet a - p))
  | 4 => r8Of x.mot.v
  | 5 => s.rd (K.SPEED_EST a)
  | 6 => q16 (ofStage (s.stageExp a 2) x.words.vel.out)
  | 7 => q16 (if two then h.i0 else h.i1)
  | 8 => q16 (if two then h.i1 else h.i0)
  | 9 => q16 (if two then x.vLim.1 else x.vLim.2)
  | 10 => q16 (if two then x.vLim.2 else x.vLim.1)
  | 11 => satS 32 (x.vbus * 4096)
  | 12 => satS 32 (roundHalfUp (x.delta * 4294967296))
  | 13 => q16 (s.rdR (K.GT_FACTOR a))
  | 14 => s.statusWord a + 65536 * x.sqCause
  | _ => 0

/-! ### Rows (R403 to R405) -/

/-- MINMAX reduction is selected. -/
def State.minmax (s : State) : Bool := s.rd K.REDUCTION == 1

/-- The enabled channels, ascending. -/
def State.acqChans (s : State) : List Nat := (List.range 16).filter (fun c => s.rd (K.SOURCE_KIND c) != 0)

/-- ROW_BYTES. -/
def State.rowBytes (s : State) : Nat := 4 * (2 + s.acqChans.length * (if s.minmax then 2 else 1))

/-- DEPTH. -/
def State.acqDepth (s : State) : Nat := 4194304 / s.rowBytes

/-- The acquisition is FILLING, ARMED or TRIGGERED. -/
def State.acqBusy (s : State) : Bool :=
  let st := s.rd K.ACQ_STATE
  st == 1 || st == 2 || st == 3

/-- The value of a channel's source, nothing where it is unavailable (R403, R405). -/
def State.acqValue (s : State) (c : Nat) : Option Int :=
  let r := s.rdN (K.SOURCE_REF c)
  match s.rdN (K.SOURCE_KIND c) with
  | 1 => if s.axState r = 0 then none else some (s.axisSignal r (s.rdN (K.SIGNAL c)))
  | 2 => some (wrapS 32 (s.pointNow r (((pointOwner s.cf r).map (fun o => o.2.2.output)).getD false)))
  | 3 => if bit (s.rdN (K.CH_FLAGS r)) 0 then some (s.rd (K.CH_CODE r)) else none
  | 4 => some (wrapS 32 ((s.master r).pos / 65536))
  | _ => none

/-- The words of a base sample in channel order with the INVALID mask; the word of an unavailable source is a free value
(log 45). -/
def State.acqWords (s : State) : List Nat → State × List (Nat × Int × Int) × Nat
  | [] => (s, [], 0)
  | c :: r =>
    match s.acqValue c with
    | some v =>
      let y := s.acqWords r
      (y.1, (c, v, v) :: y.2.1, y.2.2)
    | none =>
      let d := s.draw
      let v := wrapS 32 d.2
      let y := d.1.acqWords r
      (y.1, (c, v, v) :: y.2.1, y.2.2 + 2 ^ c)

/-- A further base sample of a run is taken into its row (R404, R405). -/
def AcqRow.join (x y : AcqRow) : AcqRow :=
  { x with
    words := (x.words.zip y.words).map (fun e =>
      let c := e.1.1
      if bit x.invalid c then e.2
      else if bit y.invalid c then e.1
      else (c, min e.1.2.1 e.2.2.1, max e.1.2.2 e.2.2.2))
    invalid := x.invalid &&& y.invalid }

/-- Rows stored since the start. -/
def Acq.count (q : Acq) : Nat := q.dropped + q.rows.length

/-- The row the trigger fixes as its own, with the first kept row (R410). -/
def State.acqFix (s : State) (row : Nat) : State :=
  let q := s.acq
  let first := max q.dropped (row - s.rdN K.PRETRIGGER)
  ({ s with acq := { q with trigRow := some row, first := first } }).wrN K.PRE_ROWS (row - first)

/-- All kept rows are stored. -/
def State.acqKept (s : State) : Bool :=
  s.acq.trigRow.isSome && Nat.ble (s.acq.first + s.rdN K.LENGTH) s.acq.count

/-- A row is stored in the ring (R408, R410); one that would overwrite an unprocessed row is not. -/
def State.acqStore (s : State) (x : AcqRow) : State :=
  if s.acqKept ∨ s.acq.overrun then s
  else
    let q := s.acq
    let full := Nat.ble s.acqDepth q.rows.length
    if full && (q.rows.head?.map (fun y => !y.processed)).getD false then { s with acq := { q with overrun := true } }
    else
      let q := { q with
        rows := (if full then q.rows.drop 1 else q.rows) ++ [x], dropped := q.dropped + b2n full }
      let s := { s with acq := q }
      if s.rd K.ACQ_STATE = 3 ∧ q.trigRow = none ∧ s.rdN K.TRIG_TIME ≤ x.instant then s.acqFix (q.count - 1) else s

/-! ### Triggers (R408 to R412) -/

/-- The number of the first stored row at or after an instant. -/
def firstFrom (t : Nat) : List AcqRow → Nat → Option Nat
  | [], _ => none
  | x :: r, k => if t ≤ x.instant then some k else firstFrom t r (k + 1)

/-- The pins in mode OUT. -/
def State.cascadeOut (s : State) : List Nat := (List.range 4).filter (fun j => s.rd (K.TRIG_IO_MODE j) == 2)

/-- The acquisition is triggered at an instant of network time. -/
def State.acqSet (s : State) (t flags : Nat) : State :=
  let s := (((s.wr K.ACQ_STATE 3).wrN K.TRIG_TIME t).wrN K.TRIG_FLAGS flags)
  match firstFrom t s.acq.rows s.acq.dropped with
  | some k => s.acqFix k
  | none => s

/-- A trigger is found (R408): `flags` its TRIG_FLAGS, `pulse` whether its kind launches pulses (R412). -/
def State.acqTrigger (s : State) (t : Int) (flags : Nat) (pulse : Bool) : State :=
  if s.rd K.ACQ_STATE = 1 then s.bump K.EARLY_TRIGGERS
  else if s.rd K.ACQ_STATE ≠ 2 then s
  else
    let t := (max 0 t).toNat
    let pins : List Nat := if pulse then s.cascadeOut else []
    let due := t + s.rdN K.CASCADE_LATENCY
    let late := !pins.isEmpty && Nat.blt due s.netNow
    let s := { s with acq := { s.acq with pulses := s.acq.pulses ++ pins.map (fun j => (j, max due s.netNow)) } }
    s.acqSet t (flags + 2 * b2n late)

/-- A valid value of the trigger channel with its instant is tested for an edge (R409). -/
def State.acqEdge (s : State) (v : Int) (t : Nat) : State :=
  let kind := s.rd K.TRIG_KIND
  if kind < 1 ∨ 3 < kind then s
  else match s.acq.prev with
    | none => { s with acq := { s.acq with prev := some (v, t) } }
    | some (u, tu) =>
      let level := s.rd K.TRIG_LEVEL
      let hyst := s.rd K.TRIG_HYST
      let rise := s.acq.riseReady || decide (u ≤ level - hyst)
      let fall := s.acq.fallReady || decide (level + hyst ≤ u)
      let up := kind != 2 && rise && decide (u < level ∧ level ≤ v)
      let down := kind != 1 && fall && decide (u > level ∧ level ≥ v)
      let s := { s with acq := { s.acq with prev := some (v, t), riseReady := rise && !up, fallReady := fall && !down } }
      if up || down then
        let f := b64 (b64 ((level - u : Int) : Rat) / b64 ((v - u : Int) : Rat))
        s.acqTrigger (tu + roundHalfUp (b64 (f * ((t : Rat) - (tu : Rat))))) 4 true
      else s

/-- The edge test on a row's word of the trigger channel. -/
def State.acqEdgeRow (s : State) (x : AcqRow) : State :=
  let c := s.rdN K.TRIG_CHANNEL
  match x.words.find? (fun e => e.1 == c) with
  | some e => if bit x.invalid c then s else s.acqEdge e.2.1 x.instant
  | none => s

/-- A channel has a filter program. -/
def State.acqFiltered (s : State) (c : Nat) : Bool := s.rd (K.CH_FP c) != 65535

/-- Some enabled channel has one. -/
def State.acqAnyFp (s : State) : Bool := s.acqChans.any s.acqFiltered

/-- The base sample of a cycle (R404): taken at the snapshot instant. -/
def State.acqSample (s : State) : State :=
  let d := max 1 (s.rdN K.DECIMATION_7000)
  if s.domainOn Dom.ACQ = false ∨ s.acqBusy = false ∨ s.clk.cyc < s.acq.startCycle ∨ s.clk.cyc % d ≠ 0 then s
  else
    let y := s.acqWords s.acqChans
    let s := y.1
    let x : AcqRow := { cycle := s.cycle, instant := s.netStart, words := y.2.1, invalid := y.2.2, sat := 0
                        processed := !s.acqAnyFp }
    let s := if s.acqFiltered (s.rdN K.TRIG_CHANNEL) then s else s.acqEdgeRow x
    if s.minmax then
      let r : AcqRow := match s.acq.partial_ with
        | some p => p.join x
        | none => x
      let n := s.acq.partialCount + 1
      if s.rdN K.MINMAX_INTERVAL ≤ n then
        ({ s with acq := { s.acq with partial_ := none, partialCount := 0 } }).acqStore r
      else { s with acq := { s.acq with partial_ := some r, partialCount := n } }
    else s.acqStore x

/-- SNAPSHOT (R286, R404): publication of the point image and the base sample of the cycle. -/
def execSnapshot (t : Nat) (s : State) : Res :=
  let s := s.at t
  if s.power = 0 then done s else done s.publish.acqSample

/-- A channel's word of a row through its filter program (R406, R320): the word, and whether the program saturated. -/
def State.acqFilter (s : State) (c : Nat) (v : Int) : State × Int × Bool :=
  let p := s.rdN (K.CH_FP c)
  match SMap.find s.fpLoaded p with
  | none => (s, v, false)
  | some b =>
    if imgCode b = 0 then (s, v, false)
    else
      let sh := s.rdN (K.CH_SHIFT c)
      let u := 512 + c
      let o := invoke (s.useCounter u) b (s.fpUse u) (s.useExp u) (useCtx u).1 (useCtx u).2 (satS 24 (shrHalfUp v sh))
      let s := (s.setFpUse u o.use).countFp p u o
      let s := if o.sat then s.bump (K.SAT_SAMPLES c) else s
      (s, if o.overrun then v else satS 32 (o.y * 2 ^ sh), o.sat)

/-- The programs of a row's channels run on it (R406). -/
def State.acqRowRun (s : State) (x : AcqRow) : State × AcqRow :=
  x.words.foldl (fun (y : State × AcqRow) (e : Nat × Int × Int) =>
    if y.1.acqFiltered e.1 then
      let r := y.1.acqFilter e.1 e.2.1
      (r.1, { y.2 with words := y.2.words ++ [(e.1, r.2.1, r.2.1)], sat := y.2.sat + (if r.2.2 then 2 ^ e.1 else 0) })
    else (y.1, { y.2 with words := y.2.words ++ [e] })) (s, { x with words := [], processed := true })

/-- The rows from a place on, processed in turn; a trigger on a filtered channel is evaluated after its row (R406). -/
def State.acqRun (s : State) : List AcqRow → List AcqRow → State
  | front, [] => { s with acq := { s.acq with rows := front } }
  | front, x :: r =>
    if x.processed then s.acqRun (front ++ [x]) r
    else
      let y := s.acqRowRun x
      let s := if y.1.acqFiltered (y.1.rdN K.TRIG_CHANNEL) then
          ({ y.1 with acq := { y.1.acq with rows := front ++ [y.2] ++ r } }).acqEdgeRow y.2
        else y.1
      s.acqRun (front ++ [y.2]) r

/-- ACQ_PROCESS (R145, R406): the programs run over the rows stored since the last release. -/
def execAcqProcess (s : State) : Res :=
  if s.domainOn Dom.ACQ = false ∨ s.acqBusy = false then done s else done (s.acqRun [] s.acq.rows)

/-! ### The life of an acquisition (R407, R408) -/

/-- The refusal of a START, 0 if none. -/
def State.acqRefuse (s : State) : Nat :=
  let kind := s.rd K.TRIG_KIND
  if s.acqBusy then 1
  else if s.acqChans.isEmpty then 2
  else if s.rdN K.LENGTH = 0 ∨ s.acqDepth < s.rdN K.LENGTH then 3
  else if 1 ≤ kind ∧ kind ≤ 3 ∧ s.rd (K.SOURCE_KIND (s.rdN K.TRIG_CHANNEL)) = 0 then 4
  else if s.minmax ∧ s.acqAnyFp then 5
  else if s.acqAnyFp ∧ !s.markReleases 2 then 6
  else 0

/-- A write of START to ACQ_CONTROL. -/
def State.acqStart (s : State) : WRes :=
  let c := s.acqRefuse
  if s.domainOn Dom.ACQ = false then (s, .refused)
  else if c ≠ 0 then (s.wr K.ACQ_REFUSAL c, .refused)
  else
    let s := s.zero [K.ACQ_REFUSAL, K.TRIG_TIME, K.TRIG_FLAGS, K.PRE_ROWS, K.EARLY_TRIGGERS]
    let s := { s with
      acq := { startCycle := s.clk.cyc + 1, armedAt := s.clk.now, pulses := s.acq.pulses }, acqUse := [] }
    .ok (s.wr K.ACQ_STATE (if s.rdN K.PRETRIGGER = 0 then 2 else 1))

/-- A write of STOP. -/
def State.acqStop (s : State) : WRes := .ok (if s.acqBusy then s.wr K.ACQ_STATE 5 else s)

/-- A write of FORCE_TRIGGER (R409). -/
def State.acqForce (s : State) : WRes := .ok (s.acqTrigger s.netStart 0 true)

/-- ACQ_START. -/
def execAcqStart (s : State) : Res := answered s.acqStart
/-- ACQ_STOP. -/
def execAcqStop (s : State) : Res := answered s.acqStop
/-- FORCE_TRIGGER. -/
def execForceTrigger (s : State) : Res := answered s.acqForce

/-- PRETRIGGER_FILLED (R408): PRETRIGGER rows are stored, and the acquisition is ARMED. -/
def execPretriggerFilled (s : State) : Res :=
  if s.rd K.ACQ_STATE = 1 ∧ s.rdN K.PRETRIGGER ≤ s.acq.count then
    done ({ s with acq := { s.acq with armedAt := s.clk.now } }.wr K.ACQ_STATE 2)
  else done s

/-- AUTO_TIMEOUT_EXPIRY (R408): the acquisition triggers itself. -/
def execAutoTimeoutExpiry (t : Nat) (s : State) : Res :=
  let s := s.at t
  if s.rd K.ACQ_STATE = 2 ∧ s.rd K.AUTO_TIMEOUT ≠ 0 ∧ s.elapsed s.acq.armedAt (1000000 * s.rdN K.AUTO_TIMEOUT) then
    done (s.acqSet s.netNow 1)
  else done s

/-- ACQ_DONE (R408): the kept rows are stored and processed. -/
def execAcqDone (s : State) : Res :=
  let q := s.acq
  let kept := (q.rows.drop (q.first - q.dropped)).take (s.rdN K.LENGTH)
  if s.rd K.ACQ_STATE = 3 ∧ s.acqKept ∧ kept.all (·.processed) then
    done (({ s with acq := { q with rows := kept, dropped := q.first } }.wr K.ACQ_STATE 4).raiseU Ev.ACQ_DONE none none [])
  else done s

/-- ACQ_OVERRUN (R408): an unprocessed row would have been overwritten. -/
def execAcqOverrun (s : State) : Res :=
  if s.acqBusy ∧ s.acq.overrun then done ((s.wr K.ACQ_STATE 5).raiseU Ev.ACQ_OVERRUN none none []) else done s

/-- TRIG_IO_EDGE (R411, R412): a rising edge on a pin in mode IN, captured in network time. -/
def execTrigIoEdge (pin : Fin 4) (t : Nat) (s : State) : Res :=
  let s := s.at t
  if s.rd (K.TRIG_IO_MODE pin) ≠ 1 ∨ s.rd K.ACQ_STATE ≠ 2 ∨ s.rd K.TRIG_KIND ≠ 6 ∨ s.rdN K.TRIG_REF ≠ pin.val then done s
  else done (s.acqTrigger ((s.netNow : Int) - s.rd (K.TRIG_IN_DELAY pin) - s.rd K.CASCADE_LATENCY) 0 false)

/-- CASCADE_PULSE (R412): the pulse of a pin leaves at its instant. -/
def execCascadePulse (pin : Fin 4) (t : Nat) (s : State) : Res :=
  let s := s.at t
  match s.acq.pulses.find? (fun e => e.1 == pin.val && Nat.ble e.2 s.netNow) with
  | some e => done ({ s with acq := { s.acq with pulses := s.acq.pulses.erase e } }.emit (.trigOut pin s.clk.now))
  | none => done s

/-- A write of 0x7000 subs 4 to 14 and 25 or of a channel object in an acquisition (R407). -/
def acqGuarded (obj sub : Nat) : Bool :=
  (obj == 0x7000 && ((Nat.ble 4 sub && Nat.ble sub 14) || sub == 25)) || (Nat.ble 0x7010 obj && Nat.ble obj 0x701F)

/-- The bytes of a row (R405). -/
def State.rowOf (s : State) (x : AcqRow) : Bytes :=
  leBytes 4 x.cycle ++ leBytes 4 (x.invalid + 65536 * x.sat) ++
    x.words.flatMap (fun e => if s.minmax then leInt 4 e.2.1 ++ leInt 4 e.2.2 else leInt 4 e.2.1)

/-- ACQ_READ: whole rows from ACQ_READ_ROW, at most 8,000 bytes; refused but in DONE (R408). -/
def State.acqRead (s : State) : Option Bytes :=
  if s.rd K.ACQ_STATE ≠ 4 then none
  else some (((s.acq.rows.drop (s.rdN K.ACQ_READ_ROW)).take (8000 / s.rowBytes)).flatMap s.rowOf)

/-! ### Axis trace (R413, R414) -/

/-- A trace. -/
def State.trace (s : State) (a : Nat) : Trace := SMap.get s.traces {} a
/-- Replace a trace. -/
def State.setTrace (s : State) (a : Nat) (x : Trace) : State := { s with traces := SMap.put s.traces {} a x }

/-- TRACE_STATE: 0 OFF, 1 RUNNING, 2 STOPPING, 3 FROZEN. The entry holds 2 and 3. -/
def State.traceState (s : State) (a : Nat) : Nat :=
  let st := s.rdN (K.TRACE_STATE a)
  if 2 ≤ st then st else if s.rd (K.TRACE_NODES a) = 0 ∨ s.domainOn Dom.ACQ = false then 0 else 1

/-- TRACE_DEPTH. -/
def State.traceDepth (s : State) (a : Nat) : Nat := 2048 / (1 + s.rdN (K.TRACE_NODES a))

/-- A trace row of this cycle. -/
def State.traceWords (s : State) (a : Nat) : List Nat :=
  let x := s.axis a
  let w0 := s.cycle % 2 ^ 24 + 2 ^ 25 * b2n (x.settled == .hold) + 2 ^ 26 * b2n (x.settled == .late)
    + 2 ^ 27 * b2n (x.sqCause != 0) + 2 ^ 28 * b2n (s.rd (K.MISSING_RUN a) != 0)
  w0 :: (List.range (s.rdN (K.TRACE_NODES a))).map (fun j => toUnsigned 32 (s.axisSignal a (s.rdN (K.TRACE_SIGNAL a j))))

/-- TRACE_ROW (R413): the row of an axis in this cycle. -/
def execTraceRow (axis : Fin 128) (s : State) : Res :=
  let a := axis.val
  let st := s.traceState a
  let x := s.trace a
  if (st ≠ 1 ∧ (st ≠ 2 ∨ x.remaining = 0)) ∨ s.domainOn Dom.ACQ = false ∨ s.axState a = 0
      ∨ s.clk.cyc % max 1 (s.rdN (K.TRACE_DIV a)) ≠ 0 then done s
  else
    let d := s.traceDepth a
    done (s.setTrace a { ring := SMap.insert x.ring x.next (s.traceWords a), next := (x.next + 1) % d
                         count := min d (x.count + 1), remaining := x.remaining - 1 })

/-- A running trace begins to stop (R414). -/
def State.freeze (s : State) (a cause : Nat) : State :=
  if s.traceState a ≠ 1 then s
  else
    let s := ((s.wr (K.TRACE_STATE a) 2).wr (K.FREEZE_CAUSE a) cause).wrN (K.FREEZE_CYCLE a) s.cycle
    s.setTrace a { (s.trace a) with remaining := s.rdN (K.POST_FAULT_ROWS a) }

/-- The condition of a freeze cause: a latched fault, an STO demand, a raised squash run. -/
def State.freezeHolds (s : State) (a cause : Nat) : Bool :=
  match cause with
  | 1 => s.rd (K.FAULT_CODE a) != 0
  | 2 => s.stoDemanded a
  | 3 => (s.axis a).squashRaised
  | _ => false

/-- TRACE_FREEZE_CAUSE (R414): a cause enabled in FREEZE_ON. -/
def execTraceFreezeCause (axis : Fin 128) (cause : Fin 4) (s : State) : Res :=
  if cause.val ≠ 0 ∧ bit (s.rdN (K.FREEZE_ON axis)) (cause.val - 1) ∧ s.freezeHolds axis cause then
    done (s.freeze axis cause)
  else done s

/-- TRACE_FROZEN (R414): the rows after the cause are stored. -/
def execTraceFrozen (axis : Fin 128) (s : State) : Res :=
  let a := axis.val
  if s.traceState a = 2 ∧ (s.trace a).remaining = 0 then
    done ((s.wr (K.TRACE_STATE a) 3).raise Ev.TRACE_FROZEN a (s.rdN (K.FREEZE_CAUSE a)))
  else done s

/-- The buffer is emptied and the trace runs. -/
def State.release (s : State) (a : Nat) : State := (s.wr (K.TRACE_STATE a) 0).setTrace a {}

/-- FREEZE. -/
def execFreeze (axis : Fin 128) (s : State) : Res := answered (.ok (s.freeze axis 4))
/-- RELEASE. -/
def execRelease (axis : Fin 128) (s : State) : Res := answered (.ok (s.release axis))
/-- FREEZE_ALL of every trace. -/
def State.freezeAll (s : State) : State := foldS (fun s a => s.freeze a 4) s (List.range 128)
/-- RELEASE_ALL of every trace. -/
def State.releaseAll (s : State) : State := foldS State.release s (List.range 128)
/-- FREEZE_ALL. -/
def execFreezeAll (s : State) : Res := answered (.ok s.freezeAll)
/-- RELEASE_ALL. -/
def execReleaseAll (s : State) : Res := answered (.ok s.releaseAll)

/-- A write of object 20 subs 1 to 12 (R414). -/
def State.traceWrite (s : State) (a sub : Nat) (v : Int) : WRes :=
  if 2 ≤ s.traceState a then (s, .refused) else .ok ((s.wr (odKey (0x4014 + 32 * a) sub) v).setTrace a {})

/-- TRACE_OLDEST: the ring index of the oldest row. -/
def State.traceOldest (s : State) (a : Nat) : Nat :=
  let x := s.trace a
  if x.count < s.traceDepth a then 0 else x.next

/-- The raw ring of 8,192 bytes (R413); bytes no row was stored in read as 0 (log 45). -/
def State.traceBytes (s : State) (a : Nat) : Bytes :=
  let n := 1 + s.rdN (K.TRACE_NODES a)
  padTo 8192 ((List.range (s.traceDepth a)).flatMap (fun k =>
    padTo (4 * n) ((SMap.get (s.trace a).ring [] k).flatMap (leBytes 4))))

/-- TRACE_BUFFER, half 0 or 1; refused but in FROZEN. -/
def State.traceRead (s : State) (a half : Nat) : Option Bytes :=
  if s.traceState a = 3 then some (slice (s.traceBytes a) (4096 * half) 4096) else none

/-! ### Performance counters (R415, R416) -/

/-- Write of RUN. -/
def State.counterRun (s : State) : WRes := if s.domainOn Dom.ACQ then .ok (s.wr K.COUNTERS_RUNNING 1) else (s, .refused)
/-- Write of STOP. -/
def State.counterStop (s : State) : WRes := .ok (s.wr K.COUNTERS_RUNNING 0)
/-- Write of CLEAR: counters, overflow flags and PEAK_UTIL. -/
def State.counterClear (s : State) : WRes :=
  .ok ({ s with counters := { s.counters with
      live := [], flags := 0, latched := [], latchedFlags := 0, wrapped := [], busyRest := 0 } }.zero
    ((List.range 53).map (fun j => K.PEAK_UTIL j)))

/-- COUNTER_RUN. -/
def execCounterRun (s : State) : Res := answered s.counterRun
/-- COUNTER_STOP. -/
def execCounterStop (s : State) : Res := answered s.counterStop
/-- COUNTER_CLEAR. -/
def execCounterClear (s : State) : Res := answered s.counterClear

/-- COUNTER_OVERFLOW (R415): a counter has wrapped. -/
def execCounterOverflow (counter : Fin 64) (s : State) : Res :=
  let c := counter.val
  if s.counters.wrapped.contains c then
    done ({ s with counters := { s.counters with
        wrapped := s.counters.wrapped.erase c, flags := setBit s.counters.flags c true } }.raiseU Ev.COUNTER_OVERFLOW (some c) none [])
  else done s

/-! ### Bandwidth windows (R417) -/

/-- WINDOW_LENGTH in ns. -/
def State.windowNs (s : State) : Nat := 1000000 * max 1 (s.rdN K.WINDOW_LENGTH)

/-- Utilisation in 0.01 % from wire time in ps, rounded half up. -/
def State.utilOf (s : State) (ps : Nat) : Int := min 10000 (roundHalfUp ((ps : Rat) * 10 / (s.windowNs : Rat)))

/-- The counts of the window in progress are dropped and the next one begins. -/
def State.windowBegin (s : State) (start : Nat) : State :=
  { s with counters := { s.counters with windowStart := start, rxBytes := [], txBytes := [], rxWire := [], txWire := [] } }

/-- A port's results of a window. -/
def State.windowPort (s : State) (c : Counters) (j : Nat) : State :=
  let r := s.utilOf (SMap.get c.rxWire 0 j)
  let t := s.utilOf (SMap.get c.txWire 0 j)
  ((((s.wrN (K.RX_BYTES_WINDOW j) (SMap.get c.rxBytes 0 j % 2 ^ 32)).wrN (K.TX_BYTES_WINDOW j)
    (SMap.get c.txBytes 0 j % 2 ^ 32)).wr (K.RX_UTIL j) r).wr (K.TX_UTIL j) t).wr (K.PEAK_UTIL j)
    (max (s.rd (K.PEAK_UTIL j)) (max r t))

/-- WINDOW_END (R417): a window aligned to network time ends; one that began late is discarded. -/
def execWindowEnd (t : Nat) (s : State) : Res :=
  let s := s.at t
  let l := s.windowNs
  let st := s.counters.windowStart
  if s.domainOn Dom.ACQ = false ∨ s.power = 0 ∨ s.netNow < (st / l + 1) * l then done s
  else
    let s := if st % l ≠ 0 then s else
      (foldS (fun (x : State) (j : Nat) => x.windowPort s.counters j) s (List.range 53)).bump K.WINDOW_COUNT
    done (s.windowBegin (s.netNow / l * l))

/-- A write of WINDOW_LENGTH discards the window in progress. -/
def State.windowLength (s : State) (v : Int) : State := (s.wr K.WINDOW_LENGTH v).windowBegin s.netNow

/-! ### Power of ACQ -/

/-- ACQ leaves power: an acquisition ends ABORTED, and rows, traces and counts are lost (R408, R474). -/
def State.acqOff (s : State) : State :=
  let s := if s.acqBusy then s.wr K.ACQ_STATE 5 else if s.rd K.ACQ_STATE = 4 then s.wr K.ACQ_STATE 0 else s
  let s := { s with acq := {}, acqUse := [], traces := [], counters := {} }
  let s := s.zero ((List.range 128).map (fun a => K.TRACE_STATE a))
  let s := s.zero [K.COUNTERS_RUNNING, K.WINDOW_COUNT]
  s.zero ((List.range 53).flatMap (fun j =>
    [K.RX_BYTES_WINDOW j, K.TX_BYTES_WINDOW j, K.RX_UTIL j, K.TX_UTIL j, K.PEAK_UTIL j]))

/-- ACQ is powered: a window begins. -/
def State.acqOn (s : State) : State := s.windowBegin s.netNow

end Sys2Proof.Machine
end

