-- ==== Sys2Proof/Machine/Cycle.lean ====
section
/-! DEFINITION. The network cycle: its start (R32, R57), the cycle marks (R54 to R56, R145), and the wheel actions that
the timebase itself executes (R302). -/

namespace Sys2Proof.Machine

open Sys2Proof

/-! ### The state digest (R87) -/

/-- The words of an insertion point. -/
def PointSt.ints (p : PointSt) : List Int :=
  [p.lp, p.b1.x1, p.b1.x2, p.b1.y1, p.b1.y2, p.b2.x1, p.b2.x2, p.b2.y1, p.b2.y2]
    ++ p.fp.mem.flatMap (fun e => [(e.1 : Int), e.2]) ++ p.fp.idx.map (fun (n : Nat) => (n : Int))

/-- The words of an outer stage. -/
def OuterSt.ints (o : OuterSt) : List Int := [o.i, o.df, o.fbPrev, o.dir, (o.seg : Int), o.out]

/-- The committed state words of an axis and the command of the cycle. -/
def Axis.digestWords (x : Axis) : List Int :=
  let w := x.words
  w.pos.ints ++ w.vel.ints ++ [w.i0, w.i1, w.d0, w.d1] ++ w.pt0.ints ++ w.pt1.ints ++ w.pt2.ints ++ w.pt3.ints
    ++ [x.dutyU, x.dutyV, x.dutyW]

/-- This head's digests of the cycle that ends (R87). -/
def State.takeDigests (s : State) : State :=
  if s.dual.on = false then s
  else
    let l : SMap Nat := (axesOn s.cf).map (fun a => (a, Config.stateDigest (s.axis a).digestWords))
    s.updDual (fun d => { d with digests := l })

/-! ### Cycle start (R32) -/

/-- A port at a cycle start. -/
def Port.nextCycle (p : Port) : Port :=
  { p with
    seen := false, admitted := false, violation := false, copy := false, devPrev := p.devNow, devNow := none
    t1Prev := p.t1, t1 := none, upPos := 0, upIdx := 0, dnPos := 0, dnIdx := 0 }

/-- An island at a cycle start. -/
def Island.nextCycle (i : Island) : Island :=
  { i with
    fb := none, fbDone := false, fbStale := false, forwarded := none, scDone := false, relaySent := false, seen := [] }

/-- An axis at a cycle start; `dt` is the length of the cycle that ended, counted in OPERATION; `ran`: the
axis was computed in it, so that its run of squashes goes on. -/
def Axis.nextCycle (x : Axis) (operating ran : Bool) (dt : Nat) : Axis :=
  { x with
    committed := false, cancelled := false, settledPrev := x.settled, settled := .open_
    opNs := if operating then x.opNs + dt else x.opNs, squashRun := if ran then x.squashRun else 0
    squashRaised := ran && x.squashRaised }

/-- The numbers of a map's entries change by `f`; entries equal to the default are dropped. -/
def mapKeep {α : Type} [DecidableEq α] (d : α) (f : Nat → α → α) (m : SMap α) : SMap α :=
  (m.map (fun e => (e.1, f e.1 e.2))).filter (fun e => e.2 ≠ d)

/-- The captures of the on-chip channels at the common instant (R269); the nine latest are kept (R271). -/
def State.captureAll (s : State) : State :=
  foldS (fun s c => s.updEnc c (fun e => { e with caps := (s.captureOf c :: e.caps).take 9, senior := none })) s (List.range 8)

/-- The marks and pin sources as the cycle uses them (R56, R60). -/
def State.takeMarks (s : State) : State :=
  s.updClk (fun c => { c with
    marksFired := 0
    marks := (List.range 16).map (fun m => (s.rdN (K.MARK_CONTROL m), s.rdN (K.MARK_OFFSET m), s.rdN (K.MARK_TASKS m)))
    evtNotify := (List.range 4).filter (fun j => s.rd (K.EVT_OUT_SOURCE j) == 1) })

/-- The tables that wheel actions start at this cycle start (R302). -/
def State.wheelTables (s : State) : State :=
  foldS (fun s a => (s.tableStart a).1) { s with wheelStarts := [] } s.wheelStarts

/-- What the cycle that ends leaves: the cross-check (R438), digests (R87), the faults ridden through (R460). -/
def State.cycleEnds (s : State) : State :=
  let s := s.lhCompare.takeDigests
  { s with recorder := { s.recorder with rides := s.recorder.rides.map (fun r => { r with quiet := if r.hit then 0 else r.quiet + 1, hit := false }) } }

/-- The timebase moves to the next cycle (R57). -/
def State.nextStart (s : State) : State :=
  let dt := s.clk.now - s.clk.startNow
  let s := s.updClk (fun c => { c with
    startNow := c.now, tick := c.tick + 1, cyc := c.cycNext.getD (c.cyc + 1), cycNext := none })
  { s with
    ports := mapKeep {} (fun _ p => p.nextCycle) s.ports
    islands := mapKeep {} (fun _ i => i.nextCycle) s.islands
    axes := mapKeep {} (fun a x => x.nextCycle (s.axState a == 3) (x.ranAt == s.clk.tick) dt) s.axes
    net := { s.net with
      listenLeft := if s.netState = 1 then s.net.listenLeft - 1 else s.net.listenLeft, scSeq := (s.net.scSeq + 1) % 256 }
    counters := { s.counters with latched := s.counters.live, latchedFlags := s.counters.flags } }

/-- CYCLE_START (R32, R57): while Core/Timebase runs, in CONFIG and RUN. -/
def execCycleStart (t : Nat) (s : State) : Res :=
  let s := s.at t
  if s.power = 0 then done s
  else
    let s := (s.cycleEnds.nextStart.captureAll.takeMarks).perf 1 0xFFFF 1
    let s := s.mastersStart.wheelCycle.wheelTables
    done (foldS State.pointsDue s (List.range 24))

/-! ### Cycle marks (R54 to R56, R145) -/

/-- The tasks a mark releases: prefetch of each axis with segments (stream of the axis), prediction of each master
(stream 128 + m), processing of each acquisition channel (stream 184 + c). -/
def State.markTasks (s : State) (kinds : Nat) : State :=
  let sub (k : TaskKind) (level st : Nat) (s : State) : State := s.submit (newTask k level (some st) s.cycle s.clk.now [] true)
  let s := if bit kinds 0 then
      foldS (fun s a => sub .prefetch 2 a s) s ((axesOn s.cf).filter (fun a => s.cf (K.SEG_ALLOC a) != 0))
    else s
  let s := if bit kinds 1 then
      foldS (fun s m => sub .wheelPlan 2 (128 + m) s) s ((List.range 8).filter (fun m => !s.noMaster m))
    else s
  if bit kinds 2 then foldS (fun s c => sub .acqProcess 3 (184 + c) s) s s.acqChans else s

/-- CYCLE_MARK (R54, R55): a mark reaches its offset in the cycle. -/
def execCycleMark (mark : Fin 16) (t : Nat) (s : State) : Res :=
  let s := s.at t
  let m := mark.val
  match s.clk.marks[m]? with
  | none => done s
  | some (ctl, off, kinds) =>
    if s.power = 0 ∨ bit ctl 0 = false ∨ bit s.clk.marksFired m ∨ s.clk.now < s.clk.startNow + off then done s
    else
      let s := s.updClk (fun c => { c with marksFired := setBit c.marksFired m true })
      let s := if s.power = 2 then s.markTasks kinds else s
      let s := if bit ctl 1 then s.raiseU Ev.CYCLE_MARK (some m) none [] else s
      let pin := field ctl 2 3
      if pin = 0 ∨ 4 < pin ∨ s.clk.evtNotify.contains (pin - 1) then done s
      else done (s.emit (.evtOut (pin - 1) (s.clk.startNow + off) (10 * field ctl 8 8)))

/-! ### Wheel actions of the head (R302) -/

/-- An armed entry with an action of the head whose instant has come, in the order of execution. -/
def State.wheelDue (s : State) (e : Nat) : Option Int :=
  let r := s.wheelRec e
  if s.wheelState e ≠ 1 ∨ r.action < 4 then none
  else (s.wheelInstant e).bind (fun i => if i ≤ (s.netNow : Int) then some i else none)

/-- Another entry is due before this one: an earlier instant, or an equal one and a lower number. -/
def State.wheelWaits (s : State) (e : Nat) (i : Int) : Bool :=
  s.wheel.any (fun x => x.1 != e && ((s.wheelDue x.1).map (fun j => decide (j < i ∨ (j = i ∧ x.1 < e)))).getD false)

/-- The action itself. -/
def State.wheelAct (s : State) (e edge : Nat) (i : Int) : State :=
  let r := s.wheelRec e
  match r.action with
  | 4 => if i = (s.netStart : Int) then (s.tableStart r.target).1 else { s with wheelStarts := s.wheelStarts ++ [r.target] }
  | 5 => if s.rd K.TRIG_KIND = 5 then s.acqTrigger i 0 true else s
  | 6 => s.adcWheel r.target edge
  | _ => s.raise Ev.WHEEL_EVENT e (r.tag + 65536 * r.target)

/-- WHEEL_ACTION (R302): an action of kind 4 to 7 executes at its instant; an entry flagged LATE executes in its first
cycle (R294). -/
def execWheelAction (entry : Fin 4096) (edge : Fin 15626) (t : Nat) (s : State) : Res :=
  let e := entry.val
  let s := s.at t
  match s.wheelDue e with
  | none => done s
  | some i =>
    if s.power = 0 ∨ s.wheelWaits e i then done s
    else done (((s.wheelAct e edge.val i).wheelSkipped e).wheelOver e 3)

end Sys2Proof.Machine
end

