-- ==== Sys2Proof/Machine/Commit.lean ====
section
/-! DEFINITION. The configuration image (R330, R331): configuration objects, the acceptance rules of the chapters, the
commit and the discard. -/

namespace Sys2Proof.Machine

open Sys2Proof

/-! ### Configuration objects (R330) -/

/-- Configuration objects of an axis: object, subindices. -/
def axisConfigSubs : List (Nat × Nat) :=
  [(0, 1), (0, 3), (0, 4), (0, 5), (8, 1), (8, 2), (8, 3), (8, 8), (10, 1), (10, 2), (10, 3), (10, 4), (14, 1)]

/-- The entry is a configuration object. -/
def isConfig (k : Nat) : Bool :=
  let x := k / 256
  let u := k % 256
  if Nat.ble 0x4000 x && Nat.blt x 0x5000 then axisConfigSubs.contains ((x - 0x4000) % 32, u)
  else if Nat.ble 0x2200 x && Nat.blt x 0x2380 then
    (x % 16 == 0 && (u == 1 || u == 3 || u == 4 || u == 5)) || (x % 16 == 1 && Nat.ble 1 u && Nat.ble u 16)
  else
    ((x == 0x3801 || x == 0x3802) && Nat.ble 1 u && Nat.ble u 32)
    || (Nat.ble 0x5401 x && Nat.ble x 0x5408 && Nat.ble 1 u && Nat.ble u 3)
    || (Nat.ble 0x5800 x && Nat.blt x 0x5818 && Nat.ble 1 u && Nat.ble u 66)
    || (Nat.ble 0x6E00 x && Nat.blt x 0x6E08 && Nat.ble 1 u && Nat.ble u 5)

/-- CONFIG_PENDING. -/
def State.configPending (s : State) : Bool := s.od.filter (fun e => isConfig e.1) != s.act.filter (fun e => isConfig e.1)

/-- The pending configuration with the active schedule. -/
def State.pendingConf (s : State) (k : Nat) : Int := if isSched k then s.cf k else s.rd k

/-! ### What keeps a commit out (R331) -/

/-- A configuration object of an axis that differs, if any. -/
def State.axisDiffers (s : State) (a : Nat) : Option Nat :=
  (axisConfigSubs.map (fun e => odKey (0x4000 + 32 * a + e.1) e.2)).find? (fun k => s.rd k != s.cf k)

/-- The object for which a commit is CFG_BUSY: of an axis that differs and is not at rest, or of an integrated island whose
block would change. -/
def State.configBusy (s : State) : Option Nat :=
  firstSome [
    fun _ => (List.range 128).findSome? (fun a =>
      let st := s.axState a
      if st = 0 ∨ st = 1 ∨ st = 8 then none else s.axisDiffers a),
    fun _ => ((s.integratedList).find? (fun n => icbBody s.pendingConf n != icbBody s.cf n || s.rd (K.PRESENT n) != s.cf (K.PRESENT n))).map
      (fun n => K.PRESENT n)]

/-! ### Acceptance rules -/

/-- A rule over islands: the first island that breaks it names the object. -/
def islandRule (bad : Nat → Bool) (key : Nat → Nat) : Option Nat := ((List.range 24).find? bad).map key

/-- A rule over the configured axes of an image. -/
def axisRule (g : Nat → Int) (bad : Nat → Bool) (key : Nat → Nat) : Option Nat := ((axesOn g).find? bad).map key

/-- The points an image allocates. -/
def pointTotal (g : Nat → Int) : Nat := ((List.range 24).map (pointCount g)).sum

/-- The points of class FAST. -/
def fastTotal (g : Nat → Int) : Nat :=
  ((List.range 24).map (fun n => countRuns (fun r => r.cls == 0) (pointRuns g n))).sum

/-- The limits of R20 but the axis-cycle load. -/
def limitRules (g : Nat → Int) : Option Nat :=
  firstSome [
    fun _ => islandRule (fun n => Nat.blt 16384 (pointCount g n)) (fun n => K.RUN_COUNT n),
    fun _ => if 262144 < pointTotal g then some (K.RUN_COUNT 0) else none,
    fun _ => if 4096 < fastTotal g then some (K.RUN_COUNT 0) else none]

/-- The islands that own points have ranges that overlap. -/
def overlaps (g : Nat → Int) (n m : Nat) : Bool :=
  let f := nat g (K.FIRST_POINT n)
  let h := nat g (K.FIRST_POINT m)
  let cn := pointCount g n
  let cm := pointCount g m
  cn != 0 && cm != 0 && Nat.blt f (h + cm) && Nat.blt h (f + cn)

/-- The rules of R284. -/
def pointRules (g : Nat → Int) : Option Nat :=
  firstSome [
    fun _ => islandRule (fun n => (List.range n).any (overlaps g n)) (fun n => K.FIRST_POINT n),
    fun _ => islandRule (fun n => pointCount g n != 0 && Nat.blt (nat g (K.FIRST_POINT n)) 262144 &&
      Nat.blt 262144 (nat g (K.FIRST_POINT n) + pointCount g n)) (fun n => K.FIRST_POINT n),
    fun _ => islandRule (fun n => pointCount g n != 0 && Nat.ble 262144 (nat g (K.FIRST_POINT n))) (fun n => K.FIRST_POINT n),
    fun _ => islandRule (fun n => (pointRuns g n).any (fun r => r.count == 0)) (fun n => K.RUN_COUNT n),
    fun _ => islandRule (fun n => Nat.blt 1500 (cyclicLen g n false) || Nat.blt 1500 (cyclicLen g n true)) (fun n => K.RUN_COUNT n),
    fun _ => islandRule (fun n => Nat.blt 23680 (pointsBytes g n false 1) || Nat.blt 23680 (pointsBytes g n true 1))
      (fun n => K.RUN_COUNT n)]

/-- The axis is mapped at this place and at an earlier one. -/
def mappedBefore (g : Nat → Int) (n j : Nat) : Bool :=
  let a := nat g (K.AXIS_MAP n j)
  Nat.blt a 128 && ((List.range n).any (fun m => (axisMap g m).contains a) || ((axisMap g n).take j).contains a)

/-- The rules of R127: no axis mapped twice, and the local axes mapped are 0 to a − 1. -/
def mapRules (g : Nat → Int) : Option Nat :=
  firstSome [
    fun _ => ((List.range 24).flatMap (fun n => (List.range 16).map (fun j => (n, j)))).findSome? (fun e =>
      if mappedBefore g e.1 e.2 then some (K.AXIS_MAP e.1 e.2) else none),
    fun _ => islandRule (fun n => ((axisMap g n).drop (islandAxes g n)).any (fun a => Nat.blt a 128))
      (fun n => K.AXIS_MAP n (islandAxes g n))]

/-- The nodes of a graph variant (R157). -/
def graphNodes (v : Nat) : Nat := if v = 1 then 24 else if v = 2 then 12 else 20

/-- The filter programs at an axis's points that are loaded. -/
def State.loadedAt (s : State) (a : Nat) : Nat :=
  (List.range 4).countP (fun p => (SMap.find s.fpLoaded (s.rdN (K.FP_SELECT a p))).isSome)

/-- TT_ENTRIES_PLANNED of an image (R142). -/
def State.ttPlanned (s : State) (g : Nat → Int) : Nat :=
  let axis (a : Nat) : Nat := match graphEntry g a with
    | some e => graphNodes (nat g (K.GRAPH_VARIANT e))
    | none => 1 + stageCount (nat g (K.AXIS_TYPE a)) + s.loadedAt a
  let marks : Nat := ((List.range 16).map (fun m =>
    if bit (s.rdN (K.MARK_CONTROL m)) 0 then popcount 3 (s.rdN (K.MARK_TASKS m)) else 0)).sum
  ((axesOn g).map axis).sum + (List.range 24).countP (present g) + (List.range 8).countP (fun m => g (K.MASTER_SOURCE m) != 0)
    + marks

/-- A graph-mode entry breaks R157: listed twice, a variant that is not of the axis's type, a filter program, run-ahead. -/
def State.graphBroken (s : State) (g : Nat → Int) (e : Nat) : Bool :=
  let a := nat g (K.GRAPH_AXIS e)
  Nat.blt a 128 &&
    ((List.range e).any (fun d => g (K.GRAPH_AXIS d) == (a : Int)) || nat g (K.GRAPH_VARIANT e) != nat g (K.AXIS_TYPE a)
      || (List.range 4).any (fun p => s.rd (K.FP_SELECT a p) != 65535) || s.rd (K.RA_ENABLE a) == 1)

/-- The rules of the axis chapters: R164, R223, R262, R319. -/
def State.axisRules (s : State) (g : Nat → Int) : Option Nat :=
  firstSome [
    fun _ => axisRule g (fun a => nat g (K.POS_DIV a) % max 1 (nat g (K.VEL_DIV a)) != 0) (fun a => K.POS_DIV a),
    fun _ => axisRule g (fun a => g (K.AXIS_TYPE a) == 4 && s.rd (K.OBS_ENABLE a) == 0) (fun a => K.OBS_ENABLE a),
    fun _ => axisRule g (fun a =>
      let ty := g (K.AXIS_TYPE a)
      let src := g (K.FB_SOURCE a)
      (src == 0 && ty != 4 && ty != 2) || (ty == 4 && src != 0)) (fun a => K.FB_SOURCE a),
    fun _ => axisRule g (fun a => g (K.FB_SOURCE a) == 2 &&
      !(Nat.blt (nat g (K.FB_CHANNEL a)) 8 && g (K.ENC_MODE (nat g (K.FB_CHANNEL a))) == 1)) (fun a => K.FB_CHANNEL a),
    fun _ => (axesOn g).findSome? (fun a => ((List.range 4).find? (fun p =>
      s.rd (K.FP_SELECT a p) != 65535 && (SMap.find s.fpLoaded (s.rdN (K.FP_SELECT a p))).isNone)).map (fun p => K.FP_SELECT a p))]

/-- The rules that depend on the cycle time: the load of R20 and R21, and R157. -/
def timeRules (g : Nat → Int) (ct : Nat) : Option Nat :=
  firstSome [
    fun _ => if loadOk g ct then none else some (K.AXIS_TYPE 0),
    fun _ => if graphTimeOk g ct then none else some (K.GRAPH_AXIS 0)]

/-- The object of the first rule an image breaks, at a cycle time. -/
def State.configBroken (s : State) (g : Nat → Int) (ct : Nat) : Option Nat :=
  firstSome [
    fun _ => limitRules g,
    fun _ => timeRules g ct,
    fun _ => mapRules g,
    fun _ => if 1536 < s.ttPlanned g then some K.TT_ENTRIES_PLANNED else none,
    fun _ => ((List.range 32).find? (s.graphBroken g)).map (fun e => K.GRAPH_AXIS e),
    fun _ => s.axisRules g,
    fun _ => if 49152 < ((List.range 128).map (fun a => nat g (K.SEG_ALLOC a))).sum then some (K.SEG_ALLOC 0) else none,
    fun _ => pointRules g]

/-! ### The commit (R331) -/

/-- CONFIG_RESULT for an object. -/
def configWord (code k : Nat) : Nat := code + 256 * (k % 256) + 65536 * (k / 256)

/-- The cycle time of the committed schedule (R331). -/
def State.committedCt (s : State) : Nat :=
  match s.com with
  | some c => cycleNs (SMap.get c (odDefault K.CYCLE_TIME) K.CYCLE_TIME).toNat
  | none => s.ct

/-- An axis whose type the new configuration changes (R192, R223, R263). -/
def State.axisChanged (s : State) (a : Nat) (old : Int) : State :=
  let new := s.cf (K.AXIS_TYPE a)
  if new = old then s
  else
    let s := (s.wr (K.SENSORLESS_PHASE a) 0).updAxis a (fun x => { x with est := {}, h1 := none, h0 := none })
    if new = 0 then (s.openAll a).setAxState a 0
    else if old = 0 then (s.wr (K.FAULT_CODE a) 0).setAxState a (if s.stoDemanded a then 9 else 1)
    else s

/-- The switches whose point the new configuration makes anything else than a FAST BIT input (R251). -/
def State.switchesChanged (s : State) (a : Nat) : State :=
  let gone (k : Nat) : Bool :=
    let p := s.rdN (if k = 0 then K.HOME_SWITCH_POINT a else if k = 1 then K.LIMIT_NEG_POINT a else K.LIMIT_POS_POINT a)
    Nat.blt p 262144 && !fastBitInput s.cf p
  let off := [0, 1, 2].foldl (fun m k => if gone k then setBit m k true else m) (s.mot a).swOff
  if off = (s.mot a).swOff then s else s.updMot a (fun m => { m with swOff := off })

/-- The pending configuration becomes active. -/
def State.configActivate (s : State) : State :=
  let old := s.act
  let s := { s with act := replacePart isConfig s.act s.od }
  let s := foldS (fun s a => s.axisChanged a (SMap.get old (odDefault (K.AXIS_TYPE a)) (K.AXIS_TYPE a))) s (List.range 128)
  foldS State.switchesChanged s (List.range 128)

/-- A submission of the pending configuration at a cycle time: the object of the rule broken. -/
def State.configSubmit (s : State) (ct : Nat) : State × Option Nat :=
  match s.configBroken s.pendingConf ct with
  | some k =>
    let w := configWord 2 k
    (((s.wrN K.CONFIG_RESULT w).raise Ev.CFG_LIMIT w (k / 256)), some k)
  | none => (s.configActivate.wr K.CONFIG_RESULT 0, none)

/-- A write of the key to CONFIG_COMMIT. -/
def configCommit (s : State) : WRes :=
  match s.configBusy with
  | some k => (s.wrN K.CONFIG_RESULT (configWord 1 k), .refused)
  | none =>
    match s.configSubmit s.committedCt with
    | (s, some _) => (s, .refused)
    | (s, none) => .ok ((s.bump K.CONFIG_COMMITS).raise Ev.CFG_COMMIT 0 0x1801)

/-- CONFIG_COMMIT. -/
def execConfigCommit (s : State) : Res := answered (configCommit s)

/-- A write of CONFIG_DISCARD (R330): every pending value returns to its active value. -/
def configDiscard (s : State) : WRes := .ok { s with od := replacePart isConfig s.od s.act }

/-- CONFIG_DISCARD. -/
def execConfigDiscard (s : State) : Res := answered (configDiscard s)

end Sys2Proof.Machine
end

