-- ==== Sys2Proof/Machine/StoreOps.lean ====
section
/-! DEFINITION. Storing settings (R332 to R336) and the correction of shared SRAM (R337). -/

namespace Sys2Proof.Machine

open Sys2Proof

/-- The Stored column of an entry is "yes" (R16). -/
def isStored (k : Nat) : Bool := match odRow k with | some r => r.stored | none => false

/-- The entry belongs to no set with pending values (R330). -/
def isLive (k : Nat) : Bool := match odRow k with | some r => r.cls == .live | none => false

/-- Entries that RESTORE_DEFAULTS keeps (R336). -/
def keptOnRestore (k : Nat) : Bool := (Nat.ble 0x1400 (k / 256) && Nat.ble (k / 256) 0x15FF) || (Nat.ble 0x6000 (k / 256) && Nat.ble (k / 256) 0x63FF)

/-- The image in a slot. -/
def Mram.slot (m : Mram) (k : Nat) : Option Image := if k = 0 then m.slotA else m.slotB

/-- Replace the image in a slot. -/
def Mram.setSlot (m : Mram) (k : Nat) (x : Option Image) : Mram := if k = 0 then { m with slotA := x } else { m with slotB := x }

/-- The pointer word of the highest sequence number (R335): slot and sequence number. -/
def Mram.pointer (m : Mram) : Option (Nat × Nat) :=
  m.ring.foldl (fun a e => match a with
    | none => some e.2
    | some b => if b.2 < e.2.2 then some e.2 else some b) none

/-- The stored image. -/
def Mram.stored (m : Mram) : Option Image := match m.pointer with | some p => m.slot p.1 | none => none

/-- The stored entries with the values in force (R332): active values for the sets of R330, R58 and R447. -/
def State.storedOd (s : State) : SMap Int :=
  (s.act.filter (fun e => isStored e.1)).foldl (fun m e => SMap.insert m e.1 e.2)
    (s.od.filter (fun e => isStored e.1 && isLive e.1))

/-- The stored octet and text entries. -/
def State.storedB (s : State) : SMap Bytes := s.odB.filter (fun e => isStored e.1)

/-- A store or restore starts writing an image of these entries (R333, R334). -/
def State.storeStart (s : State) (od : SMap Int) (odB : SMap Bytes) : WRes :=
  let m := s.mram
  let early : Bool := match m.doneAt with
    | some d => Nat.blt s.clk.now (d + 1000000000)
    | none => false
  let size := Config.imageSize od odB
  let (slot, seq) : Nat × Nat := match m.pointer with
    | some p => (1 - p.1, p.2 + 1)
    | none => (0, 1)
  if m.storing.isSome then (s, .busy)
  else if early then (s.wr K.STORE_RESULT 3, .busy)
  else if 1048576 < size then (s.wr K.STORE_RESULT 4, .refused)
  else .ok (({ s with mram := { m with storing := some { slot := slot, image := { seq := seq, size := size, od := od, odB := odB } } } }).wr
    K.STORE_STATE 1)

/-- The write of the key to STORE (R332). -/
def store (s : State) : WRes := s.storeStart s.storedOd s.storedB

/-- STORE. -/
def execStore (t : Nat) (s : State) : Res := answered (store (s.at t))

/-- The write of the key to RESTORE_DEFAULTS (R336). -/
def restoreDefaults (s : State) : WRes :=
  match s.mram.stored with
  | some i => s.storeStart (i.od.filter (fun e => keptOnRestore e.1)) (i.odB.filter (fun e => keptOnRestore e.1))
  | none => s.storeStart [] []

/-- RESTORE_DEFAULTS. -/
def execRestoreDefaults (t : Nat) (s : State) : Res := answered (restoreDefaults (s.at t))

/-- Writes of the most-written word of MRAM that stores write: a slot's words or a pointer word (R333). -/
def Mram.mostWritten (m : Mram) : Nat := m.ptrWrites.foldl (fun a e => max a e.2) (max m.writesA m.writesB)

/-- A slot was written. -/
def Mram.wrote (m : Mram) (slot : Nat) : Mram :=
  if slot = 0 then { m with writesA := m.writesA + 1 } else { m with writesB := m.writesB + 1 }

/-- The pointer word after the last one is written (R333). -/
def Mram.point (m : Mram) (slot seq : Nat) : Mram :=
  let w := (m.last + 1) % 256
  { m with ring := SMap.insert m.ring w (slot, seq), last := w, ptrWrites := SMap.put m.ptrWrites 0 w (SMap.get m.ptrWrites 0 w + 1) }

/-- STORE_WEAR (R333), in 0.01 % of 10^9 writes. -/
def Mram.wear (m : Mram) : Int := min 10000 (roundHalfUp ((m.mostWritten : Rat) / 100000))

/-- STORE_COMPLETE (R333): writing and reading back end; `verified` says whether the CRC read back is right. -/
def execStoreComplete (verified : Bool) (t : Nat) (s : State) : Res :=
  let s := s.at t
  match s.mram.storing with
  | none => done s
  | some w =>
    let m := { s.mram.wrote w.slot with storing := none, doneAt := some s.clk.now }
    let s := s.wr K.STORE_STATE 0
    if verified then
      let m := (m.setSlot w.slot (some w.image)).point w.slot w.image.seq
      let s := ((({ s with mram := m }.wr K.STORE_RESULT 1).bump K.STORE_COUNT).wrN K.ACTIVE_SLOT w.slot).wrN K.IMAGE_SEQUENCE (w.image.seq % 2 ^ 32)
      let s := ((s.wrN K.IMAGE_SIZE w.image.size).wrN K.LAST_STORE_TIME s.wallNow).wr K.STORE_WEAR m.wear
      done (s.raise Ev.STORE_DONE 1 0x1800)
    else
      let m := m.setSlot w.slot none
      done ((({ s with mram := m }.wr K.STORE_RESULT 2).wr K.STORE_WEAR m.wear).raise Ev.STORE_FAILED 2 0x1800)

/-! ### Shared SRAM (R337) -/

/-- A single-bit error is corrected, written back and counted. -/
def State.sramCorrected (s : State) (address : Nat) : State :=
  ((s.bump K.SRAM_CORRECTED).wrN K.LAST_ECC_ADDRESS address).wr K.LAST_ECC_KIND 1

/-- SRAM_SCRUB (R337): the scrubber reads every word of shared SRAM once; `singles`: the byte addresses at which it
finds a single-bit error. -/
def execSramScrub (singles : List (BitVec 24)) (s : State) : Res :=
  if s.domainOn Dom.CORE then done (foldS (fun s a => s.sramCorrected a.toNat) s singles) else done s

end Sys2Proof.Machine
end

