-- ==== Sys2Proof/Machine/Recorder.lean ====
section
/-! DEFINITION. The event recorder (R452 to R464): rate limit, FIFO, records, reading and clearing, and steps of wall
time. -/

namespace Sys2Proof.Machine

open Sys2Proof

/-! ### Recorder codes (R460) -/

/-- OVERFLOW. -/
abbrev Rc.OVERFLOW : Nat := 0x0100
/-- CLEARED. -/
abbrev Rc.CLEARED : Nat := 0x0101
/-- TIME_SET. -/
abbrev Rc.TIME_SET : Nat := 0x0102
/-- RESET. -/
abbrev Rc.RESET : Nat := 0x0103
/-- RIDE_THROUGH. -/
abbrev Rc.RIDE_THROUGH : Nat := 0x0104

/-! ### Entries and the FIFO (R456 to R460) -/

/-- Update the recorder. -/
def State.updRecorder (s : State) (f : Recorder → Recorder) : State := { s with recorder := f s.recorder }

/-- An entry for the record of a raised instance, which holds the times and flags of its raising (R452). -/
def recEntry (x : Raised) (supp : Nat) : RecEntry :=
  { code := x.source, runTime := x.runTime / 1000, wall := x.wall.getD 0, wallValid := x.wall.isSome, cycle := x.cycle
    suppressed := min supp 65535, ptpLocked := x.ptp, junior := x.junior, data0 := x.data0, data1 := x.data1, extra := x.extra }

/-- An entry of a recorder code, raised now. -/
def State.recNow (s : State) (code d0 d1 : Nat) (extra : Bytes) : RecEntry :=
  { code := code, runTime := s.clk.now / 1000, wall := s.wallStamp.getD 0, wallValid := s.wallStamp.isSome
    cycle := if s.power = 0 then 0 else s.cycle, suppressed := 0, ptpLocked := s.ptpLocked, junior := s.rd K.DH_ROLE == 2
    data0 := d0, data1 := d1, extra := extra }

/-- Instances in the 64 entries of the FIFO (R458); records with recorder codes have places of their own (R460). -/
def Recorder.level (r : Recorder) : Nat := r.fifo.countP (fun e => Nat.blt e.code 0x100)

/-- Put an entry at the end of the FIFO. -/
def State.recPush (s : State) (e : RecEntry) : State :=
  let s := s.updRecorder (fun r => { r with fifo := r.fifo ++ [e] })
  (s.wrN K.FIFO_LEVEL_7800 s.recorder.level).wrN K.FIFO_PEAK (max (s.rdN K.FIFO_PEAK) s.recorder.level)

/-- Losses in descending count. -/
def insertLoss (x : Nat × Nat) : List (Nat × Nat) → List (Nat × Nat)
  | [] => [x]
  | y :: r => if y.2 < x.2 then x :: y :: r else y :: insertLoss x r

/-- The OVERFLOW record of the losses since the FIFO was full (R459). -/
def overflowEntry (first : RecEntry) (lost : List (Nat × Nat)) : RecEntry :=
  let l := lost.foldl (fun a x => insertLoss x a) []
  let sat (n : Nat) : Nat := min n 65535
  { first with
    code := Rc.OVERFLOW, suppressed := 0, data0 := ((l.drop 4).map (·.2)).sum, data1 := lost.length
    extra := (l.take 4).flatMap (fun e => leBytes 2 e.1 ++ leBytes 2 (sat e.2)) }

/-- The OVERFLOW record is queued once the FIFO is below full after losses (R459). -/
def State.recOverflow (s : State) : State :=
  match s.recorder.lossFirst with
  | none => s
  | some f =>
    if 64 ≤ s.recorder.level then s
    else (s.recPush (overflowEntry f s.recorder.lost)).updRecorder (fun r => { r with lost := [], lossFirst := none })

/-- RECORDER_OVERFLOW (R459). -/
def execRecorderOverflow (s : State) : Res := done s.recOverflow

/-- Count an instance lost to a full FIFO (R458). -/
def countLoss (code : Nat) : List (Nat × Nat) → List (Nat × Nat)
  | [] => [(code, 1)]
  | x :: r => if x.1 = code then (x.1, x.2 + 1) :: r else x :: countLoss code r

/-- The bucket of a source. -/
def State.bucket (s : State) (c : Nat) : Bucket := SMap.get s.recorder.buckets {} c

/-- The tokens of a source's bucket at running time `t` (R456), in 10^-11 record. -/
def State.tokensAt (s : State) (c t : Nat) : Nat :=
  let b := s.bucket c
  min (s.rdN (K.BURST c) * 10 ^ 11) (b.tokens + s.rdN (K.RATE c) * (t - b.tLast))

/-- Set a bucket. -/
def State.setBucket (s : State) (c : Nat) (b : Bucket) : State :=
  s.updRecorder (fun r => { r with buckets := SMap.put r.buckets {} c b })

/-- RECORDER_ADMIT (R456, R458): a raised instance passes its code's bucket and takes a place in the FIFO, or is
suppressed, or is lost. -/
def State.recAdmit (s : State) (x : Raised) : State :=
  let c := x.source
  let b := s.bucket c
  let n := s.tokensAt c x.runTime
  if n < 10 ^ 11 then
    (s.setBucket c { tokens := n, tLast := x.runTime, supp := b.supp + 1 }).bump (K.SUPPRESSED_COUNT c)
  else
    let e := recEntry x b.supp
    let s := (s.setBucket c { tokens := n - 10 ^ 11, tLast := x.runTime, supp := 0 }).recOverflow
    if s.recorder.level < 64 then s.recPush e
    else (s.bump K.INSTANCES_LOST).updRecorder (fun r => { r with
      lost := countLoss c r.lost, lossFirst := some (r.lossFirst.getD e) })

/-- RIDE_THROUGH (R460): two cycles passed without an interrupted one after a fault. -/
def execRideThrough (s : State) : Res :=
  match s.recorder.rides.find? (fun r => Nat.ble 2 r.quiet) with
  | none => done s
  | some r =>
    let e := s.recNow Rc.RIDE_THROUGH r.source (min r.axes.length 255 + 256 * min r.longest 255) []
    done ((s.recPush e).updRecorder (fun q => { q with rides := q.rides.erase r }))

/-! ### Records (R452, R453) -/

/-- The 64 octets of a record. -/
def recBytes (seq : Nat) (e : RecEntry) : Bytes :=
  let b := leBytes 6 seq ++ leBytes 2 e.code ++ leBytes 8 e.runTime ++ leBytes 8 e.wall ++ leBytes 4 e.cycle ++ leBytes 2 e.suppressed
    ++ leBytes 1 (b2n e.wallValid + 2 * b2n e.ptpLocked + 4 * b2n e.junior) ++ [0] ++ leBytes 4 e.data0 ++ leBytes 4 e.data1
    ++ padTo 16 e.extra
  b ++ leBytes 4 (crc32c b) ++ leBytes 4 (Nat.xor (seq % 2 ^ 32) 0xA5A5_A5A5)

/-- Slots of the ring. -/
abbrev ringSlots : Nat := 16384

/-- A CLEARED record commits (R462): it names what it hides. -/
def State.clearedData (s : State) (e : RecEntry) (seq : Nat) : RecEntry :=
  if e.code = Rc.CLEARED then { e with data0 := s.rdN K.OLDEST_SEQ % 2 ^ 32, data1 := (seq - 1) % 2 ^ 32 } else e

/-- RECORD_WRITE (R453, R458): the oldest entry is written as the next record, at most one per 500 µs. -/
def execRecordWrite (t : Nat) (s : State) : Res :=
  let s := s.at t
  let due : Bool := match s.recorder.lastWrite with
    | some w => s.elapsed w 500000
    | none => true
  match s.recorder.fifo with
  | [] => done s
  | e :: rest =>
    if due = false then done s
    else
      let seq := s.rdN K.NEXT_SEQ
      let b := recBytes seq (s.clearedData e seq)
      let s := s.updRecorder (fun r => { r with
        fifo := rest, ring := SMap.insert r.ring (seq % ringSlots) b, lastWrite := some s.clk.now })
      let s := (s.wrN K.NEXT_SEQ ((seq + 1) % 2 ^ 48)).wrN K.FIFO_LEVEL_7800 s.recorder.level
      let s := if s.rdN K.OLDEST_SEQ + ringSlots ≤ seq then s.wrN K.OLDEST_SEQ (seq + 1 - ringSlots) else s
      let s := if e.code = Rc.OVERFLOW then s.bump K.OVERFLOW_RECORDS else s
      done (if e.code = Rc.CLEARED then (s.wrN K.FIRST_VALID_SEQ seq).bump K.CLEARS else s)

/-! ### Reading and clearing (R461, R462) -/

/-- A slot holds the valid record of a sequence number (R453). -/
def recValid (seq : Nat) (b : Bytes) : Bool :=
  uAt b 0 6 == seq && uAt b 56 4 == crc32c (b.take 56) && uAt b 60 4 == Nat.xor (seq % 2 ^ 32) 0xA5A5_A5A5

/-- Records from a sequence number on, at most `n` of them within `fuel` slots (R461): their octets and the number after
the last one returned. -/
def State.recordsFrom (s : State) : Nat → Nat → Nat → Nat → Bytes × Nat
  | 0, _, _, after => ([], after)
  | fuel + 1, n, seq, after =>
    if n = 0 ∨ s.rdN K.NEXT_SEQ ≤ seq then ([], after)
    else match SMap.find s.recorder.ring (seq % ringSlots) with
      | none => ([], after)
      | some b =>
        if recValid seq b = false then ([], after)
        else if seq < s.rdN K.FIRST_VALID_SEQ ∧ uAt b 6 2 ≠ Rc.CLEARED then s.recordsFrom fuel n (seq + 1) after
        else
          let r := s.recordsFrom fuel (n - 1) (seq + 1) (seq + 1)
          (b ++ r.1, r.2)

/-- A read of RECORD_READ by a session (R461). -/
def State.recordRead (s : State) (n : Nat) : State × Bytes :=
  let from_ := max (s.rdN (K.READ_SEQ n)) (s.rdN K.OLDEST_SEQ)
  let r := s.recordsFrom ringSlots 125 from_ (s.rdN (K.READ_SEQ n))
  (s.wrN (K.READ_SEQ n) r.2, r.1)

/-- RECORD_READ. -/
def execRecordRead (session : Fin 10) (s : State) : Res :=
  let r := s.recordRead session.val
  done (r.1.emit (.value r.2))

/-- The write of the key to CLEAR (R462). -/
def State.clearRecords (s : State) (role session : Nat) : WRes :=
  if s.recorder.fifo.any (fun e => e.code == Rc.CLEARED) then (s, .busy)
  else .ok (s.recPush (s.recNow Rc.CLEARED 0 0 (leBytes 1 role ++ leBytes 1 session)))

/-- CLEAR. -/
def execClear (w : Who) (t : Nat) (s : State) : Res :=
  let s := s.at t
  answered (if w.role.val < 4 then (s, .role) else s.clearRecords w.role.val w.session.val)

/-- Rate and burst floors of groups 2 and 12 (R457). -/
def recFloor (c : Nat) : Bool := c / 16 == 2 || c / 16 == 12

/-! ### Wall time (R454, R455, R486) -/

/-- Wall time is set to `new` (ns TAI at this instant); a step of more than 1 µs waits for its record. -/
def State.wallSet (s : State) (cause new : Nat) (valid : Bool) : State :=
  let old := s.wallNow
  let s := ({ s with clk := { s.clk with wall := some ((new : Int) - s.clk.now) } }).wr K.WALL_VALID (b2i valid)
  if old + 1000 < new ∨ new + 1000 < old then
    s.updRecorder (fun r => { r with steps := r.steps ++ [s.recNow Rc.TIME_SET cause 0 (leBytes 8 old ++ leBytes 8 new)] })
  else s

/-- TIME_SET (R455): the record of a step is queued. -/
def execTimeSet (s : State) : Res :=
  match s.recorder.steps with
  | [] => done s
  | e :: rest => done ((s.updRecorder (fun r => { r with steps := rest })).recPush e)

/-- The write of WALL_TIME_SET (R486). -/
def State.wallTimeSet (s : State) (v : Nat) : WRes :=
  if s.ptpLocked then (s, .refused) else .ok (s.wallSet 2 v true)

/-- WALL_TIME_SET. -/
def execWallTimeSet (v : BitVec 64) (t : Nat) (s : State) : Res := answered ((s.at t).wallTimeSet v.toNat)

end Sys2Proof.Machine
end

