-- ==== Sys2Proof/Machine/Notify.lean ====
section
/-! DEFINITION. Events and notification channels (R339 to R342) and notifications to sessions (R364). -/

namespace Sys2Proof.Machine

open Sys2Proof

/-- A notification channel. -/
def State.channel (s : State) (c : Nat) : Channel := SMap.get s.channels {} c

/-- Replace a channel; CHANNEL_PENDING follows. -/
def State.setChannel (s : State) (c : Nat) (x : Channel) : State :=
  ({ s with channels := SMap.put s.channels {} c x }).wrN (K.CHANNEL_PENDING c) x.queue.length

/-- Session states by number (R354): 0 CLOSED, 1 HANDSHAKE, 2 HELLO_WAIT, 3 ACTIVE; a session over CAN is ACTIVE while its
controller is ERROR_ACTIVE or ERROR_PASSIVE and TOA_ENABLE is 1 (R380). -/
def State.sessionState (s : State) (n : Nat) : Nat :=
  if n < 8 then s.rdN (K.SESSION_STATE n)
  else
    let c := n - 8
    let st := s.rd (K.CAN_STATE c)
    if s.rd (K.TOA_ENABLE c) = 1 ∧ (st = 2 ∨ st = 3) then 3 else 0

/-- A session. -/
def State.session (s : State) (n : Nat) : Session := SMap.get s.sessions {} n
/-- Replace a session. -/
def State.setSession (s : State) (n : Nat) (x : Session) : State := { s with sessions := SMap.put s.sessions {} n x }
/-- Update a session. -/
def State.updSession (s : State) (n : Nat) (f : Session → Session) : State := s.setSession n (f (s.session n))

/-- The sessions subscribed to a channel (R341). -/
def State.subscribers (s : State) (c : Nat) : List Nat :=
  (List.range 8).filter (fun n => s.sessionState n == 3 && bit (s.session n).channels c)

/-- NOTIFY_PULSE (R341): an instance placed in a channel pulses its pin; instances of one clock give one pulse. -/
def State.notifyPulse (s : State) (c : Nat) : State :=
  let pin := s.rdN (K.CHANNEL_PIN c)
  let o := Out.evtOut (pin - 1) s.clk.now (10 * s.rdN (K.CHANNEL_PULSE c))
  if pin = 0 ∨ s.clk.evtNotify.contains (pin - 1) = false ∨ s.out.contains o then s else s.emit o

/-- An instance takes the channel's next CHANNEL_SEQ, pulses, and is queued if there is a path and place (R340, R342). -/
def State.placeIn (s : State) (c source cycle netTime d0 d1 : Nat) : State :=
  let x := s.channel c
  let i : EventInst := { source := source, channel := c, seq := x.seq, cycle := cycle, netTime := netTime, data0 := d0, data1 := d1 }
  let x := { x with seq := (x.seq + 1) % 65536 }
  let toa := s.subscribers c
  let can := s.rd (K.CHANNEL_CAN c) != 0
  let s := s.notifyPulse c
  if toa.isEmpty ∧ can = false then s.setChannel c x
  else if 64 ≤ x.queue.length then
    ((s.setChannel c { x with dropped := x.dropped + 1 }).bump (K.CHANNEL_LOST c)).bump K.NOTIFY_DROPPED
  else
    let q : Queued := { inst := i, order := s.placed, placedAt := s.clk.now, toaWaiting := toa, canWaiting := can }
    ({ s with placed := s.placed + 1 }).setChannel c { x with queue := x.queue ++ [q] }

/-- An instance is counted, offered to the performance counters and the recorder (R340, R415, R456). -/
def State.countEvent (s : State) (x : Raised) : State :=
  (((s.bump (K.SOURCE_COUNT x.source)).bump K.EVENTS_RAISED).perf 12 x.source 1).recAdmit x

/-- NOTIFY_OVERFLOW is placed in a channel whose queue has space after drops (R342). -/
def State.overflowPlace (s : State) (c : Nat) : State :=
  let x := s.channel c
  if x.dropped = 0 ∨ 64 ≤ x.queue.length then s
  else
    let cyc := if s.power = 0 then 0 else s.cycle
    let r : Raised := { source := Ev.NOTIFY_OVERFLOW, data0 := x.dropped % 2 ^ 32, data1 := c, cycle := cyc
                        netTime := s.netNow, runTime := s.clk.now, extra := []
                        wall := s.wallStamp, ptp := s.ptpLocked, junior := s.rd K.DH_ROLE == 2 }
    ((s.setChannel c { x with dropped := 0 }).countEvent r).placeIn c Ev.NOTIFY_OVERFLOW cyc s.netNow r.data0 c

/-- NOTIFY_OVERFLOW (R342). -/
def execNotifyOverflow (channel : Fin 16) (s : State) : Res := done (s.overflowPlace channel.val)

/-- The raised instance that is placed next (R340): of those raised in the first one's clock, the least source and then
the least DATA0. -/
def nextRaised : List Raised → Option Raised
  | [] => none
  | x :: r => some ((r.filter (fun y => y.runTime == x.runTime)).foldl
      (fun a y => if y.source < a.source ∨ (y.source = a.source ∧ y.data0 < a.data0) then y else a) x)

/-- The channel a source's instances are placed in (R340). -/
def State.channelOf (s : State) (source : Nat) : Option Nat :=
  let c := s.rdN (K.GROUP_CHANNEL (source / 16))
  if Nat.beq source 255 || !bit (s.rdN (K.SOURCE_MASK (source / 32))) (source % 32) || !Nat.blt c 16 then none else some c

/-- EVENT_PLACE (R340): the instance is counted, triggers an acquisition (R409), passes to the recorder (R456) and is
placed in its channel. -/
def execEventPlace (s : State) : Res :=
  match nextRaised s.raised with
  | none => done s
  | some x =>
    let s : State := { s with raised := s.raised.erase x }.countEvent x
    let hit : Bool := s.rd K.TRIG_KIND == 4 && Nat.beq (s.rdN K.TRIG_REF) x.source
    let s : State := if hit then s.acqTrigger x.netTime 0 true else s
    match s.channelOf x.source with
    | none => done s
    | some c => done ((s.overflowPlace c).placeIn c x.source x.cycle x.netTime x.data0 x.data1)

/-! ### Paths of a channel (R342) -/

/-- Some instances of a channel are done with a path; those with no path left leave the queue. -/
def State.retire (s : State) (c : Nat) (f : Queued → Queued) : State :=
  let x := s.channel c
  s.setChannel c { x with queue := (x.queue.map f).filter (fun q => !q.toaWaiting.isEmpty || q.canWaiting) }

/-- A session no longer takes instances of the channels `p` picks. -/
def State.retireSession (s : State) (n : Nat) (p : Nat → Bool) : State :=
  foldS (fun s c => if p c then s.retire c (fun q => { q with toaWaiting := q.toaWaiting.filter (· != n) }) else s) s (List.range 16)

/-- Insert an instance in the order of placement. -/
def insertQueued (x : Queued) : List Queued → List Queued
  | [] => [x]
  | y :: r => if x.order < y.order then x :: y :: r else y :: insertQueued x r

/-- The instances that wait for a session, in the order they were placed. -/
def State.waitingFor (s : State) (n : Nat) : List Queued :=
  let l := (List.range 16).flatMap (fun c => (s.channel c).queue.filter (fun q => q.toaWaiting.contains n))
  l.foldl (fun a x => insertQueued x a) []

/-- The octets of an event instance (R340). -/
def EventInst.bytes (i : EventInst) : Bytes :=
  leBytes 1 i.source ++ leBytes 1 i.channel ++ leBytes 2 i.seq ++ leBytes 4 i.cycle ++ leBytes 8 i.netTime ++ leBytes 4 i.data0
    ++ leBytes 4 i.data1

/-- A TOA part (R356). -/
def toaPart (kind tag gen service status part parts flags : Nat) (body : Bytes) : Bytes :=
  leBytes 1 1 ++ leBytes 1 kind ++ leBytes 1 tag ++ leBytes 1 gen ++ leBytes 1 service ++ leBytes 1 status ++ leBytes 1 part
    ++ leBytes 1 parts ++ leBytes 2 body.length ++ leBytes 1 flags ++ [0] ++ body

/-- NOTIFICATION_SEND (R364): up to 50 instances go to a subscribed session, once 50 are ready or NOTIFY_HOLDOFF has passed
since the first of them was placed. -/
def execNotificationSend (session : Fin 8) (t : Nat) (s : State) : Res :=
  let s := s.at t
  let n := session.val
  match s.waitingFor n with
  | [] => done s
  | q :: r =>
    if s.sessionState n ≠ 3 ∨ ((q :: r).length < 50 ∧ s.elapsed q.placedAt (1000 * s.rdN K.NOTIFY_HOLDOFF) = false) then done s
    else
      let l := (q :: r).take 50
      let (s, service) := s.draw
      let s := s.emit (.toa n [toaPart 3 0 0 (service % 256) 0 0 1 0 (l.flatMap (fun q => q.inst.bytes))])
      let sent (q : Queued) : Queued :=
        if l.any (fun x => x.order == q.order) then { q with toaWaiting := q.toaWaiting.filter (· != n) } else q
      done (foldS (fun s c => if (s.channel c).queue.isEmpty then s else s.retire c sent) s (List.range 16))

end Sys2Proof.Machine
end

