-- ==== Sys2Proof/Machine/Session.lean ====
section
/-! DEFINITION. TOA sessions (R353, R354, R380): opening and closing, answers and their parts (R356 to R358), and the
frames that carry a part over CAN (R381). -/

namespace Sys2Proof.Machine

open Sys2Proof

/-- The role of a session (R353, R380). -/
def State.sessionRole (s : State) (n : Nat) : Nat := if n < 8 then s.rdN (K.SESSION_ROLE n) else s.rdN (K.TOA_ROLE (n - 8))

/-- EXTRA of the events of group 2 for a session (R463). -/
def State.sessionExtra (s : State) (n : Nat) : Bytes :=
  leBytes 1 (s.sessionRole n) ++ leBytes 1 n ++ [0, 0] ++ leBytes 4 (if n < 8 then s.rdN (K.SESSION_PEER n) else 0)

/-- EXTRA for a peer without a session. -/
def peerExtra (peer : Nat) : Bytes := [0, 0xFF, 0, 0] ++ leBytes 4 peer

/-! ### Frames of a part over CAN (R381) -/

/-- Data lengths of the codes of a DLC. -/
def fdLengths : List Nat := [0, 1, 2, 3, 4, 5, 6, 7, 8, 12, 16, 20, 24, 32, 48, 64]

/-- The least DLC whose data length holds `n` bytes. -/
def dlcFor (n : Nat) : Nat := (fdLengths.takeWhile (fun l => Nat.blt l n)).length

/-- The data length of a DLC; 8 at most without FDF. -/
def dlcBytes (fdf : Bool) (dlc : Nat) : Nat :=
  let n := fdLengths.getD dlc 64
  if fdf then n else min 8 n

/-- Cut octets into pieces of `n`, at least one piece. -/
def cut (n : Nat) : Nat → Bytes → List Bytes
  | 0, b => [b]
  | fuel + 1, b => if b.length ≤ n then [b] else b.take n :: cut n fuel (b.drop n)

/-- The identifier word of a frame the controller sends: base or extended identifier with FDF and BRS by format. -/
def State.canIdWord (s : State) (c id : Nat) : Nat :=
  let f := s.rd (K.TOA_FORMAT c)
  id % 2 ^ 30 + (if f = 0 then 0 else 2 ^ 30) + (if f = 2 then 2 ^ 31 else 0)

/-- A frame with these data bytes, padded in an FD format. -/
def State.canDataFrame (s : State) (c id : Nat) (data : Bytes) : CanFrame :=
  let w := s.canIdWord c id
  let dlc := dlcFor data.length
  { id := w, dlc := dlc, flags := 0, time := 0, data := padTo (dlcBytes (bit w 30) dlc) data }

/-- The frames of a response part. -/
def State.canPart (s : State) (c : Nat) (part : Bytes) : List CanFrame :=
  let l := cut (if s.rd (K.TOA_FORMAT c) = 0 then 7 else 63) part.length part
  (List.range l.length).map (fun i =>
    let ctl := i % 64 + (if i + 1 = l.length then 64 else 0) + (if i = 0 then 128 else 0)
    s.canDataFrame c (s.rdN (K.TOA_TX_ID c)) (leBytes 1 ctl ++ l.getD i []))

/-- A CAN controller. -/
def State.can (s : State) (c : Nat) : Can := SMap.get s.cans {} c
/-- Replace a controller. -/
def State.setCan (s : State) (c : Nat) (x : Can) : State := { s with cans := SMap.put s.cans {} c x }
/-- Update a controller. -/
def State.updCan (s : State) (c : Nat) (f : Can → Can) : State := s.setCan c (f (s.can c))

/-! ### Answers (R357, R358) -/

/-- The parts of a message. -/
def toaParts (kind tag gen service status : Nat) (body : Bytes) : List Bytes :=
  let l := cut 1200 8 body
  (List.range l.length).map (fun i => toaPart kind tag gen service status i l.length 0 (l.getD i []))

/-- Send a response of a session. -/
def State.reply (s : State) (n tag gen service status : Nat) (body : Bytes) : State :=
  let parts := toaParts 2 tag gen service status body
  if n < 8 then s.emit (.toa n parts)
  else s.updCan (n - 8) (fun x => { x with tx := x.tx ++ parts.flatMap (s.canPart (n - 8)) })

/-- The request is in progress in the session. -/
def Session.holds (x : Session) (tag gen : Nat) : Bool := x.reqs.any (fun r => r.tag == tag && r.gen == gen)

/-- Complete a request of a session (R358): it is answered, its generation and response are kept. -/
def State.respond (s : State) (n tag gen service status : Nat) (body : Bytes) : State :=
  if (s.session n).holds tag gen then
    let kept : Kept := { tag := tag, gen := gen, service := service, status := status, body := body }
    (s.reply n tag gen service status body).updSession n (fun x => { x with
      reqs := x.reqs.filter (fun r => !(r.tag == tag && r.gen == gen))
      kept := (x.kept ++ [kept]).drop ((x.kept.length + 1) - 32)
      completed := SMap.put x.completed none tag (some gen) })
  else s

/-! ### Parts and requests (R355 to R359) -/

/-- Status codes of TOA beyond those of R325. -/
abbrev Toa.TIMEOUT : Nat := 13
/-- ABORTED. -/
abbrev Toa.ABORTED : Nat := 14
/-- BAD_MESSAGE. -/
abbrev Toa.BAD_MESSAGE : Nat := 15
/-- TOO_MANY. -/
abbrev Toa.TOO_MANY : Nat := 16
/-- ISLAND_UNAVAILABLE. -/
abbrev Toa.ISLAND_UNAVAILABLE : Nat := 17
/-- STALE_REPEAT. -/
abbrev Toa.STALE_REPEAT : Nat := 18

/-- A part's header is as R356 has it, for a REQUEST or an ABORT of the host. -/
def partOk (b : Bytes) : Bool :=
  let kind := uAt b 1 1
  Nat.ble 12 b.length && uAt b 0 1 == 1 && (kind == 1 || kind == 4) && Nat.blt (uAt b 3 1) 4 && uAt b 5 1 == 0
    && Nat.ble 1 (uAt b 7 1) && Nat.ble (uAt b 7 1) 7 && Nat.blt (uAt b 6 1) (uAt b 7 1) && Nat.ble (uAt b 8 2) 1200
    && Nat.ble (12 + uAt b 8 2) b.length && Nat.ble (uAt b 10 1) 1 && uAt b 11 1 == 0

/-- Read a part. -/
def partOf (b : Bytes) (t : Nat) : Part :=
  { tag := uAt b 2 1, gen := uAt b 3 1, service := uAt b 4 1, flags := uAt b 10 1, part := uAt b 6 1, parts := uAt b 7 1
    body := slice b 12 (uAt b 8 2), at_ := t }

/-- The parts belong to one message. -/
def Part.same (x y : Part) : Bool := x.tag == y.tag && x.gen == y.gen

/-- Abort a request (R359): one that is not sequenced yet, or waits on an island's mailbox, whose transaction is aborted
(R125). -/
def State.abortReq (s : State) (n tag gen : Nat) : State :=
  match (s.session n).reqs.find? (fun r => r.tag == tag && r.gen == gen) with
  | none => s
  | some r => match r.wait with
    | .turn => s.respond n tag gen r.service Toa.ABORTED []
    | .island k mt mg =>
      let s := s.updIsland k (fun i => { i with
        mbx := i.mbx.filter (fun m => !(m.tag == mt && m.gen == mg)), aborts := i.aborts ++ [(mt, mg)] })
      s.respond n tag gen r.service Toa.ABORTED []
    | .power => s

/-- The password of a request body (R361): none where the flag is not set, no answer where its form is wrong. -/
def passwordOf (flags : Nat) (body : Bytes) : Option (Option Bytes × Bytes) :=
  if bit flags 0 then
    let n := uAt body 0 1
    if Nat.ble 8 n && Nat.ble n 32 && Nat.ble (1 + n) body.length then some (some (slice body 1 n), body.drop (1 + n)) else none
  else some (none, body)

/-- A request is complete (R354, R357, R358). -/
def State.requestIn (s : State) (n : Nat) (p : Part) (body : Bytes) : State :=
  let x := s.session n
  let push (pw : Option Bytes) (b : Bytes) : State := s.updSession n (fun x => { x with
    reqs := x.reqs ++ [{ tag := p.tag, gen := p.gen, service := p.service, pw := pw, body := b, wait := .turn }] })
  let bad : State := (push none []).respond n p.tag p.gen p.service Toa.BAD_MESSAGE []
  if x.holds p.tag p.gen then s.bump K.DUPLICATES
  else if SMap.get x.completed none p.tag = some p.gen then
    match x.kept.reverse.find? (fun k => k.tag == p.tag && k.gen == p.gen) with
    | some k => (s.bump K.DUPLICATES).reply n k.tag k.gen k.service k.status k.body
    | none => s.reply n p.tag p.gen p.service Toa.STALE_REPEAT []
  else if 16 ≤ x.reqs.length then s.reply n p.tag p.gen p.service Toa.TOO_MANY []
  else if 8192 < body.length ∨ 8 < p.service ∨ (s.sessionState n = 2 ∧ p.service ≠ 0) ∨
      (bit p.flags 0 = true ∧ (8 ≤ n ∨ (p.service ≠ 2 ∧ p.service ≠ 4))) then bad
  else match passwordOf p.flags body with
    | none => bad
    | some (pw, b) => push pw b

/-- A part arrives in a session (R356, R357). -/
def State.partIn (s : State) (n : Nat) (b : Bytes) : State :=
  let s := s.updSession n (fun x => { x with lastAt := s.clk.now })
  if partOk b = false then s.bump K.BAD_MESSAGES
  else
    let p := partOf b s.clk.now
    if uAt b 1 1 = 4 then s.abortReq n p.tag p.gen
    else
      let l := (s.session n).parts.filter p.same
      if l.any (fun q => q.parts != p.parts || q.service != p.service || q.flags != p.flags) then s.bump K.BAD_MESSAGES
      else
        let l := if l.any (fun q => q.part == p.part) then l else l ++ [p]
        let rest := (s.session n).parts.filter (fun q => !p.same q)
        if l.length < p.parts then s.updSession n (fun x => { x with parts := rest ++ l })
        else
          let body := (List.range p.parts).flatMap (fun i => ((l.find? (fun q => q.part == i)).map (·.body)).getD [])
          ((s.updSession n (fun x => { x with parts := rest })).perf 17 n 1).requestIn n p body

/-- TOA_PART_RECEIVED (R355 to R358): a DTLS record arrives for an uplink session; `good`: its integrity, epoch and sequence
number pass. -/
def execToaPartReceived (session : Fin 8) (good : Bool) (b : Bytes) (t : Nat) (s : State) : Res :=
  let s := s.at t
  let n := session.val
  if good = false then done (s.bump K.BAD_MESSAGES)
  else if s.sessionState n < 2 then done s
  else done (s.partIn n b)

/-- TOA_REASSEMBLY_TIMEOUT (R357): messages still incomplete 1 s after their first part are discarded. -/
def execToaReassemblyTimeout (session : Fin 10) (t : Nat) (s : State) : Res :=
  let s := s.at t
  let n := session.val
  let l := (s.session n).parts
  let firsts := l.filter (fun p => match l.find? p.same with
    | some q => q == p
    | none => false)
  let old := firsts.filter (fun p => Nat.ble (p.at_ + 1000000000) s.clk.now)
  if old.isEmpty then done s
  else done ((s.updSession n (fun x => { x with parts := x.parts.filter (fun p => !old.any p.same) })).bumpBy K.BAD_MESSAGES old.length)

/-- ABORT (R359). -/
def execAbort (session : Fin 10) (tag : Fin 256) (gen : Fin 4) (s : State) : Res :=
  if 2 ≤ s.sessionState session.val then done (s.abortReq session.val tag.val gen.val) else done s

/-! ### Closing (R354, R380, R418) -/

/-- A session ends: its parts, requests, kept responses and subscriptions are gone, and its counter grant. -/
def State.endSession (s : State) (n : Nat) : State :=
  let s := s.retireSession n (fun _ => true)
  (s.setSession n {}).wrN K.SESSION_COUNTER_GRANT (setBit (s.rdN K.SESSION_COUNTER_GRANT) n false)

/-- SESSIONS_OPEN follows the session states. -/
def State.countSessions (s : State) : State :=
  s.wrN K.SESSIONS_OPEN ((List.range 8).countP (fun n => s.sessionState n != 0))

/-- An uplink session becomes CLOSED. -/
def State.closeSession (s : State) (n : Nat) : State :=
  let st := s.sessionState n
  if 8 ≤ n ∨ st = 0 then s
  else
    let s := if st = 1 then s else s.raiseU Ev.SESSION_CLOSED none none (s.sessionExtra n)
    ((s.endSession n).zero [K.SESSION_STATE n, K.SESSION_ROLE n, K.SESSION_PEER n]).countSessions

/-- A session in HELLO_WAIT or ACTIVE closes. -/
def State.closeOpen (s : State) (n : Nat) : State := if 2 ≤ s.sessionState n then s.closeSession n else s

end Sys2Proof.Machine
end

