-- ==== Sys2Proof/Machine/Can.lean ====
section
/-! DEFINITION. The CAN controllers (R366 to R383): mode and timing checks, reception and acceptance, transmit buffers,
errors and controller states, TOA over CAN and notification frames. -/

namespace Sys2Proof.Machine

open Sys2Proof

/-! ### Controller and buffers -/

/-- CAN_STATE (R379): 0 OFF, 1 INTEGRATING, 2 ERROR_ACTIVE, 3 ERROR_PASSIVE, 4 BUS_OFF, 5 RECOVERING. -/
def State.canState (s : State) (c : Nat) : Nat := s.rdN (K.CAN_STATE c)

/-- The controller takes part in traffic. -/
def State.canOn (s : State) (c : Nat) : Bool := (s.canState c == 2 || s.canState c == 3) && s.ioClock

/-- A transmit buffer (R375). -/
def Can.buf (x : Can) (b : Nat) : TxBuf := if b = 0 then x.buf0 else if b = 1 then x.buf1 else x.buf2
/-- Replace a transmit buffer. -/
def Can.setBuf (x : Can) (b : Nat) (y : TxBuf) : Can :=
  if b = 0 then { x with buf0 := y } else if b = 1 then { x with buf1 := y } else { x with buf2 := y }

/-- The code of a buffer's state in TX_STATUS. -/
def TxState.code : TxState → Nat
  | .empty => 0
  | .pending => 1
  | .active => 2
  | .transmitted => 3
  | .cancelled => 4
  | .failed => 5

/-- A buffer's status octet. -/
def TxBuf.status (b : TxBuf) : Nat := b.state.code + 16 * b.cause

/-- The readouts of a controller follow its FIFO and buffers. -/
def State.canShow (s : State) (c : Nat) : State :=
  let x := s.can c
  (((s.wrN (K.TX_STATUS_2 c) x.buf2.status).wrN (K.TX_STATUS_0_1 c) (x.buf0.status + 256 * x.buf1.status)).wrN
    (K.RX_FIFO_LEVEL c) x.fifo.length).wr (K.HP_FULL c) (b2i x.hp.isSome)

/-- Update a controller with its readouts. -/
def State.canUpd (s : State) (c : Nat) (f : Can → Can) : State := (s.updCan c f).canShow c

/-- A buffer is PENDING or ACTIVE. -/
def TxBuf.busy (b : TxBuf) : Bool := b.state == .pending || b.state == .active

/-- The buffer on the bus. -/
def Can.active (x : Can) : Option Nat := [0, 1, 2].find? (fun b => (x.buf b).state == .active)

/-- An instance that a notification frame carried is done with its CAN path (R342, R379). -/
def State.canNotified (s : State) (i : Option (Fin 16 × Nat)) : State :=
  match i with
  | none => s
  | some (ch, order) => s.retire ch.val (fun q => if q.order = order then { q with canWaiting := false } else q)

/-- A buffer ends in a state with a cause. A notification frame that is not TRANSMITTED loses its instance. -/
def State.bufEnds (s : State) (c b : Nat) (st : TxState) (cause : Nat) : State :=
  let y := (s.can c).buf b
  let s := s.canUpd c (fun x => x.setBuf b { y with state := st, cause := cause, cancel := false, inst := none })
  let s := s.canNotified y.inst
  match y.inst, st with
  | none, _ => s
  | _, .transmitted => s
  | some (ch, _), _ => (s.bump (K.CHANNEL_LOST ch.val)).bump K.NOTIFY_DROPPED

/-- A buffer fails under ONE_SHOT (R377). -/
def State.bufFails (s : State) (c b cause : Nat) : State :=
  ((s.bufEnds c b .failed cause).bump (K.TX_FAILED c)).raiseU Ev.CAN_TX_FAILED (some c) none []

/-- The session over CAN ends (R380): what it held is gone, and the frame of a response is cancelled. -/
def State.canSessionEnds (s : State) (c : Nat) : State :=
  let s := (s.endSession (8 + c)).updCan c (fun x => { x with tx := [], rx := none })
  match ((s.can c).buf 0).state with
  | .pending => s.bufEnds c 0 .cancelled 0
  | .active => s.updCan c (fun x => x.setBuf 0 { x.buf0 with cancel := true })
  | _ => s

/-- The controller state changes; its session lasts while it is ERROR_ACTIVE or ERROR_PASSIVE (R380). -/
def State.canGoto (s : State) (c st : Nat) : State :=
  let was := s.sessionState (8 + c)
  let s := s.wrN (K.CAN_STATE c) st
  if was = 3 ∧ s.sessionState (8 + c) ≠ 3 then s.canSessionEnds c else s

/-- PENDING and ACTIVE buffers fail with BUS_OFF (R377). -/
def State.bufsFail (s : State) (c : Nat) : State :=
  foldS (fun s b => if ((s.can c).buf b).busy then s.bufEnds c b .failed 8 else s) s [0, 1, 2]

/-! ### Mode and timing (R369, R379) -/

/-- CONFIG_FAULT of the timing objects, 0 for none (R369). -/
def State.canFault (s : State) (c : Nat) : Nat :=
  let v (k : Nat) : Nat := s.rdN k
  let nominal := v (K.NBRP c) * (1 + v (K.NTSEG1 c) + v (K.NTSEG2 c))
  let quanta := 1 + v (K.DTSEG1 c) + v (K.DTSEG2 c)
  if nominal < 80 then 1
  else if v (K.FD_ENABLE c) = 1 ∧ v (K.DBRP c) * quanta < 10 then 2
  else if v (K.NTSEG2 c) < v (K.NSJW c) then 3
  else if v (K.DTSEG2 c) < v (K.DSJW c) then 4
  else if quanta < 5 then 5
  else if v (K.TDC_ENABLE c) = 1 ∧ 2 < v (K.DBRP c) then 6
  else 0

/-- The controller becomes OFF (R379). -/
def State.canOff (s : State) (c : Nat) : State :=
  if s.canState c = 0 then s
  else ((s.bufsFail c).canUpd c (fun x => { x with fifo := [], lossy := false, hp := none })).canGoto c 0

/-- The write of CAN_MODE (R369, R379). -/
def canModeWrite (c v : Nat) (s : State) : WRes :=
  if v = 0 then .ok ((s.wr (K.CAN_MODE c) 0).canOff c)
  else if s.canFault c ≠ 0 then (s.wrN (K.CONFIG_FAULT c) (s.canFault c), .refused)
  else
    let s := (s.wrN (K.CAN_MODE c) v).wr (K.CONFIG_FAULT c) 0
    if s.canState c = 0 ∧ s.domainOn Dom.IFC then .ok (((s.wr (K.TEC c) 0).wr (K.REC c) 0).canGoto c 1) else .ok s

/-- CAN_MODE_WRITE. -/
def execCanModeWrite (c : Fin 2) (v : Fin 3) (s : State) : Res := answered (canModeWrite c.val v.val s)

/-- CAN_INTEGRATED (R379): 11 consecutive recessive bits. -/
def execCanIntegrated (c : Fin 2) (s : State) : Res :=
  if s.canState c.val = 1 ∧ s.ioClock then done (s.canGoto c.val 2) else done s

/-! ### Error counters and states (R379) -/

/-- Recovery from BUS_OFF starts. -/
def State.canRecover (s : State) (c : Nat) : State := if s.canState c = 4 then s.canGoto c 5 else s

/-- The state follows the error counters, which were `tec` and `rec0` before. -/
def State.canLevels (s : State) (c tec rec0 : Nat) : State :=
  let t := s.rdN (K.TEC c)
  let r := s.rdN (K.REC c)
  let st := s.canState c
  if st ≠ 2 ∧ st ≠ 3 then s
  else if 255 < t then
    let s := (((s.bufsFail c).canGoto c 4).bump (K.BUS_OFF_COUNT c)).raiseU Ev.CAN_BUS_OFF (some c) none []
    if s.rd (K.BUSOFF_AUTO c) = 1 then s.canRecover c else s
  else if st = 2 then
    let s := if tec < 96 ∧ rec0 < 96 ∧ (96 ≤ t ∨ 96 ≤ r) then s.raiseU Ev.CAN_ERROR_WARNING (some c) none [] else s
    if 127 < t ∨ 127 < r then (s.canGoto c 3).raiseU Ev.CAN_ERROR_PASSIVE (some c) none [] else s
  else if t ≤ 127 ∧ r ≤ 127 then (s.canGoto c 2).raiseU Ev.CAN_ERROR_ACTIVE (some c) none []
  else s

/-- CAN_ERROR (R377 to R379): the controller detects an error of a type (LAST_ERROR code) and its counters rise by the
amounts ISO 11898-1 sets for the case. -/
def execCanError (c : Fin 2) (error : Fin 7) (tecUp recUp : Fin 256) (s : State) : Res :=
  let c := c.val
  if s.canOn c = false ∨ error.val = 0 then done s
  else
    let tec := s.rdN (K.TEC c)
    let rec0 := s.rdN (K.REC c)
    let s := (s.bump (K.ERRORS_DETECTED c)).wrN (K.LAST_ERROR c) error.val
    let s := (s.wrN (K.TEC c) (min 256 (tec + tecUp.val))).wrN (K.REC c) (min 255 (rec0 + recUp.val))
    let s : State := match (s.can c).active with
      | none => s
      | some b =>
        if ((s.can c).buf b).cancel then s.bufEnds c b .cancelled 0
        else if s.rd (K.ONE_SHOT c b) = 1 then s.bufFails c b error.val
        else s.canUpd c (fun x => x.setBuf b { x.buf b with state := .pending })
    done (s.canLevels c tec rec0)

/-- The write of RECOVER (R379). -/
def canRecoverWrite (c : Nat) (s : State) : WRes := .ok (if s.rd (K.BUSOFF_AUTO c) = 0 then s.canRecover c else s)

/-- RECOVER. -/
def execRecover (c : Fin 2) (s : State) : Res := answered (canRecoverWrite c.val s)

/-- CAN_RECOVERY_COMPLETE (R379): 128 occurrences of 11 consecutive recessive bits. -/
def execCanRecoveryComplete (c : Fin 2) (s : State) : Res :=
  let c := c.val
  if s.canState c = 5 ∧ s.ioClock then done (((s.wr (K.TEC c) 0).wr (K.REC c) 0).canGoto c 2) else done s

/-! ### Receiving (R372 to R374, R381) -/

/-- Two identifier words name one identifier: bits 28 to 0 and IDE. -/
def sameId (x y : Nat) : Bool := x % 2 ^ 30 == y % 2 ^ 30

/-- Where a frame goes: 1 FIFO, 2 HP, anything else nowhere (R372). -/
def State.canRoute (s : State) (c id : Nat) : Nat :=
  let hit (f : Nat) : Bool :=
    let m := s.rdN (K.FILTER_MASK c f)
    let g := s.rdN (K.FILTER_ID c f)
    s.rd (K.FILTER_ACTION c f) != 0 && Nat.land (id % 2 ^ 29) m == Nat.land (g % 2 ^ 29) m && bit id 29 == bit g 29
  match (List.range 16).find? hit with
  | some f => s.rdN (K.FILTER_ACTION c f)
  | none => s.rdN (K.NO_MATCH c)

/-- A frame enters the receive FIFO (R373). -/
def State.canFifo (s : State) (c : Nat) (f : CanFrame) : State :=
  let x := s.can c
  if x.fifo.length < 32 then s.canUpd c (fun x => { x with fifo := x.fifo ++ [f], lossy := false })
  else
    let s := s.bump (K.FIFO_OVERRUNS_6A03 c)
    if x.lossy then s else (s.updCan c (fun x => { x with lossy := true })).raiseU Ev.CAN_RX_OVERRUN (some c) none []

/-- A frame enters the high-priority buffer (R374). -/
def State.canHp (s : State) (c : Nat) (f : CanFrame) : State :=
  let s := if (s.can c).hp.isSome then s.bump (K.HP_OVERWRITES c) else s
  (s.canUpd c (fun x => { x with hp := some f })).raiseU Ev.CAN_HP_RX (some c) none []

/-- A frame of a TOA part (R381). -/
def State.canToa (s : State) (c : Nat) (data : Bytes) : State :=
  let ctl := uAt data 0 1
  let drop (s : State) : State := (s.updCan c (fun x => { x with rx := none })).bump (K.TOA_PART_ERRORS c)
  let take (s : State) (b : Bytes) (next start : Nat) : State :=
    if bit ctl 6 then (s.updCan c (fun x => { x with rx := none })).partIn (8 + c) b
    else s.updCan c (fun x => { x with rx := some (b, next, start) })
  if data.isEmpty then drop s
  else if bit ctl 7 then (if ctl % 64 = 0 then take s (data.drop 1) 1 s.clk.now else drop s)
  else match (s.can c).rx with
    | none => s.bump (K.TOA_PART_ERRORS c)
    | some (b, next, start) => if ctl % 64 = next % 64 then take s (b ++ data.drop 1) (next + 1) start else drop s

/-- The counters after a frame received without error (R379). -/
def State.canRxGood (s : State) (c : Nat) : State :=
  let rec0 := s.rdN (K.REC c)
  let tec := s.rdN (K.TEC c)
  let (s, v) := if 127 < rec0 then s.draw else (s, 0)
  (s.wrN (K.REC c) (if 127 < rec0 then 119 + v % 9 else rec0 - 1)).canLevels c tec rec0

/-- CAN_FRAME_RECEIVED (R367, R370, R372): a frame is received; `id` its identifier word, `time` the network time at the
sample point of SOF in units of 12.5 ns, `wire` its wire time in ps. -/
def execCanFrameReceived (c : Fin 2) (id : BitVec 32) (dlc : Fin 16) (rtr esi : Bool) (data : Bytes) (time wire : Nat) (t : Nat) (s : State) : Res :=
  let s := s.at t
  let c := c.val
  let fdf := bit id.toNat 30
  if s.canOn c = false ∨ (fdf = true ∧ (rtr = true ∨ s.rd (K.FD_ENABLE c) = 0)) then done s
  else
    let n := if rtr then 0 else dlcBytes fdf dlc.val
    let f : CanFrame := { id := id.toNat, dlc := dlc.val, flags := b2n rtr + 2 * b2n esi, time := time * 25 / 2, data := padTo n data }
    let s := (((s.canRxGood c).bump (K.RX_FRAMES_6A03 c)).perf 16 c 1).traffic (50 + c) true n wire
    if s.rd (K.TOA_ENABLE c) = 1 ∧ sameId id.toNat (s.rdN (K.TOA_RX_ID c)) then done (s.canToa c f.data)
    else match s.canRoute c id.toNat with
      | 1 => done (s.canFifo c f)
      | 2 => done (s.canHp c f)
      | _ => done s

/-- CAN_TOA_PART_TIMEOUT (R381): a part still incomplete 100 ms after its first frame. -/
def execCanToaPartTimeout (c : Fin 2) (t : Nat) (s : State) : Res :=
  let s := s.at t
  match (s.can c.val).rx with
  | some (_, _, start) =>
    if s.elapsed start 100000000 then done ((s.updCan c.val (fun x => { x with rx := none })).bump (K.TOA_PART_ERRORS c.val)) else done s
  | none => done s

/-- The 80 octets of the *CAN frame entry*. -/
def CanFrame.entry (f : CanFrame) : Bytes :=
  leBytes 4 f.id ++ leBytes 1 f.dlc ++ leBytes 1 f.flags ++ [0, 0] ++ leBytes 8 f.time ++ padTo 64 f.data

/-- A read of RX_FIFO_READ (R373). -/
def State.rxFifoRead (s : State) (c : Nat) : State × Bytes :=
  match (s.can c).fifo with
  | [] => (s, [])
  | f :: r => (s.canUpd c (fun x => { x with fifo := r, lossy := false }), f.entry)

/-- RX_FIFO_READ. -/
def execRxFifoRead (c : Fin 2) (s : State) : Res :=
  let r := s.rxFifoRead c.val
  done (r.1.emit (.value r.2))

/-- A read of HP_READ (R374). -/
def State.hpRead (s : State) (c : Nat) : State × Bytes :=
  match (s.can c).hp with
  | none => (s, [])
  | some f => (s.canUpd c (fun x => { x with hp := none }), f.entry)

/-- HP_READ. -/
def execHpRead (c : Fin 2) (s : State) : Res :=
  let r := s.hpRead c.val
  done (r.1.emit (.value r.2))

/-! ### Transmitting (R375 to R378, R382) -/

/-- A frame entry may be sent: its fields are as the layout has them, and of a format that is enabled (R374). -/
def State.txEntryOk (s : State) (c : Nat) (b : Bytes) : Bool :=
  let w := uAt b 0 4
  let fdf := bit w 30
  let rtr := bit (uAt b 5 1) 0
  let n := if rtr then 0 else dlcBytes fdf (uAt b 4 1)
  !(fdf && rtr) && !(bit w 31 && !fdf) && !(fdf && s.rd (K.FD_ENABLE c) == 0) && Nat.blt (uAt b 4 1) 16
    && Nat.ble (uAt b 5 1) 1 && uAt b 6 2 == 0 && uAt b 8 8 == 0 && (bit w 29 || Nat.blt (w % 2 ^ 29) 2048)
    && (b.drop (16 + n)).all (fun x => x == 0)

/-- The write of TX_FRAME (R367, R374, R375). -/
def txFrame (c : Nat) (b : Bytes) (s : State) : WRes :=
  if s.txEntryOk c b = false then (s, .range)
  else if s.rd (K.CAN_MODE c) ≠ 1 ∨ ((s.can c).buf 2).busy then (s, .refused)
  else
    let w := uAt b 0 4
    let rtr := bit (uAt b 5 1) 0
    let n := if rtr then 0 else dlcBytes (bit w 30) (uAt b 4 1)
    let f : CanFrame := { id := w, dlc := uAt b 4 1, flags := uAt b 5 1, time := 0, data := slice b 16 n }
    .ok (s.canUpd c (fun x => { x with buf2 := { state := .pending, frame := some f } }))

/-- TX_FRAME. -/
def execTxFrame (c : Fin 2) (b : Bytes) (s : State) : Res :=
  if b.length = 80 then answered (txFrame c.val b s) else answered (s, .length)

/-- The write of TX_CANCEL (R377). -/
def txCancel (c : Nat) (s : State) : WRes :=
  match ((s.can c).buf 2).state with
  | .pending => .ok (s.bufEnds c 2 .cancelled 0)
  | .active => .ok (s.updCan c (fun x => { x with buf2 := { x.buf2 with cancel := true } }))
  | _ => .ok s

/-- TX_CANCEL. -/
def execTxCancel (c : Fin 2) (s : State) : Res := answered (txCancel c.val s)

/-- The next instance for a controller: the oldest that waits for it (R341, R382). -/
def State.canNext (s : State) (c : Nat) : Option (Nat × Queued) :=
  let l := (List.range 16).flatMap (fun ch =>
    if s.rdN (K.CHANNEL_CAN ch) = c + 1 then ((s.channel ch).queue.filter (·.canWaiting)).map (fun q => (ch, q)) else [])
  l.foldl (fun a x => match a with
    | none => some x
    | some y => if x.2.order < y.2.order then some x else some y) none

/-- The data bytes of a notification frame (R382). -/
def State.notifyData (s : State) (c : Nat) (i : EventInst) : Bytes :=
  if s.rd (K.TOA_FORMAT c) = 0 then leBytes 1 i.source ++ leBytes 1 i.channel ++ leBytes 2 i.seq ++ leBytes 4 i.data0 else i.bytes

/-- Free buffers 0 and 1 take the next response frame and the next notification frame. -/
def State.canLoad (s : State) (c : Nat) : State :=
  let s : State := match (s.can c).tx with
    | f :: r => if (s.can c).buf0.busy then s else s.canUpd c (fun x => { x with tx := r, buf0 := { state := .pending, frame := some f } })
    | [] => s
  if (s.can c).buf1.busy then s
  else match s.canNext c with
    | none => s
    | some (ch, q) =>
      let f := s.canDataFrame c (s.rdN (K.NOTIFY_ID c)) (s.notifyData c q.inst)
      s.canUpd c (fun x => { x with buf1 := { state := .pending, frame := some f, inst := some (⟨ch % 16, Nat.mod_lt _ (by decide)⟩, q.order) } })

/-- The place of a frame in arbitration, the least wins: identifier bits, RTR or SRR, IDE, the extension, RTR. -/
def arbitration (f : CanFrame) : Nat :=
  let rtr := f.flags % 2
  if bit f.id 29 then field f.id 18 11 * 2 ^ 21 + 2 ^ 20 + 2 ^ 19 + f.id % 2 ^ 18 * 2 + rtr
  else f.id % 2 ^ 11 * 2 ^ 21 + rtr * 2 ^ 20

/-- The buffer selected at SOF (R376). -/
def State.canPick (s : State) (c : Nat) : Option (Nat × CanFrame) :=
  let x := s.can c
  let l : List (Nat × CanFrame) := [0, 1, 2].filterMap (fun b =>
    if (x.buf b).state == .pending then (x.buf b).frame.map (fun f => (b, f)) else none)
  if s.rd (K.TX_ORDER c) = 1 then l.head?
  else l.foldl (fun a y => match a with
    | none => some y
    | some z => if arbitration y.2 < arbitration z.2 then some y else some z) none

/-- CAN_TX_SELECT (R376): the bus allows a new SOF. -/
def execCanTxSelect (c : Fin 2) (s : State) : Res :=
  let c := c.val
  if s.canOn c = false ∨ s.rd (K.CAN_MODE c) ≠ 1 ∨ (s.can c).active.isSome then done s
  else
    let s := s.canLoad c
    match s.canPick c with
    | none => done s
    | some (b, f) => done ((s.canUpd c (fun x => x.setBuf b { x.buf b with state := .active })).emit (.canFrame c f))

/-- CAN_ARBITRATION_LOST (R377). -/
def execCanArbitrationLost (c : Fin 2) (s : State) : Res :=
  let c := c.val
  match (s.can c).active with
  | none => done s
  | some b =>
    if ((s.can c).buf b).cancel then done (s.bufEnds c b .cancelled 0)
    else if s.rd (K.ONE_SHOT c b) = 1 then done (s.bufFails c b 7)
    else done (s.canUpd c (fun x => x.setBuf b { x.buf b with state := .pending }))

/-- CAN_TX_COMPLETE (R371, R377, R379): the frame on the bus ends without error; `wire` its wire time in ps, `delay` the
transmitter delay measured in an FD frame with bit rate switch, in clock periods. -/
def execCanTxComplete (c : Fin 2) (wire : Nat) (delay : Fin 127) (s : State) : Res :=
  let c := c.val
  match (s.can c).active with
  | none => done s
  | some b =>
    match ((s.can c).buf b).frame with
    | none => done s
    | some f =>
      let tec := s.rdN (K.TEC c)
      let rec0 := s.rdN (K.REC c)
      let s := ((s.bufEnds c b .transmitted 0).bump (K.TX_FRAMES_6A02 c)).traffic (50 + c) false f.data.length wire
      let s := if s.rd (K.TDC_ENABLE c) = 1 ∧ bit f.id 31 then s.wrN (K.TDC_VALUE c) delay.val else s
      done ((s.wrN (K.TEC c) (tec - 1)).canLevels c tec rec0)

/-- A write to an entry of a controller that acts beyond its value (R369, R379, R380, R382): none where it has no such
act. -/
def State.canWrite (s : State) (c obj sub : Nat) (k : Nat) (v : Int) : WRes :=
  if obj = 0 ∧ 3 ≤ sub ∧ sub ≤ 12 then (if s.rd (K.CAN_MODE c) = 0 then .ok (s.wr k v) else (s, .refused))
  else if obj = 0 ∧ sub = 14 then
    let s := s.wr k v
    .ok (if v = 1 then s.canRecover c else s)
  else if obj = 4 ∧ sub = 1 then
    let was := s.sessionState (8 + c)
    let s := s.wr k v
    .ok (if was = 3 ∧ v = 0 then s.canSessionEnds c else s)
  else .ok (s.wr k v)

/-- CHANNEL_CAN of a channel was written (R377): instances that waited for the path it names no more are done with it,
and their frame is cancelled. -/
def State.channelCanWritten (s : State) (ch : Nat) (old : Nat) : State :=
  if s.rdN (K.CHANNEL_CAN ch) = old ∨ old = 0 then s
  else
    let c := old - 1
    let hit : Bool := ((s.can c).buf1.inst.map (·.1.val)) == some ch
    let s : State := match (s.can c).buf1.state with
      | .pending => if hit then s.bufEnds c 1 .cancelled 0 else s
      | .active => if hit then s.updCan c (fun x => { x with buf1 := { x.buf1 with cancel := true } }) else s
      | _ => s
    if s.rd (K.CHANNEL_CAN ch) = 0 then s.retire ch (fun q => { q with canWaiting := false }) else s

end Sys2Proof.Machine
end

