-- ==== Sys2Proof/Machine/Power.lean ====
section
/-! DEFINITION. Power feeds, power domains, power states and thermal protection: R465 to R478; the end of a cluster's
drain (R154). -/

namespace Sys2Proof.Machine

open Sys2Proof

/-! ### Feeds (R465 to R472) -/

/-- The rails a domain draws (R465): 0 VDD_CORE, 1 VDD_SRAM, 2 VDD_SD, 3 VDD_IO, 4 VDD_IO33, 5 VDDA. -/
def railsOf (d : Nat) : List Nat :=
  if d = 0 then [3]
  else if d = 1 then [0, 1, 3]
  else if d = 2 then [0, 1, 4]
  else if d = 11 ∨ d = 12 then [0, 1, 2, 3]
  else if d = 14 then [0, 1, 2, 3, 4, 5]
  else [0, 1]

/-- The status entry of a rail on a feed (0 A, 1 B). -/
def feedKey (f r : Nat) : Nat := if f = 0 then K.FEED_A_STATUS r else K.FEED_B_STATUS r

/-- The voltage entry of a rail on a feed. -/
def feedVolt (f r : Nat) : Nat := if f = 0 then K.FEED_A_VOLTAGE r else K.FEED_B_VOLTAGE r

/-- The rail is judged unhealthy on the feed: undervoltage, overvoltage or ripple (R467). -/
def State.railBad (s : State) (f r : Nat) : Bool := Nat.blt 1 (s.rdN (feedKey f r))

/-- The feed is healthy for the domain (R467). -/
def State.feedOk (s : State) (f d : Nat) : Bool := (railsOf d).all (fun r => !s.railBad f r)

/-- The switched domains. -/
def switched : List Nat := (List.range 16).tail

/-- The feed a domain draws from. -/
def State.feedOf (s : State) (d : Nat) : Nat := s.rdN (K.DOMAIN_FEED d)

/-- PREFERRED_FEED of a switched domain. -/
def State.preferredOf (s : State) (d : Nat) : Nat := s.rdN (K.PREFERRED_FEED (d - 1))

/-- The forced feed, where a force is in effect (R471). -/
def State.forced (s : State) : Option Nat :=
  if s.power_.pinA && !s.power_.pinB then some 0
  else if s.power_.pinB && !s.power_.pinA then some 1
  else none

/-- A domain moves to a feed: the event with the rail and cause, its counter, and its RIDE_THROUGH (R472, R478). -/
def State.moveFeed (s : State) (d f ev rail cause : Nat) : State :=
  let s := s.wrN (K.DOMAIN_FEED d) f
  let s := if ev = Ev.FEED_REVERT then s.bump K.REVERTS
    else (s.bump K.SWITCHES).wrN K.LAST_SWITCH_TIME (s.clk.now / 1000)
  (s.raise ev d (f + 256 * rail + 65536 * cause)).startRide ev

/-- The cause a rail's status shows: 1 UNDERVOLTAGE, 2 OVERVOLTAGE, 3 RIPPLE. -/
def causeOf (status : Nat) : Nat := if bit status 1 then 1 else if bit status 2 then 2 else 3

/-- Fail-over (R468): a domain whose feed is unhealthy for it moves to the other where that is healthy. -/
def State.failOver (s : State) (d : Nat) : State :=
  let f := s.feedOf d
  if s.feedOk f d || !s.feedOk (1 - f) d then s
  else match (railsOf d).find? (s.railBad f) with
    | some r => s.moveFeed d (1 - f) Ev.FEED_SWITCH (r + 1) (causeOf (s.rdN (feedKey f r)))
    | none => s

/-- A force in effect moves a domain wherever the forced feed is healthy for it (R471). -/
def State.forceMove (s : State) (d : Nat) : State :=
  match s.forced with
  | some f => if s.feedOf d ≠ f ∧ s.feedOk f d then s.moveFeed d f Ev.FEED_FORCED 0 4 else s
  | none => s

/-- NO_HEALTHY_FEED (R469). -/
def State.noFeed (s : State) : State :=
  s.wrN K.NO_HEALTHY_FEED (((List.range 16).filter (fun d => !s.feedOk 0 d && !s.feedOk 1 d)).map (2 ^ ·)).sum

/-- The arbiter after a change of health or force. -/
def State.arbitrate (s : State) : State :=
  (foldS State.forceMove (foldS State.failOver s switched) switched).noFeed

/-- FEED_UNHEALTHY (R467 to R469): `cause` 0 undervoltage, 1 overvoltage, 2 ripple. -/
def execFeedUnhealthy (feed : Fin 2) (rail : Fin 6) (cause : Fin 3) (mv : Fin 65536) (t : Nat) (s : State) : Res :=
  let s := s.at t
  let k := feedKey feed rail
  let s := (s.wrN (feedVolt feed rail) mv).wrN k (setBit (setBit (s.rdN k) 0 false) (cause.val + 1) true)
  done s.arbitrate

/-- FEED_HEALTHY (R467, R470): the hold time of the domains for which the feed becomes healthy starts. -/
def execFeedHealthy (feed : Fin 2) (rail : Fin 6) (mv : Fin 65536) (t : Nat) (s : State) : Res :=
  let s := s.at t
  let was := s.railBad feed rail
  let s := (s.wrN (feedVolt feed rail) mv).wrN (feedKey feed rail) 1
  if was then
    let l := switched.filter (fun d => (railsOf d).contains rail.val && s.feedOk feed d)
    let h := l.foldl (fun m d => SMap.put m 0 (16 * feed.val + d) s.clk.now) s.power_.healthySince
    done ({ s with power_ := { s.power_ with healthySince := h } }).arbitrate
  else done s

/-- The domain is due to return to its preferred feed (R470). -/
def State.revertDue (s : State) (d : Nat) : Bool :=
  let f := s.preferredOf d
  s.feedOf d != f && s.feedOk f d && s.forced.isNone &&
    s.elapsed (max s.power_.forceEnd (SMap.get s.power_.healthySince 0 (16 * f + d))) (1000000000 * s.rdN K.REVERT_HOLD)

/-- FEED_REVERT (R470): every domain whose hold time has run returns. -/
def execFeedRevert (t : Nat) (s : State) : Res :=
  let s := s.at t
  done (foldS (fun s d => s.moveFeed d (s.preferredOf d) Ev.FEED_REVERT 0 5) s (switched.filter s.revertDue))

/-- FEED_FORCE_CHANGE (R471): the filtered levels of FEED_FORCE_A and FEED_FORCE_B. -/
def execFeedForceChange (a b : Bool) (t : Nat) (s : State) : Res :=
  let s := s.at t
  let was := s.forced
  let s := { s with power_ := { s.power_ with pinA := a, pinB := b } }
  let s := if was.isSome && s.forced.isNone then { s with power_ := { s.power_ with forceEnd := s.clk.now } } else s
  done (s.wrN K.FORCE_STATE (b2n a + 2 * b2n b)).arbitrate

/-! ### What a domain loses and gains (R475) -/

/-- A domain's state changes (R474). -/
def State.domainTo (s : State) (d st : Nat) : State := (s.wrN (K.DOMAIN_STATE d) st).raise Ev.DOMAIN_STATE d st

/-- An axis when CORE leaves power: nothing of its state survives but what the dictionary holds. -/
def State.axisLost (s : State) (a : Nat) : State :=
  let s := ((s.openAll a).wr (K.OBS_STATE a) 0).wr (K.FAULT_CODE a) 0
  (s.wr (K.AXIS_STATE a) (if !axisOn s.cf a then 0 else if s.stoDemanded a then 9 else 1)).setAxis a
    { opNs := (s.axis a).opNs }

/-- A request that waits on an island's mailbox fails. -/
def State.dropIslandReq (s : State) (n : Nat) : State :=
  foldS (fun s r => match r.wait with
    | .island _ _ _ => s.respond n r.tag r.gen r.service Toa.ISLAND_UNAVAILABLE []
    | _ => s) s (s.session n).reqs

/-- CORE leaves power: axes, segment pool, point image and event wheel are lost (R475). -/
def State.coreOff (s : State) : State :=
  let s := foldS State.axisLost s (List.range 128)
  let s := foldS State.dropIslandReq s (List.range 10)
  let onWheel (k : Nat) : Bool := Nat.ble 0x5410 (k / 256) && Nat.ble (k / 256) 0x542F
  ({ s with
    od := s.od.filter (fun e => !onWheel e.1), odB := s.odB.filter (fun e => !onWheel e.1)
    wheel := [], sentActs := [], wheelStarts := [], rxPts := [], pubIn := [], pubOut := [], outPts := []
    ferry := {}, islands := [], masters := [], acqUse := [], fm := none }).wr K.ENTRIES_ARMED 0

/-- A cluster is powered (R137, R154, R474): its skerries take tasks, or pass a self-test first where it was LOST. -/
def State.clusterUp (s : State) (j : Nat) : State :=
  let st := if s.power_.lost.contains j then 3 else 1
  let s := foldS (fun s k => s.wr (K.SKERRY_STATE k) st) (s.wr (K.CLUSTER_STATE j) 1) (clusterSkerries j)
  { s with power_ := { s.power_ with lost := s.power_.lost.filter (· != j) } }

/-- A cluster is without power. -/
def State.clusterOff (s : State) (j : Nat) : State :=
  let s := if s.cluster j = 3 then { s with power_ := { s.power_ with lost := j :: s.power_.lost } } else s
  let s := { s with ageing := { s.ageing with poweredAt := SMap.insert s.ageing.poweredAt j s.clk.now } }
  foldS (fun s k => s.wr (K.SKERRY_STATE k) 0) (s.wr (K.CLUSTER_STATE j) 0) (clusterSkerries j)

/-- A domain is ON: what begins (LH begins with LH_POWERED). -/
def State.enterDomain (s : State) (d : Nat) : State :=
  if d = Dom.CORE then s.updClk (fun c => { c with cycNext := some 0 })
  else if d = Dom.NET_A ∨ d = Dom.NET_B then
    foldS (fun s p => if s.guard p = G.DISABLED ∧ s.rd (K.ENABLE p) = 1 ∧ s.portUsable p then s.setGuard p G.LINK_DOWN else s)
      s (List.range 48)
  else if d = Dom.ACQ then s.acqOn
  else if 3 ≤ d ∧ d ≤ 10 then s.clusterUp (d - 3)
  else s

/-- A domain leaves power: what is lost. -/
def State.leaveDomain (s : State) (d : Nat) : State :=
  if d = Dom.CORE then s.coreOff
  else if d = Dom.NET_A ∨ d = Dom.NET_B then
    let s := if d = Dom.NET_B then s.wr K.STRAIT_STATE 0 else s
    foldS (fun s p => if s.guard p ≠ G.DISABLED then s.closePort p else s)
      s ((List.range 48).filter (fun p => portChannel p = d - Dom.NET_A))
  else if d = Dom.ACQ then s.acqOff
  else if d = Dom.LH then s.lhOff
  else if 3 ≤ d ∧ d ≤ 10 then s.clusterOff (d - 3)
  else s

/-- A cluster drains (R154): the Ferry places no new task on it, and tasks not yet executing go back to the ready set. -/
def State.drain (s : State) (j : Nat) : State :=
  let back (ph : TaskPhase) : Bool := match ph with
    | .prefetched k => Nat.beq (k / 8) j
    | .loaded k => Nat.beq (k / 8) j
    | _ => false
  let s := s.updFerry (fun f => { f with
    tasks := f.tasks.map (fun t => if back t.phase then { t with phase := .waiting } else t) })
  (s.wr (K.CLUSTER_STATE j) 2).domainTo (3 + j) 3

/-! ### Transitions (R473, R474) -/

/-- A transition is in progress. -/
def State.inTransition (s : State) : Bool := s.power_.trans.isSome

/-- Some cluster drains. -/
def State.draining (s : State) : Bool := (List.range 8).any (fun j => s.rd (K.DOMAIN_STATE (3 + j)) == 3)

/-- A step begins. -/
def State.stepBegin (s : State) : PowerStep → State
  | .up d => s.domainTo d 1
  | .down d => (s.leaveDomain d).domainTo d 4

/-- The body of the answer to an accepted WRITE or WRITE_GROUP (R361). -/
def writeBody (r : Req) : Bytes :=
  if r.service = 4 then leBytes 1 (uAt r.body 0 1) ++ zeros (3 + uAt r.body 0 1) else slice r.body 0 3 ++ [0]

/-- The answers to the write that started the transition. -/
def State.transAnswer (s : State) (own : Bool) : State :=
  let s := if own then s.emit (.answer .ok) else s
  foldS (fun s n => foldS (fun s r =>
    if r.wait = .power then s.respond n r.tag r.gen r.service 0 (writeBody r) else s) s (s.session n).reqs) s (List.range 10)

/-- A transition has completed. -/
def State.transEnd (s : State) (x : Transition) : State :=
  let s := ({ s with power_ := { s.power_ with trans := none } }).wr K.IN_TRANSITION 0
  let s := s.wrN K.POWER_STATE x.target
  let s := if x.target ≠ x.from_ then s.raise Ev.POWER_STATE x.target x.from_ else s
  let s := if x.from_ = 2 ∧ x.target ≠ 2 then
      { s with axes := mapKeep {} (fun _ a => { a with h1 := none, h0 := none }) s.axes }
    else s
  s.transAnswer x.own

/-- The transition goes on where nothing is in progress: the next step, the steps after the drains (with the network
stopped before it leaves CONFIG, R64), or the end. -/
def State.transNext (s : State) : State :=
  match s.power_.trans with
  | none => s
  | some x => match x.steps with
    | p :: _ => s.stepBegin p
    | [] =>
      if s.draining then s
      else match x.later with
        | [] => s.transEnd x
        | p :: r =>
          let s := { s with power_ := { s.power_ with trans := some { x with steps := p :: r, later := [] } } }
          (if s.netState = N.OFF then s else s.toOff 2).stepBegin p

/-- What a write of a power object answers: a result, or nothing before the transition it started completes. -/
abbrev PowerAns := State × Option Ans

/-- A transition starts. -/
def State.transStart (s : State) (target : Nat) (steps later : List PowerStep) : PowerAns :=
  let x : Transition := { from_ := s.power, target := target, steps := steps, later := later, own := false }
  let s := { s with power_ := { s.power_ with trans := some x } }
  let s := (s.wr K.IN_TRANSITION 1).transNext
  if s.inTransition then (s, none) else (s, some .ok)

/-- A refusal with its cause (R477): 1 TRIPPED, 2 CLUSTERS_MIN, 3 AXES_ACTIVE, 4 IN_TRANSITION. -/
def State.powerRefuse (s : State) (code : Nat) : PowerAns := (s.wrN K.POWER_REFUSAL code, some .refused)

/-- Clusters set in a selection and not LOST are at least CLUSTERS_MIN (R156). -/
def State.enough (s : State) (sel : Nat) : Bool :=
  Nat.ble (s.rdN K.CLUSTERS_MIN) ((List.range 8).countP (fun j => bit sel j && s.cluster j != 3))

/-- Every axis is NOT_CONFIGURED, DISABLED, FAULT or STO_ACTIVE (R474). -/
def State.axesQuiet (s : State) : Bool := (List.range 128).all (fun a => [0, 1, 8, 9].contains (s.axState a))

/-- The domains of CONFIG power up (R474). -/
def configUp : List PowerStep := [.up Dom.CORE, .up Dom.LH, .up Dom.NET_A, .up Dom.NET_B]
/-- They power down. -/
def configDown : List PowerStep := [.down Dom.NET_B, .down Dom.NET_A, .down Dom.LH, .down Dom.CORE]

/-- The selected clusters that are not LOST, then ACQ (R474). -/
def State.runUp (s : State) : List PowerStep :=
  ((List.range 8).filter (fun j => bit (s.rdN K.CLUSTER_SELECT) j && s.cluster j != 3)).map (fun j => .up (3 + j))
    ++ (if s.rd K.ACQ_SELECT = 1 then [.up Dom.ACQ] else [])

/-- The clusters not in a selection: UP ones drain, LOST ones are switched off at once (R474). -/
def State.dropClusters (s : State) (keep : Nat) : State :=
  foldS (fun s j =>
    if bit keep j then s
    else if s.cluster j = 1 then s.drain j
    else if s.cluster j = 3 then (s.clusterOff j).domainTo (3 + j) 0
    else s) s (List.range 8)

/-- The skerry clock of the accepted plan takes effect on the way into RUN (R482, R504). -/
def State.planClock (s : State) : State := (s.wrN K.SKERRY_CLOCK s.ageing.clock).wrN K.CLOCK_ACTIVE s.ageing.clock

/-- The write of POWER_CMD (R474). -/
def powerCmd (target : Nat) (s : State) : PowerAns :=
  if s.inTransition then s.powerRefuse 4
  else if s.power = target then (s, some .ok)
  else if s.power = 0 then
    if s.rd K.TRIP_LATCHED = 1 then s.powerRefuse 1
    else if target = 1 then s.transStart 1 configUp []
    else if s.enough (s.rdN K.CLUSTER_SELECT) then s.planClock.transStart 2 (configUp ++ s.runUp) []
    else s.powerRefuse 2
  else if s.power = 1 then
    if target = 2 then
      if s.enough (s.rdN K.CLUSTER_SELECT) then s.planClock.transStart 2 s.runUp [] else s.powerRefuse 2
    else s.transStart 0 [] configDown
  else if s.axesQuiet then
    (s.dropClusters 0).transStart target (if s.rd (K.DOMAIN_STATE Dom.ACQ) = 0 then [] else [.down Dom.ACQ])
      (if target = 0 then configDown else [])
  else s.powerRefuse 3

/-- The write of CLUSTER_SELECT (R474). -/
def clusterSelectWrite (v : Nat) (s : State) : PowerAns :=
  if s.inTransition then s.powerRefuse 4
  else if s.power ≠ 2 then (s.wrN K.CLUSTER_SELECT v, some .ok)
  else if (List.range 8).any (fun j => s.cluster j == 1 && !bit v j) && !s.enough v then s.powerRefuse 2
  else
    let added := ((List.range 8).filter (fun j => bit v j && s.cluster j == 0)).map (fun j => PowerStep.up (3 + j))
    ((s.wrN K.CLUSTER_SELECT v).dropClusters v).transStart 2 added []

/-- The write of ACQ_SELECT (R474). -/
def acqSelectWrite (v : Bool) (s : State) : PowerAns :=
  if s.inTransition then s.powerRefuse 4
  else
    let s := s.wr K.ACQ_SELECT (b2i v)
    let on := s.rd (K.DOMAIN_STATE Dom.ACQ) != 0
    if s.power ≠ 2 ∨ on = v then (s, some .ok)
    else s.transStart 2 [if v then .up Dom.ACQ else .down Dom.ACQ] []

/-- The write of TRIP_CLEAR (R474); outside STANDBY nothing is latched. -/
def tripClear (s : State) : WRes :=
  if s.power ≠ 0 then .ok s
  else if 1200 < s.rd K.TJ_NOW then (s.wrN K.POWER_REFUSAL 1, .refused)
  else .ok (s.wr K.TRIP_LATCHED 0)

/-- A write of its own: the answer now, or at the transition's end. -/
def powerAnswered (r : PowerAns) : Res :=
  match r.2 with
  | some a => .next (r.1.emit (.answer a))
  | none => .next { r.1 with power_ := { r.1.power_ with trans := r.1.power_.trans.map (fun x => { x with own := true }) } }

/-- POWER_CMD_STANDBY. -/
def execPowerCmdStandby (s : State) : Res := powerAnswered (powerCmd 0 s)
/-- POWER_CMD_CONFIG. -/
def execPowerCmdConfig (s : State) : Res := powerAnswered (powerCmd 1 s)
/-- POWER_CMD_RUN. -/
def execPowerCmdRun (s : State) : Res := powerAnswered (powerCmd 2 s)
/-- CLUSTER_SELECT_WRITE. -/
def execClusterSelectWrite (v : Fin 256) (s : State) : Res := powerAnswered (clusterSelectWrite v.val s)
/-- ACQ_SELECT_WRITE. -/
def execAcqSelectWrite (v : Bool) (s : State) : Res := powerAnswered (acqSelectWrite v s)
/-- TRIP_CLEAR. -/
def execTripClear (s : State) : Res := answered (tripClear s)

/-- DOMAIN_STATE_CHANGE (R474): the step in progress completes, and the next begins. -/
def execDomainStateChange (t : Nat) (s : State) : Res :=
  let s := s.at t
  match s.power_.trans with
  | none => done s
  | some x => match x.steps with
    | [] => done s
    | p :: r =>
      let s := match p with
        | .up d => (s.domainTo d 2).enterDomain d
        | .down d => s.domainTo d 0
      done ({ s with power_ := { s.power_ with trans := some { x with steps := r } } }).transNext

/-- CLUSTER_DRAIN_COMPLETE (R154): no task of a draining cluster is left, and its domain switches off. -/
def execClusterDrainComplete (cluster : Fin 8) (s : State) : Res :=
  let j := cluster.val
  let busy := s.ferry.tasks.any (fun t => match t.phase.skerry with
    | some k => Nat.beq (k / 8) j
    | none => false)
  if s.rd (K.DOMAIN_STATE (3 + j)) ≠ 3 ∨ busy then done s
  else
    let s := (s.clusterOff j).domainTo (3 + j) 0
    match s.power_.trans with
    | some x => if x.steps.isEmpty then done s.transNext else done s
    | none => done s

/-! ### Thermal protection (R476) -/

/-- A temperature as a data word. -/
def tjWord (v : Int) : Nat := (v % 2 ^ 32).toNat

/-- A reading of Tj, 0.1 °C: TJ_NOW, TJ_PEAK and THERMAL_WARNING, which re-arms 5 °C below THERMAL_WARN. -/
def State.tjReading (s : State) (tj : Int) : State :=
  let s := (s.wr K.TJ_NOW tj).wr K.TJ_PEAK (max tj (s.rd K.TJ_PEAK))
  if s.power_.warned then
    if tj ≤ s.rd K.THERMAL_WARN - 50 then { s with power_ := { s.power_ with warned := false } } else s
  else if s.rd K.THERMAL_WARN ≤ tj then
    ({ s with power_ := { s.power_ with warned := true } }).raise Ev.THERMAL_WARNING s.power (tjWord tj)
  else s

/-- The domains outside STANDBY. -/
def runDomains : List Nat := [2, 3, 4, 5, 6, 7, 8, 9, 10, 11, 12, 13, 15]

/-- The thermal trip: every domain outside STANDBY is switched off at once. -/
def State.trip (s : State) : State :=
  let left := s.power
  let own := match s.power_.trans with
    | some x => x.own
    | none => false
  let was := s.inTransition
  let s := if s.netState = N.OFF then s else s.toOff 2
  let s := ({ s with power_ := { s.power_ with trans := none } }).wr K.IN_TRANSITION 0
  let s := foldS (fun s d => if s.rd (K.DOMAIN_STATE d) = 0 then s else (s.leaveDomain d).domainTo d 0) s runDomains
  let s := ((s.wr K.TRIP_LATCHED 1).bump K.TRIPS).wr K.POWER_STATE 0
  let s := s.raise Ev.THERMAL_TRIP left (tjWord (s.rd K.TJ_NOW))
  let s := if left = 0 then s else s.raise Ev.POWER_STATE 0 left
  if was then s.transAnswer own else s

/-- THERMAL_TRIP: a reading of Tj; at 140 °C with a domain outside STANDBY on or powering up, the trip. -/
def execThermalTrip (tj : BitVec 16) (t : Nat) (s : State) : Res :=
  let s := (s.at t).tjReading tj.toInt
  let on := s.power ≠ 0 ∨ runDomains.any (fun d => s.rd (K.DOMAIN_STATE d) != 0)
  if 1400 ≤ tj.toInt ∧ on then done s.trip else done s

/-- THERMAL_WARNING: a reading of Tj. -/
def execThermalWarning (tj : BitVec 16) (t : Nat) (s : State) : Res := done ((s.at t).tjReading tj.toInt)

end Sys2Proof.Machine
end

