-- ==== Sys2Proof/Machine/Uplink.lean ====
section
/-! DEFINITION. The uplink (R344 to R352): links, the switch, IPv4, the transparent clock and the PTP slave. -/

namespace Sys2Proof.Machine

open Sys2Proof

/-- Update the uplink. -/
def State.updUp (s : State) (f : Uplink → Uplink) : State := { s with uplink := f s.uplink }

/-! ### Links (R344) -/

/-- LINK_STATE of an external port. -/
def upLinkKey (p : Nat) : Nat := if p = 0 then K.LINK_STATE_0 else K.LINK_STATE_1

/-- The link of an external port is up. -/
def State.upLink (s : State) (p : Nat) : Bool := s.rd (upLinkKey p) != 0

/-- PORT_ENABLE of an external port. -/
def State.upEnabled (s : State) (p : Nat) : Bool := s.rd (if p = 0 then K.PORT_ENABLE_0 else K.PORT_ENABLE_1) == 1

/-- PTP_PORT_STATE (R352). -/
def State.ptpState (s : State) : Nat := s.rdN K.PTP_PORT_STATE

/-- Set the slave's state; the runs of Syncs begin anew. -/
def State.setPtp (s : State) (v : Nat) : State := (s.wrN K.PTP_PORT_STATE v).updUp (fun u => { u with within := 0, beyond := 0 })

/-- The slave leaves INITIALIZING once it is enabled and a link is up. -/
def State.ptpInit (s : State) : State :=
  if s.ptpState = 0 ∧ s.rd K.PTP_ENABLE = 1 ∧ (s.upLink 0 ∨ s.upLink 1) then s.setPtp 1 else s

/-- An external port's link is lost (R352). -/
def State.upLinkDown (s : State) (p : Nat) : State :=
  let s := (s.wr (upLinkKey p) 0).updUp (fun u => { u with masters := u.masters.filter (fun m => m.port != p) })
  if s.rdN K.MASTER_PORT = p ∧ s.upLink (1 - p) then (s.wr K.MASTER_PORT 0xFF).setPtp 1 else s

/-- UPLINK_LINK_CHANGE (R344, R351): auto-negotiation ends with 1 100 Mbit/s or 2 1000 Mbit/s, and the alignment term in UI
is measured; or 0, the link is down. -/
def execUplinkLinkChange (port : Fin 2) (speed : Fin 3) (alignment : Fin 8) (s : State) : Res :=
  let p := port.val
  if speed.val = 0 then done (if s.upLink p then s.upLinkDown p else s)
  else if s.upEnabled p then
    done (((s.wrN (upLinkKey p) speed.val).updUp (fun u => { u with
      alignment := SMap.put u.alignment 0 p alignment.val })).ptpInit)
  else done s

/-- PORT_ENABLE of an external port was written. -/
def State.upEnableWritten (s : State) (p : Nat) : State := if s.upEnabled p = false ∧ s.upLink p then s.upLinkDown p else s

/-- PTP_ENABLE was written (R352). -/
def State.ptpEnableWritten (s : State) : State :=
  if s.rd K.PTP_ENABLE = 1 then s.ptpInit
  else ((s.setPtp 0).wr K.MASTER_PORT 0xFF).updUp (fun u => { u with masters := [], syncDiff := none, delayT3 := none })

/-! ### The switch (R345) -/

/-- A frame of `bytes` from destination address to FCS on an external port (R417). -/
def State.upTraffic (s : State) (p : Nat) (rx : Bool) (bytes : Nat) : State :=
  s.traffic (48 + p) rx bytes ((bytes + 20) * (if s.rd (upLinkKey p) = 1 then 80000 else 8000))

/-- A received frame is counted. -/
def State.upRx (s : State) (p bytes : Nat) : State := (s.bump (K.RX_FRAMES_6803 p)).upTraffic p true bytes

/-- A sent frame is counted. -/
def State.upTx (s : State) (p bytes : Nat) : State := (s.bump (K.TX_FRAMES_6803 p)).upTraffic p false bytes

/-- Octets as a number, most significant first. -/
def beNat (b : Bytes) : Nat := b.foldl (fun n x => 256 * n + x.toNat) 0

/-- A big-endian field of a frame. -/
def beAt (b : Bytes) (off len : Nat) : Nat := beNat (slice b off len)

/-- The VLAN identifier of a frame, 0 for an untagged one. -/
def frameVlan (f : Bytes) : Nat := if beAt f 12 2 = 0x8100 then beAt f 14 2 % 4096 else 0

/-- The offset of the frame's EtherType. -/
def frameTypeAt (f : Bytes) : Nat := if beAt f 12 2 = 0x8100 then 16 else 12

/-- The KL4128's own MAC takes a frame (R345, R347): by its tag, and a UDP datagram by its port. -/
def State.macTakes (s : State) (f : Bytes) : Bool :=
  let o := frameTypeAt f
  let ip := o + 2
  let udpPort := beAt f (ip + 4 * (beAt f ip 1 % 16) + 2) 2
  frameVlan f == s.rdN K.HEAD_VLAN && (beAt f o 2 != 0x0800 || beAt f (ip + 9) 1 == 1
    || (beAt f (ip + 9) 1 == 17 && (udpPort == s.uplink.udpPort || (s.rd K.PTP_TRANSPORT == 1 && (udpPort == 319 || udpPort == 320)))))

/-- The port an address was learned on. -/
def State.macPort (s : State) (mac : Nat) : Option Nat := (s.uplink.macs.find? (fun e => e.1 == mac)).map (·.2.1)

/-- An address is learned on a port; a full table takes no new address. -/
def State.macLearn (s : State) (mac p : Nat) : State :=
  let l := s.uplink.macs.filter (fun e => e.1 != mac)
  if 1024 ≤ l.length then s else s.updUp (fun u => { u with macs := l ++ [(mac, p, s.clk.now)] })

/-- A frame leaves through a port: dropped where the egress queue is full. -/
def State.egress (s : State) (f : Bytes) (full : Nat → Bool) (p : Nat) : State :=
  if p = 2 then (if s.macTakes f then s.emit (.ethernet 2 f) else s)
  else if s.upLink p = false then s
  else if full p then s.bump (K.DROPS p)
  else (s.upTx p (f.length + 4)).emit (.ethernet p f)

/-- SWITCH_FORWARD (R345, R347): a frame (without FCS) arrives on a port, 2 the internal one; `good` its FCS and symbols;
`full0`, `full1` whether the egress queues of UP_0 and UP_1 are full. -/
def execSwitchForward (port : Fin 3) (f : Bytes) (good full0 full1 : Bool) (t : Nat) (s : State) : Res :=
  let s := s.at t
  let p := port.val
  if p < 2 ∧ s.upLink p = false then done s
  else
    let s := if p < 2 then s.upRx p (f.length + 4) else s
    if good = false ∨ f.length < 14 then done (if p < 2 then s.bump (K.RX_ERRORS p) else s)
    else
      let src := beAt f 6 6
      let dst := beAt f 0 6
      let s := if beAt f 6 1 % 2 = 0 then s.macLearn src p else s
      let outs : List Nat := match (if beAt f 0 1 % 2 = 1 then none else s.macPort dst) with
        | some q => if q = p then [] else [q]
        | none => [0, 1, 2].filter (· != p)
      done (foldS (fun s q => s.egress f (fun q => if q = 0 then full0 else full1) q) s outs)

/-- MAC_AGE_OUT (R345): addresses not seen for MAC_AGE_TIME are forgotten. -/
def execMacAgeOut (t : Nat) (s : State) : Res :=
  let s := s.at t
  let age := 1000000000 * s.rdN K.MAC_AGE_TIME
  done (s.updUp (fun u => { u with macs := u.macs.filter (fun e => Nat.blt s.clk.now (e.2.2 + age)) }))

/-! ### IPv4 (R346 to R348) -/

/-- An address is probed. -/
def State.ipProbe (s : State) (addr : Nat) : State :=
  (((s.wr K.IP_STATE 1).wr K.IP_ADDRESS 0).updUp (fun u => { u with probing := some addr })).emit (.arp 0 addr)

/-- The next link-local address: in 169.254.1.0 to 169.254.254.255, from UPLINK_MAC. -/
def State.ipChoose (s : State) : State :=
  let a := 0xA9FE_0100 + Config.linkLocal Config.uplinkMac s.uplink.attempts % 65024
  (s.updUp (fun u => { u with attempts := u.attempts + 1 })).ipProbe a

/-- The settings of R348 take effect, and the address is probed. -/
def State.ipStart (s : State) : State :=
  let s := s.updUp (fun u => { u with
    ipMode := s.rdN K.IP_MODE, address := 0, mask := s.rdN K.STATIC_MASK, gateway := s.rdN K.STATIC_GATEWAY
    udpPort := s.rdN K.TOA_UDP_PORT, attempts := 0, conflictAt := none })
  if s.uplink.ipMode = 1 then s.ipProbe (s.rdN K.STATIC_ADDRESS) else s.ipChoose

/-- ARP_PROBE_RESULT (R346): the probe of the address ends; `answered` by another host or not. -/
def execArpProbeResult (answered : Bool) (s : State) : Res :=
  match s.uplink.probing with
  | none => done s
  | some a =>
    let s := s.updUp (fun u => { u with probing := none })
    if answered = false then
      done ((((s.wr K.IP_STATE 2).wrN K.IP_ADDRESS a).updUp (fun u => { u with address := a })).emit (.arp 1 a))
    else if s.uplink.ipMode = 1 then done ((s.wr K.IP_STATE 3).raiseU Ev.IP_CONFLICT none none [])
    else done s.ipChoose

/-- ARP_REQUEST (R346, R347): an ARP packet of a host: a request for the KL4128's address is answered; one whose sender
uses that address is a conflict, which a link-local address is defended against once in 10 s. -/
def execArpRequest (sender target : BitVec 32) (t : Nat) (s : State) : Res :=
  let s := s.at t
  let a := s.uplink.address
  if s.rd K.IP_STATE ≠ 2 then done s
  else if sender.toNat = a then
    if s.uplink.ipMode = 1 then done s
    else match s.uplink.conflictAt with
      | some c =>
        if s.elapsed c 10000000000 then
          done ((s.updUp (fun u => { u with conflictAt := some s.clk.now })).emit (.arp 1 a))
        else done ((s.updUp (fun u => { u with address := 0, conflictAt := none })).ipChoose)
      | none => done ((s.updUp (fun u => { u with conflictAt := some s.clk.now })).emit (.arp 1 a))
  else if target.toNat = a then done (s.emit (.arp 2 a))
  else done s

/-- The neighbour by which a destination is reached (R347): none where it lies outside the subnet and there is no
gateway. -/
def State.nextHop (s : State) (dst : Nat) : Option Nat :=
  let u := s.uplink
  if u.ipMode = 0 ∨ Nat.land dst u.mask = Nat.land u.address u.mask then some dst
  else if u.gateway = 0 then none else some u.gateway

/-- ICMP_ECHO (R347): an echo request is answered. -/
def execIcmpEcho (peer dst : BitVec 32) (data : Bytes) (s : State) : Res :=
  if s.rd K.IP_STATE = 2 ∧ dst.toNat = s.uplink.address then
    match s.nextHop peer.toNat with
    | some via => done (s.emit (.echoReply peer.toNat via data))
    | none => done s
  else done s

/-! ### Time-stamps (R351) -/

/-- C_tx of an external port, ns. -/
def State.cTx (s : State) (p : Nat) : Rat := 72 + (s.rd (if p = 0 then K.PHY_TX_LATENCY_0 else K.PHY_TX_LATENCY_1) : Rat)

/-- C_rx of an external port, ns: an alignment term of n UI is 0.8 n ns. -/
def State.cRx (s : State) (p : Nat) : Rat :=
  112 + (s.rd (if p = 0 then K.PHY_RX_LATENCY_0 else K.PHY_RX_LATENCY_1) : Rat) + ((SMap.get s.uplink.alignment 0 p : Nat) : Rat) * 4 / 5

/-- The residence time of a message (R351), ns. -/
def State.residence (s : State) (p : Nat) (tIn tOut : Rat) : Rat := (tOut + s.cTx (1 - p)) - (tIn - s.cRx p)

/-- TC_CORRECTION (R351): a Sync or Delay_Req message of `bytes` octets passes from an external port to the other, with the
MAC time-stamps of ingress and egress. -/
def execTcCorrection (port : Fin 2) (domain : Fin 256) (udp : Bool) (tIn tOut : Rat) (correction : Int) (bytes : Nat) (s : State) : Res :=
  let p := port.val
  if s.upLink p = false ∨ s.upLink (1 - p) = false then done s
  else
    let s := (s.upRx p bytes).upTx (1 - p) bytes
    if s.rd K.TC_ENABLE = 1 ∧ s.rdN K.PTP_DOMAIN = domain.val ∧ (s.rd K.PTP_TRANSPORT == 1) = udp then
      let r := s.residence p tIn tOut
      let s := (s.bump K.TC_FRAMES).wr K.TC_MAX_RESIDENCE (max (s.rd K.TC_MAX_RESIDENCE) (satU 32 (roundHalfUp r)))
      done (s.emit (.ptpForward (1 - p) (wrapS 64 (correction + roundHalfUp (r * 65536)))))
    else done (s.emit (.ptpForward (1 - p) correction))

/-! ### The slave (R349, R352) -/

/-- A data set is better than another (best master clock algorithm): compared member by member. -/
def rankLess : List Nat → List Nat → Bool
  | [], _ => false
  | _, [] => false
  | x :: r, y :: q => Nat.blt x y || (Nat.beq x y && rankLess r q)

/-- The best qualified master. -/
def bestMaster (l : List Foreign) : Option Foreign :=
  (l.filter (·.qualified)).foldl (fun a m => match a with
    | none => some m
    | some b => if rankLess m.rank b.rank then some m else some b) none

/-- The slave is UNCALIBRATED or SLAVE. -/
def State.ptpHasMaster (s : State) : Bool := s.ptpState == 2 || s.ptpState == 3

/-- The master is selected. -/
def State.isMaster (s : State) (m : Foreign) : Bool := s.rdN K.MASTER_PORT == m.port && s.rdN K.MASTER_IDENTITY == m.identity

/-- A data word for a signed offset in ns. -/
def offsetWord (x : Rat) : Nat := toUnsigned 32 (satS 32 (roundHalfUp x))

/-- The slave loses its lock. -/
def State.ptpUnlock (s : State) : State :=
  s.raise Ev.PTP_UNLOCKED (toUnsigned 32 (s.rd K.PTP_OFFSET)) s.cycle

/-- A master is selected (R352). -/
def State.ptpSelect (s : State) (m : Foreign) : State :=
  let s := if s.ptpState = 3 then s.ptpUnlock else s
  let s := ((s.wrN K.MASTER_PORT m.port).wrN K.MASTER_IDENTITY m.identity).wr K.UTC_OFFSET m.utc
  (s.setPtp 2).updUp (fun u => { u with syncDiff := none, delayT3 := none, meanDelay := none, delayAt := none })

/-- An Announce message enters the masters heard: qualified when the one before came within four intervals; masters not
heard for so long are dropped. -/
def State.ptpHear (s : State) (m : Foreign) : State :=
  let now := s.clk.now
  let fresh (x : Foreign) : Bool := Nat.ble now (x.heardAt + 4 * x.interval)
  let old := (s.uplink.masters.filter fresh).any (fun x => x.port == m.port && x.identity == m.identity)
  let rest := s.uplink.masters.filter (fun x => fresh x && !(x.port == m.port && x.identity == m.identity))
  s.updUp (fun u => { u with masters := rest ++ [{ m with qualified := old, heardAt := now }] })

/-- PTP_ANNOUNCE (R352): an Announce message with the data set `rank` in the order of comparison. -/
def execPtpAnnounce (port : Fin 2) (domain : Fin 256) (rank : List Nat) (identity : BitVec 64) (utc : Int) (interval : Nat) (t : Nat)
    (s : State) : Res :=
  let s := s.at t
  if s.ptpState = 0 ∨ s.upLink port.val = false ∨ s.rdN K.PTP_DOMAIN ≠ domain.val then done s
  else
    let m : Foreign := { port := port.val, rank := rank, identity := identity.toNat, utc := utc, interval := interval, qualified := false, heardAt := 0 }
    let s := s.ptpHear m
    let s := if s.ptpHasMaster && s.isMaster m then s.wr K.UTC_OFFSET utc else s
    match bestMaster s.uplink.masters with
    | none => done s
    | some b => if s.ptpHasMaster && s.isMaster b then done s else done (s.ptpSelect b)

/-- An offset was computed in UNCALIBRATED or SLAVE (R352). -/
def State.ptpOffset (s : State) (off : Rat) : State :=
  let limit : Rat := s.rd K.LOCK_THRESHOLD
  if s.ptpState = 2 then
    let n := if absR off ≤ limit then s.uplink.within + 1 else 0
    if 16 ≤ n then (s.setPtp 3).raise Ev.PTP_LOCKED (offsetWord off) s.cycle else s.updUp (fun u => { u with within := n })
  else
    let n := if 4 * limit < absR off then s.uplink.beyond + 1 else 0
    if 4 ≤ n then (s.setPtp 2).ptpUnlock else s.updUp (fun u => { u with beyond := n })

/-- PTP_SYNC (R352, R454): a Sync message of the selected master sent at `t1` (with its Follow_Up and corrections) has the MAC
time-stamp `t2` of the slave's clock; while the slave is locked, wall time follows it. -/
def execPtpSync (port : Fin 2) (domain : Fin 256) (identity : BitVec 64) (t1 t2 : Rat) (t : Nat) (s : State) : Res :=
  let s := s.at t
  let p := port.val
  if s.ptpHasMaster = false ∨ s.rdN K.MASTER_PORT ≠ p ∨ s.rdN K.MASTER_IDENTITY ≠ identity.toNat ∨ s.rdN K.PTP_DOMAIN ≠ domain.val then
    done s
  else
    let diff := (t2 - s.cRx p) - t1
    let s := s.updUp (fun u => { u with syncDiff := some diff })
    match s.uplink.meanDelay with
    | none => done s
    | some d =>
      let off := diff - d
      let s := (s.wr K.PTP_OFFSET (satS 32 (roundHalfUp off))).ptpOffset off
      done (if s.ptpLocked then s.wallSet 1 (roundHalfUp (t1 + d)).toNat true else s)

/-- PTP_DELAY_REQ_SEND (R352): a Delay_Req leaves at the MAC time-stamp `t3` of the slave's clock, one each
2^DELAY_REQ_INTERVAL s. -/
def execPtpDelayReqSend (t3 : Rat) (t : Nat) (s : State) : Res :=
  let s := s.at t
  let p := s.rdN K.MASTER_PORT
  let every := 62500000 * 2 ^ (s.rd K.DELAY_REQ_INTERVAL + 4).toNat
  let due : Bool := match s.uplink.delayAt with
    | some d => s.elapsed d every
    | none => true
  if s.ptpHasMaster ∧ due ∧ s.upLink p then
    done ((s.updUp (fun u => { u with delayT3 := some (t3 + s.cTx p), delayAt := some s.clk.now })).emit (.delayReq p))
  else done s

/-- PTP_DELAY_RESP (R352): the selected master received the Delay_Req at `t4`. -/
def execPtpDelayResp (port : Fin 2) (identity : BitVec 64) (t4 : Rat) (s : State) : Res :=
  if s.ptpHasMaster = false ∨ s.rdN K.MASTER_PORT ≠ port.val ∨ s.rdN K.MASTER_IDENTITY ≠ identity.toNat then done s
  else match s.uplink.syncDiff, s.uplink.delayT3 with
    | some diff, some t3 =>
      let d := (diff + (t4 - t3)) / 2
      done ((s.wr K.MEAN_PATH_DELAY (satU 32 (roundHalfUp d))).updUp (fun u => { u with delayT3 := none, meanDelay := some d }))
    | _, _ => done s

/-- ANNOUNCE_RECEIPT_TIMEOUT (R352): no Announce of the selected master for three announce intervals. -/
def execAnnounceReceiptTimeout (t : Nat) (s : State) : Res :=
  let s := s.at t
  let heard : Bool := s.uplink.masters.any (fun m => s.isMaster m && Nat.blt s.clk.now (m.heardAt + 3 * m.interval))
  if s.ptpHasMaster = false ∨ heard then done s
  else
    let s := if s.ptpState = 3 then s.ptpUnlock else s
    done (((s.wr K.MASTER_PORT 0xFF).setPtp 1).updUp (fun u => { u with
      masters := u.masters.filter (fun m => Nat.blt s.clk.now (m.heardAt + 3 * m.interval)) }))

end Sys2Proof.Machine
end

