-- ==== Sys2Proof/Machine/Boot.lean ====
section
/-! DEFINITION. Clocks, reset, boot, firmware update and identity: R479 to R498; restoring stored settings (R335, R59);
uncorrectable errors of shared SRAM (R337). -/

namespace Sys2Proof.Machine

open Sys2Proof

/-! ### What a reset keeps (R484, R486) -/

/-- Entries kept over the device's life: in MRAM or fuses. -/
def lifeKey (k : Nat) : Bool :=
  let x := k / 256
  let u := k % 256
  x == 0x1301 || x == 0x1603 || (x == 0x1200 && u == 12) || (x == 0x1400 && (u == 2 || u == 3 || u == 9)) || (x == 0x1403 && u == 1)
    || (x == 0x7800 && (u == 2 || u == 3 || u == 4 || u == 9)) || (x == 0x1800 && (u == 5 || u == 10))
    || (x == 0x1600 && (u == 9 || u == 11)) || (x == 0x1604 && u == 1)

/-- Entries that AON holds. -/
def aonKey (k : Nat) : Bool :=
  let x := k / 256
  let u := k % 256
  (x == 0x1280 && Nat.ble 2 u && Nat.ble u 6) || (Nat.ble 0x1281 x && Nat.ble x 0x1285) || (x == 0x1200 && (u == 7 || u == 10))
    || (x == 0x1300 && u == 6) || (x == 0x7800 && u == 5)

/-- The newest valid record (R453). -/
def Recorder.newest (r : Recorder) : Option Bytes :=
  r.ring.foldl (fun a e =>
    if !recValid (uAt e.2 0 6) e.2 then a
    else match a with
      | some b => if uAt b 0 6 < uAt e.2 0 6 then some e.2 else a
      | none => some e.2) none

/-- The timebase after a POR (R454, R486): running time and wall time resume from the newest valid record. -/
def Recorder.clkAfterPor (r : Recorder) : Clk :=
  match r.newest with
  | some b =>
    let now := 1000 * (uAt b 8 8 + 1)
    { now := now, wall := some ((uAt b 16 8 : Int) - now) }
  | none => {}

/-- MRAM at a reset: a slot being written holds no valid image (R333). -/
def Mram.atReset (m : Mram) : Mram :=
  match m.storing with
  | some w => { m.setSlot w.slot none with storing := none, doneAt := none }
  | none => { m with doneAt := none }

/-- The recorder at a reset: AON keeps the FIFO, a POR only what MRAM holds (R484). -/
def Recorder.atReset (r : Recorder) (por : Bool) : Recorder :=
  if por then { ring := r.ring }
  else { fifo := r.fifo, ring := r.ring, lost := r.lost, lossFirst := r.lossFirst, lastWrite := r.lastWrite }

/-- A reset by a cause (R483 to R485): every domain but AON is off. A cause during a reset is added to its bits. -/
def State.resetBy (s : State) (cause : Nat) : State :=
  let por : Bool := cause == 1
  let s := if por then s
    else foldS State.recPush (foldS State.recAdmit s s.raised) s.recorder.steps
  let bits := setBit (if s.boot.state = .inReset then s.rdN K.RESET_CAUSE_BITS else 0) cause true
  let low := (((List.range 10).tail).find? (bit bits)).getD cause
  let s : State := { State.reset with
    clk := if por then s.recorder.clkAfterPor else { now := s.clk.now, wall := s.clk.wall }
    od := s.od.filter (fun e => lifeKey e.1 || (!por && aonKey e.1))
    recorder := s.recorder.atReset por
    lh := { password := s.lh.password }
    mram := s.mram.atReset
    power_ := if por then { pinA := s.power_.pinA, pinB := s.power_.pinB } else { s.power_ with trans := none, lost := [] }
    boot := { tapHolds := s.boot.tapHolds }
    ageing := s.ageing.atReset
    out := s.out, free := s.free, pending := s.pending }
  let s := (s.wrN K.RESET_CAUSE low).wrN K.RESET_CAUSE_BITS bits
  if s.lh.password.isSome then s.wr K.PASSWORD_STATE 1 else s

/-- REFCLK_LOSS (R480). -/
def execRefclkLoss (t : Nat) (s : State) : Res := done (((s.at t).raiseU Ev.CLOCK_FAULT none none []).resetBy 4)

/-- PLL_UNLOCK (R481): 0 SYS, 1 SKERRY, 2 SD_A, 3 SD_B, 4 SD_STRAIT, 5 IO. -/
def execPllUnlock (pll : Fin 6) (t : Nat) (s : State) : Res :=
  let s := s.at t
  let n := pll.val
  if bit (s.rdN K.PLL_LOCKED) n = false then done s
  else
    let s := (s.wrN K.PLL_LOCKED (setBit (s.rdN K.PLL_LOCKED) n false)).raiseU Ev.PLL_UNLOCK (some n) none []
    if n ≤ 1 then done (s.resetBy 5)
    else if n ≤ 3 then done (foldS State.portLinkLost s ((List.range 48).filter (fun p => portChannel p = n - 2)))
    else if n = 4 then done s.straitLost
    else done s

/-- PLL_RELOCK (R481). -/
def execPllRelock (pll : Fin 6) (t : Nat) (s : State) : Res :=
  let s := s.at t
  done (s.wrN K.PLL_LOCKED (setBit (s.rdN K.PLL_LOCKED) pll.val true))

/-- POWER_ON_RESET (R483). -/
def execPowerOnReset (s : State) : Res := done (s.resetBy 1)
/-- NRESET_PIN (R483). -/
def execNresetPin (t : Nat) (s : State) : Res := done ((s.at t).resetBy 2)
/-- BROWNOUT (R483, R469). -/
def execBrownout (t : Nat) (s : State) : Res := done ((s.at t).resetBy 3)

/-- The Supervisor runs. -/
def State.supOn (s : State) : Bool := s.domainOn 1

/-- SUPERVISOR_WATCHDOG (R483). -/
def execSupervisorWatchdog (t : Nat) (s : State) : Res :=
  let s := s.at t
  if s.supOn then done (s.resetBy 6) else done s

/-- The write of the key to RESET_CMD (R485). -/
def resetCmd (s : State) : WRes :=
  if s.boot.tapHolds then (s, .busy)
  else if s.axesQuiet then .ok (s.resetBy 8)
  else (s, .refused)

/-- RESET_CMD. -/
def execResetCmd (t : Nat) (s : State) : Res := answered (resetCmd (s.at t))

/-- TAP_INSTRUCTION (R495, R496): 0 BYPASS (or a TAP reset), 1 IDCODE, 2 SAMPLE/PRELOAD, 3 EXTEST, 4 CLAMP, 5 HIGHZ, 6 a debug
instruction, which acts as BYPASS with DEBUG_STATE LOCKED. -/
def execTapInstruction (instruction : Fin 7) (t : Nat) (s : State) : Res :=
  let s := s.at t
  let n := instruction.val
  if 3 ≤ n ∧ n ≤ 5 then
    if s.boot.tapHolds then done s else done ({ s with boot := { s.boot with tapHolds := true } }.resetBy 9)
  else
    let s := { s with boot := { s.boot with tapHolds := false } }
    if n = 1 then done (s.emit (.value (leBytes 4 (0x0412_856F % 2 ^ 28 + 2 ^ 28 * (Config.siliconRev % 16))))) else done s

/-! ### Images (R487 to R489) -/

/-- PAYLOAD_LENGTH of a header. -/
def hdrLength (h : Bytes) : Nat := uAt h 12 4
/-- SECURITY_VERSION. -/
def hdrSecurity (h : Bytes) : Nat := uAt h 7 1
/-- FIRMWARE_VERSION. -/
def hdrVersion (h : Bytes) : Nat := uAt h 8 4

/-- The checks of a header in the order of R488: 0 VALID, 1 HEADER, 2 REVOKED, 3 SIGNATURE, 4 ROLLBACK; 6 EMPTY is a header
of erased bytes. -/
def State.headerStatus (s : State) (h : Bytes) : Nat :=
  if h.all (· = 0xFF) then 6
  else if h.length ≠ 256 ∨ uAt h 0 4 ≠ 0x5746_4C4B ∨ uAt h 4 2 ≠ 1 ∨ (slice h 48 144).any (· ≠ 0) ∨ hdrLength h = 0
      ∨ 8388352 < hdrLength h then 1
  else if 3 < uAt h 6 1 ∨ bit (s.rdN K.KEY_REVOKED) (uAt h 6 1) then 2
  else if Config.signatureOk (uAt h 6 1) (h.take 192) (slice h 192 64) = false then 3
  else if hdrSecurity h < s.rdN K.FUSED_SV then 4
  else 0

/-- The payload is the one the header names (R488). -/
def payloadOk (h payload : Bytes) : Bool := payload.length == hdrLength h && Config.sha256 payload == slice h 16 32

/-- SLOT_STATUS and SLOT_VERSION of a slot. -/
def State.showSlot (s : State) (slot status : Nat) (h : Bytes) : State :=
  (s.wrN (K.SLOT_STATUS slot) status).wrN (K.SLOT_VERSION slot) (if status = 1 ∨ status = 6 then 0 else hdrVersion h)

/-- The header of a slot as last read. -/
def State.headerOf (s : State) (slot : Nat) : Bytes := s.boot.headers.getD slot []

/-- The slot tried first (R489), where a header is valid. -/
def State.firstSlot (s : State) : Option Nat :=
  let ok (k : Nat) : Bool := s.rd (K.SLOT_STATUS k) == 0
  let p := s.rdN K.BOOT_PREFER
  let rank (k : Nat) : Nat := 2 ^ 32 * hdrSecurity (s.headerOf k) + hdrVersion (s.headerOf k)
  if ok p then some p
  else if ok 0 && ok 1 then some (if rank 0 < rank 1 then 1 else 0)
  else if ok 0 then some 0
  else if ok 1 then some 1
  else none

/-- BOOT_FAIL: only AON runs (R489). -/
def State.bootFail (s : State) : State := { s with boot := { s.boot with state := .stopped } }.wr (K.DOMAIN_STATE 1) 0

/-- The records of the reset (R460, R486): RESET with the cause, and TIME_SET after a POR; the causes are counted. -/
def State.resetRecords (s : State) : State :=
  let bits := s.rdN K.RESET_CAUSE_BITS
  let s := foldS (fun s c => if bit bits c then s.bump (K.RESET_COUNT (c - 1)) else s) s (List.range 10).tail
  let s := s.recPush (s.recNow Rc.RESET (s.rdN K.RESET_CAUSE) 0 [])
  if bit bits 1 then
    let d := s.draw
    d.1.recPush (d.1.recNow Rc.TIME_SET 3 0 (leBytes 8 d.2 ++ leBytes 8 d.1.wallNow))
  else s

/-- Some feed is healthy for the domain: only then does it power up in a boot (R468, R516). -/
def State.canPower (s : State) (d : Nat) : Bool := s.feedOk 0 d || s.feedOk 1 d

/-- RESET_RELEASE (R489, R516): the ROM reads SFDP (`ddr`: the flash advertises 8D-8D-8D) and both headers; with no feed
healthy for SUP the boot ends in BOOT_FAIL. -/
def execResetRelease (header0 header1 : Bytes) (ddr : Bool) (t : Nat) (s : State) : Res :=
  let s := s.at t
  if s.boot.state ≠ .inReset ∨ s.boot.tapHolds then done s
  else if s.canPower 1 = false then
    let s := s.resetRecords
    done { s with boot := { s.boot with releasedAt := s.clk.now } }.bootFail
  else
    let s := ((s.resetRecords.wr (K.DOMAIN_STATE 1) 2).wr K.FLASH_MODE (b2i ddr))
    let s := (s.showSlot 0 (s.headerStatus header0) header0).showSlot 1 (s.headerStatus header1) header1
    let s := { s with boot := { s.boot with headers := [header0, header1], tried := [], releasedAt := s.clk.now } }
    match s.firstSlot with
    | some k => done { s with boot := { s.boot with state := .loading, trying := k, tried := [k] } }
    | none => done s.bootFail

/-- IMAGE_HASH_CHECK (R489): the payload read into SUP from the slot being tried. -/
def execImageHashCheck (payload : Bytes) (s : State) : Res :=
  if s.boot.state ≠ .loading then done s
  else
    let k := s.boot.trying
    if payloadOk (s.headerOf k) payload then
      done ({ s with boot := { s.boot with state := .image } }.wrN K.BOOT_SLOT k)
    else
      let s := s.wr (K.SLOT_STATUS k) 5
      let o := 1 - k
      if s.rd (K.SLOT_STATUS o) = 0 ∧ !s.boot.tried.contains o then
        done { s with boot := { s.boot with trying := o, tried := [k, o] } }
      else done s.bootFail

/-! ### Restoring settings (R335, R59) -/

/-- The image to load, its slot and BOOT_IMAGE_SOURCE (R335); `ok` says whether a slot's CRC is valid. -/
def Mram.bootImage (m : Mram) (ok : Nat → Bool) : Option (Nat × Image) × Nat :=
  match m.pointer with
  | none => (none, 2)
  | some p =>
    let good (k : Nat) : Option Image := if ok k then m.slot k else none
    match good p.1 with
    | some i => if i.seq = p.2 then (some (p.1, i), 0)
        else match good (1 - p.1) with
          | some j => (some (1 - p.1, j), 1)
          | none => (none, 2)
    | none => match good (1 - p.1) with
        | some j => (some (1 - p.1, j), 1)
        | none => (none, 2)

/-- The stored values become the values in force, or pending for the sets of R330 and R58; the safety set is active. -/
def State.loadImage (s : State) (i : Image) : State :=
  { s with
    od := i.od.foldl (fun m e => SMap.insert m e.1 e.2) s.od
    act := i.od.filter (fun e => isSafety e.1)
    odB := i.odB.foldl (fun m e => SMap.insert m e.1 e.2) s.odB }

/-- The active configuration returns to its defaults. -/
def State.configDefaults (s : State) : State :=
  let old := s.act
  let s := { s with act := s.act.filter (fun e => !isConfig e.1) }
  foldS (fun s a => s.axisChanged a (SMap.get old (odDefault (K.AXIS_TYPE a)) (K.AXIS_TYPE a))) s (List.range 128)

/-- The stored schedule is submitted with checks 1 to 7 (R59); without it an accepted configuration must also keep the
rules of the default cycle time (R335). -/
def State.scheduleSubmit (s : State) (configOk : Bool) : State :=
  match schedCheck s s.rd s.cf with
  | none => { s with act := replacePart isSched s.act (schedPart s.od) }.wr K.SCHED_COMMIT_RESULT 0
  | some f =>
    let s := s.wrN K.SCHED_COMMIT_RESULT f.word
    match if configOk then timeRules s.cf s.ct else none with
    | none => s
    | some k =>
      let w := configWord 2 k
      (s.configDefaults.wrN K.CONFIG_RESULT w).raise Ev.CFG_LIMIT w (k / 256)

/-- Filter programs, configuration and schedule of a loaded image, in this order (R319, R335, R59). -/
def State.submitImage (s : State) : State :=
  let s := foldS (fun s p => if (s.rdB (K.FP_IMAGE p)).isEmpty then s else (s.fpLoad p).1) s (List.range 64)
  let r := s.configSubmit (cycleNs (s.rdN K.CYCLE_TIME))
  r.1.scheduleSubmit r.2.isNone

/-- What restored settings begin: buckets are full (R456), CAN controllers and scan starts follow their modes, the IP
settings take effect (R348). -/
def State.beginSettings (s : State) : State :=
  let s := foldS (fun s c =>
    if s.rdN (K.BURST c) = 16 then s else s.setBucket c { tokens := s.rdN (K.BURST c) * 10 ^ 11, tLast := s.clk.now }) s (List.range 256)
  let s := foldS (fun s c => let v := s.rdN (K.CAN_MODE c)
    if v = 0 then s else (canModeWrite c v (s.wr (K.CAN_MODE c) 0)).1) s [0, 1]
  let s := foldS (fun s m => s.setModl m { (s.modl m) with since := s.netNow }) s [0, 1]
  s.ipStart

/-- BOOT_COMPLETE (R335, R473, R489, R516): the image is restored, IFC powers up from a healthy feed, and the device is in
STANDBY; `aOk` and `bOk` say whether the
settings images in slots A and B have a valid CRC. -/
def execBootComplete (aOk bOk : Bool) (t : Nat) (s : State) : Res :=
  let s := s.at t
  if s.boot.state ≠ .image then done s
  else
    let r := s.mram.bootImage (fun k => if k = 0 then aOk else bOk)
    let s := (if s.canPower Dom.IFC then s.wr (K.DOMAIN_STATE Dom.IFC) 2 else s).wrN K.BOOT_IMAGE_SOURCE r.2
    let s := match r.1 with
      | some (k, i) =>
        let s := ((s.loadImage i).submitImage.wrN K.ACTIVE_SLOT k).wrN K.IMAGE_SEQUENCE i.seq
        let s := s.wrN K.IMAGE_SIZE i.size
        if r.2 = 1 then s.raiseU Ev.STORE_FALLBACK none (some 0x1800) [] else s
      | none => s.raiseU Ev.STORE_IMAGE_INVALID none (some 0x1800) []
    let s := s.beginSettings
    done ({ s with boot := { s.boot with state := .running } }.wrN K.BOOT_TIME ((s.clk.now - s.boot.releasedAt) / 1000000))

/-! ### Fuses and keys (R490, R495) -/

/-- The header of the running image. -/
def State.runningHeader (s : State) : Bytes := s.headerOf (s.rdN K.BOOT_SLOT)

/-- The write of ROLLBACK_ADVANCE (R490). -/
def rollbackAdvance (w : Who) (n : Nat) (s : State) : WRes :=
  if n < s.rdN K.FUSED_SV ∨ 64 < n then (s, .range)
  else if hdrSecurity s.runningHeader < n then (s.raiseU Ev.ROLLBACK_REJECTED none (some 10) (whoExtra w), .refused)
  else .ok ((s.wrN K.FUSED_SV n).raiseU Ev.FIRMWARE_UPDATE none (some 0) (whoExtra w))

/-- ROLLBACK_ADVANCE. -/
def execRollbackAdvance (w : Who) (n : Fin 256) (s : State) : Res := answered (rollbackAdvance w n.val s)

/-- The write of KEY_REVOKE (R490). -/
def keyRevoke (w : Who) (keys : Nat) (s : State) : WRes :=
  if 16 ≤ keys then (s, .range)
  else if bit keys (uAt s.runningHeader 6 1) then (s.raiseU Ev.FIRMWARE_UPDATE none (some 10) (whoExtra w), .refused)
  else .ok ((s.wrN K.KEY_REVOKED (Nat.lor (s.rdN K.KEY_REVOKED) keys)).raiseU Ev.FIRMWARE_UPDATE none (some 0) (whoExtra w))

/-- KEY_REVOKE. -/
def execKeyRevoke (w : Who) (keys : Fin 256) (s : State) : Res := answered (keyRevoke w keys.val s)

/-- The write of the key to DEBUG_LOCK (R495). -/
def debugLock (w : Who) (s : State) : WRes := .ok ((s.wr K.DEBUG_STATE 1).raiseU Ev.DEBUG_LOCK none (some 0) (whoExtra w))

/-- DEBUG_LOCK. -/
def execDebugLock (w : Who) (s : State) : Res := answered (debugLock w s)

/-! ### Firmware update (R491) -/

/-- The write of BOOT_PREFER. -/
def bootPrefer (v : Nat) (s : State) : WRes := .ok (s.wrN K.BOOT_PREFER v)

/-- BOOT_PREFER_WRITE. -/
def execBootPreferWrite (v : Fin 2) (s : State) : Res := answered (bootPrefer v.val s)

/-- FW_UPDATE_STATE: 0 IDLE, 1 ERASING, 2 RECEIVING, 3 VERIFYING, 4 READY, 5 FAILED. -/
def State.fwState (s : State) : Nat := s.rdN K.FW_UPDATE_STATE

/-- The slot that is not running. -/
def State.spareSlot (s : State) : Nat := 1 - s.rdN K.BOOT_SLOT

/-- The write of BEGIN. -/
def fwBegin (s : State) : WRes :=
  if s.fwState = 1 ∨ s.fwState = 3 then (s, .busy)
  else if s.fwState = 2 then (s, .refused)
  else .ok (((s.wr K.FW_UPDATE_STATE 1).wr K.RECEIVED 0).emit (.flashErase s.spareSlot))

/-- FW_UPDATE_BEGIN. -/
def execFwUpdateBegin (s : State) : Res := answered (fwBegin s)

/-- FW_ERASE_COMPLETE. -/
def execFwEraseComplete (s : State) : Res := if s.fwState = 1 then done (s.wr K.FW_UPDATE_STATE 2) else done s

/-- The write of FW_UPDATE_DATA: offset and data. -/
def fwData (b : Bytes) (s : State) : WRes :=
  let data := b.drop 4
  let at_ := uAt b 0 4
  if s.fwState ≠ 2 ∨ at_ ≠ s.rdN K.RECEIVED ∨ data.length = 0 ∨ 4096 < data.length ∨ 8388608 < at_ + data.length then (s, .refused)
  else .ok ((s.wrN K.RECEIVED (at_ + data.length)).emit (.flashProgram s.spareSlot at_ data))

/-- FW_UPDATE_DATA. -/
def execFwUpdateData (b : Bytes) (s : State) : Res := answered (fwData b s)

/-- The write of COMMIT. -/
def fwCommit (s : State) : WRes :=
  if s.fwState = 1 ∨ s.fwState = 3 then (s, .busy)
  else if s.fwState = 2 then .ok (s.wr K.FW_UPDATE_STATE 3)
  else (s, .refused)

/-- FW_UPDATE_COMMIT. -/
def execFwUpdateCommit (s : State) : Res := answered (fwCommit s)

/-- FW_VERIFY_COMPLETE: the slot as read back is checked under R488. -/
def execFwVerifyComplete (header payload : Bytes) (s : State) : Res :=
  if s.fwState ≠ 3 then done s
  else
    let k := s.spareSlot
    let h := s.headerStatus header
    let st := if h ≠ 0 then h else if payloadOk header payload then 0 else 5
    let s := (s.showSlot k st header).wrN K.FW_UPDATE_RESULT st
    if st = 0 then
      done (((s.wrN K.BOOT_PREFER k).wr K.FW_UPDATE_STATE 4).raiseX Ev.FIRMWARE_UPDATE (hdrVersion header) 0 noWho)
    else
      let s := s.wr K.FW_UPDATE_STATE 5
      if st = 4 then done (s.raiseX Ev.ROLLBACK_REJECTED (hdrVersion header) 4 noWho) else done s

/-- The write of ABORT. -/
def fwAbort (s : State) : WRes :=
  if s.fwState = 1 ∨ s.fwState = 2 then .ok (s.wr K.FW_UPDATE_STATE 0) else (s, .refused)

/-- FW_UPDATE_ABORT. -/
def execFwUpdateAbort (s : State) : Res := answered (fwAbort s)

/-! ### Identity (R493, R494) -/

/-- COMMISSIONING: no trust anchor is installed. -/
def State.commissioning (s : State) : Bool := (List.range 4).all (fun k => (s.rdB (K.TRUST_ANCHOR k)).isEmpty)

/-- The write of TRUST_ANCHOR (R494): the first anchor ends COMMISSIONING and closes its sessions. -/
def trustAnchorWrite (w : Who) (k : Nat) (der : Bytes) (s : State) : WRes :=
  if 1024 < der.length then (s, .length)
  else
    let was := s.commissioning
    let s := (s.wrB (K.TRUST_ANCHOR k) der).raiseU Ev.CERT_CHANGE none (some 0) (whoExtra w)
    if was && !s.commissioning then
      .ok (foldS (fun s n => if (s.session n).commissioning then s.closeSession n else s) s (List.range 8))
    else .ok s

/-- TRUST_ANCHOR_WRITE. -/
def execTrustAnchorWrite (w : Who) (anchor : Fin 4) (der : Bytes) (s : State) : Res := answered (trustAnchorWrite w anchor.val der s)

/-! ### Uncorrectable errors (R337) -/

/-- A point's class has no valid input until it is next refreshed. -/
def State.pointLost (s : State) (p : Nat) : State :=
  match pointOwner s.cf p with
  | some (n, _, r) => (s.updIsland n (fun i => { i with memClasses := if i.memClasses.contains r.cls then i.memClasses
        else r.cls :: i.memClasses })).wr (K.INPUTS_VALID n) 0
  | none => s

/-- The reaction of the word's area. -/
def State.sramLost (s : State) : SramArea → State
  | .axisState a => s.axisFault a.val Ev.MEMORY_ERROR 0
  | .segmentPool a => s.axisFault a.val Ev.MEMORY_ERROR 0
  | .taskStore id => s.cancelWhere false (fun t => t.id == id)
  | .pointImage p => s.pointLost p.val
  | .portBuffer _ => s
  | .eventWheel e => { s with wheel := SMap.erase s.wheel e.val }.wheelStatus e.val 5 (s.wheelLate e.val) 0
  | .configImage => foldS (fun s a => s.axisFault a Ev.MEMORY_ERROR 0) s (axesOn s.cf)
  | .acquisition row c =>
    let mark (x : AcqRow) : AcqRow := { x with invalid := setBit x.invalid c.val true }
    { s with acq := { s.acq with rows := s.acq.rows.modify row mark } }
  | .trace a row =>
    let x := s.trace a.val
    match SMap.find x.ring row with
    | some (w :: r) => s.setTrace a.val { x with ring := SMap.insert x.ring row (setBit w 24 true :: r) }
    | _ => s
  | .supervisor => s.resetBy 7

/-- SRAM_UNCORRECTABLE (R337). -/
def execSramUncorrectable (address : BitVec 24) (area : SramArea) (t : Nat) (s : State) : Res :=
  let s := s.at t
  let s := ((s.bump K.SRAM_UNCORRECTABLE).wrN K.LAST_ECC_ADDRESS address.toNat).wr K.LAST_ECC_KIND 2
  done ((s.raiseU Ev.SRAM_UNCORRECTABLE (some address.toNat) none []).sramLost area)

end Sys2Proof.Machine
end

