-- ==== Sys2Proof/Machine/Ageing.lean ====
section
/-! DEFINITION. Ageing and margin planning: R499 to R505. -/

namespace Sys2Proof.Machine

open Sys2Proof

/-- Update the ageing unit. -/
def State.updAgeing (s : State) (f : Ageing → Ageing) : State := { s with ageing := f s.ageing }

/-- AGEING_MEASUREMENT (R499): a result, while its domain is on, its link up, or the PTP slave locked. -/
def execAgeingMeasurement (result : AgeingResult) (t : Nat) (s : State) : Res :=
  let s := s.at t
  match result with
  | .degradation d v => if d.val = 0 ∨ s.domainOn d.val then done (s.wrN (K.DEGRADATION d) v) else done s
  | .mram worst rows => done ((s.wrN K.WORST_ROW_WEAR worst).updAgeing (fun x => { x with wornRows := rows }))
  | .eye p v =>
    let up : Bool := if p.val = 48 then s.straitUp else (s.port p.val).linkUp
    if up then
      done ((s.wrN (K.EYE_OPENING p) v).updAgeing (fun x => { x with
        scanned := if x.scanned.contains p.val then x.scanned else p.val :: x.scanned }))
    else done s
  | .drift v => if s.ptpLocked then done (s.wr K.REF_DRIFT (satS 32 v)) else done s

/-! ### The plan (R500 to R502) -/

/-- The cluster is powered or was within the last 24 h. -/
def State.clusterRecent (s : State) (j : Nat) : Bool :=
  s.cluster j != 0 || (match SMap.find s.ageing.poweredAt j with
    | some t => Nat.ble s.clk.now (t + 86400000000000)
    | none => false)

/-- The largest degradation among SUP, CORE and those clusters, 0.01 %. -/
def State.worstAgeing (s : State) : Nat :=
  ([1, 13] ++ ((List.range 8).filter s.clusterRecent).map (3 + ·)).foldl (fun m d => max m (s.rdN (K.DEGRADATION d))) 0

/-- VDD_CORE trim for a degradation, mV. -/
def trimFor (d : Nat) : Nat := if d ≤ 200 then 0 else min 30 (5 * ((d - 200 + 49) / 50))

/-- Skerry clock for a degradation, MHz. -/
def clockFor (d : Nat) : Nat := if d ≤ 500 then 1000 else if d ≤ 800 then 950 else 900

/-- The accepted preset of a port: the active one where none waits. -/
def State.presetOf (s : State) (p : Nat) : Nat := (SMap.find s.ageing.presets p).getD (s.rdN (K.EQ_PRESET p))

/-- The preset a plan gives a port. -/
def State.presetFor (s : State) (p : Nat) : Nat :=
  let e := s.rdN (K.EQ_PRESET p)
  max (s.presetOf p) (if s.ageing.scanned.contains p && Nat.blt (s.rdN (K.EYE_OPENING p)) 30 then min 7 (e + 1) else e)

/-- A list of presets as a map. -/
def presetMap (f : Nat → Nat) : SMap Nat := ((List.range 49).map (fun p => (p, f p))).filter (fun e => e.2 ≠ 0)

/-- The active plan: what was accepted. -/
def State.planActive (s : State) : Plan :=
  { trim := s.rdN K.TRIM_ACTIVE, clock := s.ageing.clock, presets := presetMap s.presetOf
    spares := s.rdN K.SPARES_USED + s.ageing.sparesDue }

/-- The plan of R500; it never lowers the trim, a preset or the spares, and never raises the clock. -/
def State.planNew (s : State) : Plan :=
  let d := s.worstAgeing
  { trim := max (s.rdN K.TRIM_ACTIVE) (trimFor d)
    clock := min s.ageing.clock (clockFor d)
    presets := presetMap s.presetFor
    spares := max (s.rdN K.SPARES_USED + s.ageing.sparesDue) (min 64 (s.rdN K.SPARES_USED + s.ageing.wornRows)) }

/-- The configured axis-cycle load of R21, axis-cycles per second. -/
def State.axisLoad (s : State) : Rat := (((axesOn s.cf).length * 1000000000 : Nat) : Rat) / ((max 1 s.ct : Nat) : Rat)

/-- HEADROOM of a plan's clock at a measured busy fraction (R501). -/
def State.headroom (s : State) (clock : Nat) (u : Rat) : Int :=
  let a := s.axisLoad
  let c : Rat := if u = 0 then 4096000
    else a * ((clock : Rat) / ((max 1 (s.rdN K.SKERRY_CLOCK) : Nat) : Rat)) * (1 / 2) / u
  satS 32 (roundHalfUp ((if c < 4096000 then c else 4096000) - a))

/-- The causes of AGEING_ALARM that hold (R502). -/
def State.alarms (s : State) : List Nat :=
  let hold (c : Nat) : Bool :=
    if c = 1 then Nat.blt 1200 s.worstAgeing
    else if c = 2 then decide (s.rd K.HEADROOM < 0)
    else if c = 3 then Nat.blt 56 (s.rdN K.SPARES_USED)
    else if c = 4 then s.ageing.scanned.any (fun p => Nat.blt (s.rdN (K.EYE_OPENING p)) 20 && s.rdN (K.EQ_PRESET p) == 7)
    else decide (s.rd K.REF_DRIFT < -5000 ∨ 5000 < s.rd K.REF_DRIFT)
  [1, 2, 3, 4, 5].filter hold

/-- An accepted plan is applied under R504. -/
def State.planApply (s : State) (n : Nat) (p : Plan) : State :=
  let waits := (List.range 49).filter (fun i => SMap.get p.presets 0 i != s.rdN (K.EQ_PRESET i))
  let s := (s.wrN K.TRIM_ACTIVE p.trim).wr K.PLAN_STATE 0
  let s := s.updAgeing (fun x => { x with
    proposal := none, clock := p.clock, presets := waits.map (fun i => (i, SMap.get p.presets 0 i))
    sparesDue := p.spares - s.rdN K.SPARES_USED })
  s.raiseU Ev.MARGIN_PLAN_ACCEPTED (some n) none []

/-- PLAN_NUMBER: the proposal's number, or the last plan computed. -/
def State.showPlan (s : State) : State :=
  s.wrN K.PLAN_NUMBER (match s.ageing.proposal with
    | some x => x.1
    | none => s.ageing.lastPlan)

/-- A plan is computed with the busy fraction of the last hour (R500 to R503). -/
def State.planCompute (s : State) (u : Rat) : State :=
  let p := s.planNew
  let n := s.ageing.lastPlan + 1
  let s := (s.wr K.HEADROOM (s.headroom p.clock u)).updAgeing (fun x => { x with lastPlan := n })
  let l := s.alarms
  let s := foldS (fun s c => s.raiseU Ev.AGEING_ALARM (some c) none []) (s.wrN K.ALARM_CAUSES (l.map (fun c => 2 ^ (c - 1))).sum) l
  if p = s.planActive then s.showPlan
  else
    let s := ((s.wrN K.TRIM_PROPOSED p.trim).wrN K.CLOCK_PROPOSED p.clock).wrN K.SPARES_PROPOSED p.spares
    let s := (((s.wr K.PLAN_STATE 1).updAgeing (fun x => { x with proposal := some (n, p) })).showPlan).raiseU
      Ev.MARGIN_PLAN_PROPOSED (some n) none []
    if s.rd K.AUTO_ACCEPT = 1 then s.planApply n p else s

/-- PLAN_INTERVAL_EXPIRY (R500); `busy` is the busy fraction of the skerries over the last hour. -/
def execPlanIntervalExpiry (busy : Rat) (t : Nat) (s : State) : Res :=
  let s := s.at t
  if s.elapsed s.ageing.computedAt (86400000000000 * s.rdN K.PLAN_INTERVAL) then
    done ((s.updAgeing (fun x => { x with computedAt := s.clk.now })).planCompute busy)
  else done s

/-- PLAN_COMPUTE (R500). -/
def execPlanCompute (busy : Rat) (s : State) : Res := answered (.ok (s.planCompute busy))

/-- The write of PLAN_ACCEPT (R503). -/
def planAccept (n : Nat) (s : State) : WRes :=
  match s.ageing.proposal with
  | some x => if x.1 = n then .ok (s.planApply n x.2).showPlan else (s, .refused)
  | none => (s, .refused)

/-- PLAN_ACCEPT. -/
def execPlanAccept (n : BitVec 32) (s : State) : Res := answered (planAccept n.toNat s)

/-- The write of PLAN_REJECT (R503). -/
def planReject (s : State) : WRes := .ok ((s.wr K.PLAN_STATE 0).updAgeing (fun x => { x with proposal := none })).showPlan

/-- PLAN_REJECT. -/
def execPlanReject (s : State) : Res := answered (planReject s)

/-- VID_STEP (R504): the code moves by one toward trim / 5 mV, at least 1 ms after the last step. -/
def execVidStep (t : Nat) (s : State) : Res :=
  let s := s.at t
  let want := s.rdN K.TRIM_ACTIVE / 5
  let v := s.ageing.vid
  let early : Bool := match s.ageing.vidAt with
    | some w => !s.elapsed w 1000000
    | none => false
  if v = want ∨ early ∨ s.boot.state ≠ .running then done s
  else
    let v := if v < want then v + 1 else v - 1
    done ((s.updAgeing (fun x => { x with vid := v, vidAt := some s.clk.now })).emit (.vid v))

/-- MRAM_SPARE_USED (R504): a row was copied to its spare and read back, and the map is switched. -/
def execMramSpareUsed (s : State) : Res :=
  if s.ageing.sparesDue = 0 then done s
  else
    let s := (s.wrN K.SPARES_USED (s.rdN K.SPARES_USED + 1)).updAgeing (fun x => { x with
      sparesDue := x.sparesDue - 1, wornRows := x.wornRows - 1 })
    done (s.raiseU Ev.MRAM_SPARE_USED none none [])

end Sys2Proof.Machine
end

