-- ==== Sys2Proof/Machine/ObjectDictionary.lean ====
section
/-! DEFINITION. The object dictionary as the services meet it (R322 to R331): which entries there are, the checks of an
access, what a read returns, what a write does, and the counters a COUNTER_RESET zeroes. -/

namespace Sys2Proof.Machine

open Sys2Proof

/-- The code of a result (R325). -/
def Ans.code : Ans → Nat
  | .ok => 0
  | .noObject => 1
  | .noSub => 2
  | .readOnly => 3
  | .writeOnly => 4
  | .role => 5
  | .password => 6
  | .grant => 7
  | .length => 8
  | .range => 9
  | .refused => 10
  | .busy => 11
  | .groupFailed => 12

/-! ### Which entries there are (R322, R323, R290) -/

/-- The number of the axis whose object an index is, and the object's number (R323). -/
def axisObject (index : Nat) : Option (Nat × Nat) :=
  if 0x4000 ≤ index ∧ index < 0x5000 then some ((index - 0x4000) / 32, (index - 0x4000) % 32) else none

/-- The index is reserved for now (R323): an object but 0 of an axis without a type. -/
def State.axisReserved (s : State) (index : Nat) : Bool :=
  match axisObject index with
  | some (a, k) => k != 0 && s.rd (K.AXIS_TYPE a) == 0 && s.cf (K.AXIS_TYPE a) == 0
  | none => false

/-- The type of a point's entry (R290). -/
def pointType (ty : Nat) : OdType := if ty = 0 then .bool else if ty = 1 then .u 8 else if ty = 2 then .i 16 else if ty = 3 then .u 16 else .i 32

/-- The point window's row for a point (R290); that of a point no island owns takes any length, its access being refused
later. -/
def pointRow (index : Nat) (o : Option (Nat × Nat × PointRun)) : OdRow :=
  match o with
  | some (_, _, r) =>
    { base := index, count := 1, stride := 1, lo := 0, n := 256, ty := pointType r.ty, access := if r.output then .rw else .ro, dflt := 0
      range := .between (pointRange r.ty).1 (pointRange r.ty).2, stored := false, writeRole := 1, readRole := 0, cls := .live }
  | none =>
    { base := index, count := 1, stride := 1, lo := 0, n := 256, ty := .octet 8192, access := .rw, dflt := 0, range := .any
      stored := false, writeRole := 1, readRole := 0, cls := .live }

/-- An entry's row, or why there is none (R325, checks 1 and 2). -/
def State.entry (s : State) (index sub : Nat) : Except Ans OdRow :=
  if 0x8000 ≤ index ∧ index < 0x8400 then .ok (pointRow index (pointOwner s.cf (256 * (index - 0x8000) + sub)))
  else if !odListed index || s.axisReserved index then .error .noObject
  else match odRow (odKey index sub) with
    | some r => .ok r
    | none => .error .noSub

/-! ### Values (R324) -/

/-- The number that octets of a type's length stand for, REAL32 by its pattern. -/
def OdType.number (t : OdType) (b : Bytes) : Int :=
  match t with
  | .i n => sAt b 0 (n / 8)
  | t => uAt b 0 t.size

/-- The octets of a number of a type. -/
def OdType.octets (t : OdType) (v : Int) : Bytes := leInt t.size v

/-- The octets fit the type's length (R324); of the octet entries 0x1401 sub 2, 0x1402 and FP_IMAGE take shorter values,
and so does a point no island owns. -/
def OdType.fits (t : OdType) (b : Bytes) : Bool :=
  match t with
  | .octet n => if n = 4100 ∨ n = 1024 ∨ n = 4132 ∨ n = 8192 then Nat.ble b.length n else Nat.beq b.length n
  | .vstring n => Nat.ble b.length n
  | t => Nat.beq b.length t.size

/-- Printable ASCII (R324). -/
def printable (b : Bytes) : Bool := b.all (fun c => Nat.ble 0x20 c.toNat && Nat.ble c.toNat 0x7E)

/-- Numbers of COUNTER_SELECT of an event (R415). -/
def selectCount (event : Nat) : Nat :=
  match event with
  | 2 | 4 | 5 | 6 | 7 => 128
  | 8 | 9 => 48
  | 10 | 11 => 24
  | 12 => 256
  | 13 | 14 => 64
  | 15 => 32
  | 16 => 2
  | 17 => 10
  | 18 => 8
  | _ => 65536

/-- SOURCE_REFs of a SOURCE_KIND (R403, R419). -/
def sourceCount (kind : Nat) : Nat :=
  match kind with
  | 1 => 128
  | 3 => 32
  | 4 => 8
  | _ => 262144

/-- The special ranges of the acquisition, trace, counter, safe output and recorder objects. -/
def State.moreOk (s : State) (k : Nat) (v : Int) : SpecialRange → Bool
  | .acqLength => decide (1 ≤ v ∧ v ≤ s.acqDepth)
  | .acqPretrigger => decide (v < s.rd K.LENGTH)
  | .acqReadRow => decide (v < s.rd K.LENGTH)
  | .trigRef => decide (v < if s.rd K.TRIG_KIND = 6 then 4 else 256)
  | .sourceRef => decide (v < sourceCount (s.rdN (k - 1)))
  | .postFaultRows => decide (v < s.traceDepth ((k / 256 - 0x4014) / 32))
  | .counterSelect => v == 65535 || decide (v < selectCount (s.rdN (k - 256)))
  | .soRef => decide (v < if s.rd (k - 1) = 2 then 128 else 8)
  | .recorderRate => if recFloor (k % 256) then decide (100 ≤ v) else true
  | .recorderBurst => decide (v ≤ 1024) && (if recFloor (k % 256) then decide (1 ≤ v) else true)
  | _ => true

/-- A written value lies inside its type and range (R325, check 9). -/
def State.rangeOk (s : State) (r : OdRow) (k : Nat) (b : Bytes) : Bool :=
  match r.ty with
  | .vstring _ => if k = K.PASSWORD_NEW then passwordOk b else printable b
  | .octet _ => true
  | t =>
    let v := t.number b
    t.holds v && match r.range with
      | .special x => specialOk s k v x && s.moreOk k v x
      | x => x.plain v

/-! ### Checks 1 to 9 (R325) -/

/-- Entries a read of which needs the session's counter grant (R418). -/
def needsGrant (index : Nat) : Bool := Nat.ble 0x7604 index && Nat.ble index 0x7614

/-- The session's role suffices for the write (R325 check 5, R448, R494). -/
def State.mayWrite (s : State) (w : Who) (r : OdRow) (index sub : Nat) : Bool :=
  if (s.session w.session.val).commissioning && !(index == 0x1402 && r.isBytes) then false
  else if odKey index sub = K.PASSWORD_NEW ∧ s.rd K.PASSWORD_STATE = 0 then Nat.ble 4 w.role.val
  else Nat.ble r.writeRole w.role.val

/-- The write needs the Safety Officer password (R446, R448). -/
def State.needsPassword (s : State) (r : OdRow) (k : Nat) : Bool :=
  r.cls == .safety || (k == K.PASSWORD_NEW && s.rd K.PASSWORD_STATE != 0)

/-- The checks of a write that are made when it arrives, in order: the state after them, in which a wrong password is
counted, and the first result that applies. -/
def State.writeCheck (s : State) (w : Who) (index sub : Nat) (b : Bytes) : State × Ans :=
  match s.entry index sub with
  | .error a => (s, a)
  | .ok r =>
    let k := odKey index sub
    if r.access == .ro then (s, .readOnly)
    else if !s.mayWrite w r index sub then (s, .role)
    else if s.lockBar w then (s, .password)
    else
      let p : State × Bool := if s.needsPassword r k then s.passCheck w else (s, true)
      if !p.2 then (p.1, .password)
      else if !r.ty.fits b then (p.1, .length)
      else if !p.1.rangeOk r k b then (p.1, .range)
      else (p.1, .ok)

/-- Each answer of ROLE, PASSWORD or GRANT raises ACCESS_DENIED (R493). -/
def State.denied (s : State) (w : Who) (a : Ans) : State :=
  if a = .role ∨ a = .password ∨ a = .grant then s.raiseU Ev.ACCESS_DENIED none (some a.code) (whoExtra w) else s

/-! ### Counters (COUNTER_RESET) -/

/-- Keys of subs `a` to `b` of an index. -/
def subs (index a b : Nat) : List Nat := (fromTo a (b + 1)).map (odKey index)

/-- The counters that COUNTER_RESET of an object zeroes, by index and sub; nothing where the entry is none. -/
def resetKeys (index sub : Nat) : Option (List Nat) :=
  let f := (index - 0x4000) % 32
  if 0x2100 ≤ index ∧ index < 0x2130 ∧ sub = 16 then some (subs index 8 15)
  else if 0x2200 ≤ index ∧ index < 0x2380 ∧ index % 16 = 3 ∧ sub = 9 then some (subs index 1 8)
  else if index = 0x3000 ∧ sub = 12 then some (subs 0x3000 6 11 ++ subs 0x3001 1 128 ++ subs 0x3002 1 128)
  else if 0x3400 ≤ index ∧ index < 0x3800 ∧ index % 16 = 1 ∧ sub = 5 then some (subs index 1 4)
  else if 0x4000 ≤ index ∧ index < 0x5000 then
    if f = 7 ∧ sub = 25 then some (subs index 9 24)
    else if f = 9 ∧ sub = 14 then some (subs index 12 13)
    else if f = 10 ∧ sub = 18 then some (subs index 14 16)
    else if f = 14 ∧ sub = 16 then some (subs index 11 12 ++ subs index 14 15)
    else if f = 21 ∧ sub = 7 then some (subs index 1 6)
    else none
  else if 0x6E08 ≤ index ∧ index < 0x6E10 ∧ sub = 8 then some (subs index 4 5)
  else if index = 0x5400 ∧ sub = 8 then some (subs index 4 7)
  else if index = 0x1100 ∧ sub = 6 then some (subs index 1 2)
  else if index = 0x1280 ∧ sub = 7 then some (subs index 4 5)
  else if index = 0x1A00 ∧ sub = 3 then
    some (subs index 1 2 ++ subs 0x1A08 1 16 ++ (fromTo 0x1A10 0x1A20).flatMap (fun i => subs i 0 15))
  else if index = 0x6803 ∧ sub = 9 then some (subs index 1 8 ++ subs 0x6804 5 7)
  else if (index = 0x6A03 ∨ index = 0x6A13) ∧ sub = 8 then
    some (subs (index - 3) 19 20 ++ subs (index - 1) 9 10 ++ subs index 5 7 ++ subs (index + 1) 7 7)
  else if (index = 0x6C00 ∨ index = 0x6C01) ∧ sub = 20 then some (subs index 12 13 ++ subs index 15 15 ++ subs index 18 19)
  else if 0x6C30 ≤ index ∧ index < 0x6C50 ∧ sub = 7 then some (subs index 5 6)
  else none

/-- Zero the counters named; OPERATION_TIME of an axis starts again. -/
def State.resetCounters (s : State) (index : Nat) (l : List Nat) : State :=
  let s := s.zero l
  match axisObject index with
  | some (a, 21) => s.updAxis a (fun x => { x with opNs := 0 })
  | _ => s

/-- The sub of COUNTER_RESET in an object. -/
def resetSub (index : Nat) : Option Nat := (List.range 26).find? (fun u => (resetKeys index u).isSome)

/-- COUNTER_RESET: a write of 1 to the COUNTER_RESET of an object. -/
def execCounterReset (index : Fin 65536) (s : State) : Res :=
  match resetSub index.val with
  | some u => match resetKeys index.val u with
    | some l => answered (.ok (s.resetCounters index.val l))
    | none => done s
  | none => done s

/-! ### What a write does -/

/-- An effect that answers at once. -/
def atOnce (r : WRes) : Option PowerAns := some (r.1, some r.2)

/-- Writes of the system objects that act beyond their value: 0x1000 to 0x1AFF. -/
def State.sysEffect (s : State) (w : Who) (k : Nat) (v : Int) (b : Bytes) : Option PowerAns :=
  let n := v.toNat
  if k = K.POWER_CMD then some (powerCmd n s)
  else if k = K.CLUSTER_SELECT then some (clusterSelectWrite n s)
  else if k = K.ACQ_SELECT then some (acqSelectWrite (n == 1) s)
  else if k = K.TRIP_CLEAR then atOnce (tripClear s)
  else if k = K.RESET_CMD then atOnce (resetCmd s)
  else if k = K.WALL_TIME_SET then atOnce (s.wallTimeSet n)
  else if k = K.BOOT_PREFER then atOnce (bootPrefer n s)
  else if k = K.ROLLBACK_ADVANCE then atOnce (rollbackAdvance w n s)
  else if k = K.KEY_REVOKE then atOnce (keyRevoke w n s)
  else if k = K.FW_UPDATE_CONTROL then atOnce (if n = 1 then fwBegin s else if n = 2 then fwCommit s else fwAbort s)
  else if k = K.FW_UPDATE_DATA then atOnce (fwData b s)
  else if k / 256 = 0x1402 then atOnce (trustAnchorWrite w (k % 256 - 2) b s)
  else if k = K.DEBUG_LOCK then atOnce (debugLock w s)
  else if k = K.PLAN_COMPUTE then atOnce (.ok ({ s with free := s.free + 1 }.planCompute (Config.busyFraction s.free)))
  else if k = K.PLAN_ACCEPT then atOnce (planAccept n s)
  else if k = K.PLAN_REJECT then atOnce (planReject s)
  else if k = K.STORE then atOnce (store s)
  else if k = K.RESTORE_DEFAULTS then atOnce (restoreDefaults s)
  else if k = K.CONFIG_COMMIT then atOnce (configCommit s)
  else if k = K.CONFIG_DISCARD then atOnce (configDiscard s)
  else if k / 256 = 0x1A06 then
    let c := k % 256 - 1
    atOnce (.ok ((s.wr k v).channelCanWritten c (s.rdN (K.CHANNEL_CAN c))))
  else none

/-- Writes of the network and skerry objects that act beyond their value: 0x2000 to 0x3FFF. -/
def State.netEffect (s : State) (k : Nat) (v : Int) (b : Bytes) : Option PowerAns :=
  let n := v.toNat
  let x := k / 256
  let u := k % 256
  if k = K.SCHED_COMMIT then atOnce (schedCommit s)
  else if 0x2100 ≤ x ∧ x < 0x2130 ∧ u = 1 then atOnce (portEnableWrite (x - 0x2100) (n == 1) s)
  else if k = K.NETWORK_CONTROL then atOnce (if n = 1 then networkStart s else networkStop s)
  else if k = K.RESYNC_REQUEST then atOnce (resyncRequest s)
  else if x = 0x3102 then atOnce (if n = 1 then skerryFence (u - 1) s else testAndReturn (u - 1) s)
  else if 0x3400 ≤ x ∧ x < 0x3800 ∧ x % 16 = 0 ∧ u = 1 then atOnce (.ok (s.wrB k b))
  else if 0x3400 ≤ x ∧ x < 0x3800 ∧ x % 16 = 0 ∧ u = 2 then
    atOnce (if n = 1 then s.fpLoad ((x - 0x3400) / 16) else s.fpUnload ((x - 0x3400) / 16))
  else none

/-- Writes of an axis's objects; a live object's value is an input of the axis (R200, test 2). -/
def State.axisEffect (s : State) (a obj sub k : Nat) (v : Int) (b : Bytes) : WRes :=
  let n := v.toNat
  match obj with
  | 1 => if sub = 1 then s.controlWrite a n else .ok ((s.wr k v).touch a)
  | 7 => if sub = 1 then s.raEnableWrite a v else .ok ((s.wr k v).touch a)
  | 12 => s.limitWrite a sub v
  | 13 =>
    if sub = 12 then s.homingStart a
    else if 6 ≤ sub ∧ sub ≤ 8 ∧ n ≠ 0xFFFF_FFFF ∧ !fastBitInput s.cf n then s.noMotion a 10
    else if 6 ≤ sub ∧ sub ≤ 8 then
      .ok (((s.wr k v).updMot a (fun m => { m with swOff := setBit m.swOff (sub - 6) false })).touch a)
    else .ok ((s.wr k v).touch a)
  | 14 =>
    if sub = 2 then s.segAppend a b
    else if sub = 6 then s.tableStart a
    else if sub = 7 then s.tableStop a
    else if sub = 8 then s.queueClear a
    else .ok ((s.wr k v).touch a)
  | 15 =>
    if sub = 1 then (if n = 1 then s.moveAbs a else if n = 2 then s.moveRel a else if n = 3 then s.jog a else s.haltProfile a)
    else if sub = 5 then s.profileDecWrite a n
    else if sub = 6 then s.jogVelWrite a v
    else if sub ≠ 2 then s.rampWrite a sub k v
    else .ok ((s.wr k v).touch a)
  | 16 => if sub = 4 then s.step_ a n else .ok ((s.wr k v).touch a)
  | 17 => if sub = 4 then s.gear a n else .ok ((s.wr k v).touch a)
  | 20 => if sub = 14 then .ok (if n = 1 then s.freeze a 4 else s.release a) else s.traceWrite a sub v
  | _ => if isCoef obj sub then s.coefWrite a obj sub v else .ok ((s.wr k v).touch a)

/-- Writes of the wheel, safety and interface objects that act beyond their value: 0x5000 to 0x6FFF. -/
def State.ifcEffect (s : State) (w : Who) (k : Nat) (v : Int) (b : Bytes) : Option PowerAns :=
  let n := v.toNat
  let x := k / 256
  let u := k % 256
  if 0x5410 ≤ x ∧ x < 0x5420 then atOnce (s.wheelWrite (256 * (x - 0x5410) + u) b)
  else if k = K.SAFETY_SIG_ACK then atOnce (safetySigAck w n s)
  else if k = K.SAFETY_DISCARD then atOnce (safetyDiscard w s)
  else if k = K.PASSWORD_NEW then atOnce (passwordNew w b s)
  else if k = K.SAFETY_CLEAR then atOnce (safetyClear w n s)
  else if k = K.SAFETY_RESET then atOnce (safetyReset s)
  else if k = K.SAFETY_ACK then atOnce (safetyAck s)
  else if x = 0x6800 ∧ (u = 1 ∨ u = 2) then atOnce (.ok ((s.wr k v).upEnableWritten (u - 1)))
  else if k = K.PTP_ENABLE then atOnce (.ok (if s.rd k = v then s else (s.wr k v).ptpEnableWritten))
  else if x = 0x6808 then atOnce (.ok (s.closeOpen (u - 1)))
  else if 0x6A00 ≤ x ∧ x < 0x6A20 then
    let c := (x - 0x6A00) / 16
    let obj := x % 16
    if obj = 0 ∧ u = 1 then atOnce (canModeWrite c n s)
    else if obj = 0 ∧ u = 15 then atOnce (canRecoverWrite c s)
    else if obj = 2 ∧ u = 5 then atOnce (txFrame c b s)
    else if obj = 2 ∧ u = 6 then atOnce (txCancel c s)
    else atOnce (s.canWrite c obj u k v)
  else if (x = 0x6C00 ∨ x = 0x6C01) ∧ u = 9 then
    let d := s.draw
    atOnce (injRequest (x - 0x6C00) (d.2 % 15626) d.1)
  else if 0x6C00 ≤ x ∧ x < 0x6C30 then atOnce (s.adcWrite k v)
  else none

/-- Writes of the acquisition, counter and recorder objects and of points that act beyond their value: from 0x7000 on. -/
def State.acqEffect (s : State) (w : Who) (k : Nat) (v : Int) : Option PowerAns :=
  let n := v.toNat
  let x := k / 256
  if k = K.ACQ_CONTROL then atOnce (if n = 1 then s.acqStart else if n = 2 then s.acqStop else s.acqForce)
  else if acqGuarded x (k % 256) ∧ s.acqBusy then atOnce (s, .busy)
  else if k = K.FREEZE_ALL then atOnce (.ok s.freezeAll)
  else if k = K.RELEASE_ALL then atOnce (.ok s.releaseAll)
  else if k = K.COUNTER_CONTROL then atOnce (if n = 1 then s.counterRun else if n = 2 then s.counterStop else s.counterClear)
  else if k = K.WINDOW_LENGTH then atOnce (.ok (s.windowLength v))
  else if k = K.CLEAR then atOnce (s.clearRecords w.role.val w.session.val)
  else if 0x8000 ≤ x then atOnce (s.pointWrite (k - 0x800000) v)
  else none

/-- A write that passed checks 1 to 9 takes effect, or is refused under check 10 (R325, R326): a value of a set changes
its pending value only (R330, R58, R446); no answer where it waits for the end of a transition (R474). -/
def State.writeEffect (s : State) (w : Who) (k : Nat) (b : Bytes) : PowerAns :=
  let x := k / 256
  match s.entry x (k % 256) with
  | .error a => (s, some a)
  | .ok r =>
    let v := r.ty.number b
    if r.cls != .live then (s.wr k v, some .ok)
    else match resetKeys x (k % 256) with
      | some l => (s.resetCounters x l, some .ok)
      | none =>
        let e : Option PowerAns :=
          if x < 0x2000 then s.sysEffect w k v b
          else if x < 0x4000 then s.netEffect k v b
          else if x < 0x5000 then atOnce (s.axisEffect ((x - 0x4000) / 32) ((x - 0x4000) % 32) (k % 256) k v b)
          else if x < 0x7000 then s.ifcEffect w k v b
          else s.acqEffect w k v
        match e with
        | some y => y
        | none => (if r.isBytes then s.wrB k b else s.wr k v, some .ok)

/-- A write as one step: the checks, the effect, and the answer (R325, R326). -/
def State.write (s : State) (w : Who) (index sub : Nat) (b : Bytes) : PowerAns :=
  let c := s.writeCheck w index sub b
  let r : PowerAns := if c.2 = .ok then c.1.writeEffect w (odKey index sub) b else (c.1, some c.2)
  match r.2 with
  | some a => (r.1.denied w a, some a)
  | none => r

/-- OD_WRITE (R326): a write, at the instant it takes effect. -/
def execOdWrite (w : Who) (index : Fin 65536) (sub : Fin 256) (value : Bytes) (t : Nat) (s : State) : Res :=
  powerAnswered ((s.at t).write w index.val sub.val value)

/-! ### What a read returns -/

/-- Mean of a list in thousandths of `d`, rounded half up; 1,000 where it is empty (R207, R212). -/
def meanMilli (l : List Nat) (d : Nat) : Int :=
  if l.isEmpty then 1000 else roundHalfUp (1000 * (l.sum : Rat) / ((l.length * max 1 d : Nat) : Rat))

/-- Values of the system objects that follow from the rest of the state. -/
def State.sysValue (s : State) (index sub : Nat) : Option Int :=
  match index, sub with
  | 0x1000, 4 => some (Config.siliconRev % 65536 : Nat)
  | 0x1000, 5 => some (s.rd (K.SLOT_VERSION (s.rdN K.BOOT_SLOT)))
  | 0x1000, 6 => some (Config.serialNumber % 2 ^ 64 : Nat)
  | 0x1000, 10 => some ((s.clk.now - s.boot.releasedAt) / 1000000000 % 2 ^ 32 : Nat)
  | 0x1201, 1 => some 2
  | 0x1285, 1 => some 2
  | 0x1300, 5 => some (s.wallNow % 2 ^ 64 : Nat)
  | 0x1402, 7 => some (b2i s.commissioning)
  | 0x1403, 3 => some (0x0412856F + 2 ^ 28 * (Config.siliconRev % 16) : Nat)
  | 0x1801, 3 => some (b2i s.configPending)
  | _, _ => none

/-- Values of the network and skerry objects that follow from the rest of the state. -/
def State.netValue (s : State) (index sub : Nat) : Option Int :=
  if index = 0x2000 then
    if sub = 12 then some (idleTime s.pend) else if sub = 13 then some (staticEnd s.pend : Nat) else none
  else if index = 0x2001 then
    some (if sub = 12 then idleTime s.cf else if sub = 13 then (staticEnd s.cf : Nat) else s.cf (odKey 0x2000 sub))
  else if index = 0x200B ∧ sub = 1 then some (s.cycle : Nat)
  else if 0x2100 ≤ index ∧ index < 0x2130 ∧ sub = 5 then some (margin s.cf (index - 0x2100) : Nat)
  else if 0x2200 ≤ index ∧ index < 0x2380 ∧ index % 16 = 0 then
    let n := (index - 0x2200) / 16
    if sub = 2 then some (islandAxes s.cf n : Nat)
    else if sub = 8 then some (icbLength s.cf n : Nat)
    else if sub = 9 then some (icbDigest s.cf n : Nat)
    else none
  else if index = 0x2400 ∧ sub = 17 then some (s.netStart % 2 ^ 64 : Nat)
  else if index = 0x2500 ∧ sub = 16 then some (s.configDigest : Nat)
  else if index = 0x3000 ∧ sub = 3 then some (s.ttPlanned s.cf : Nat)
  else if index = 0x3105 ∧ sub = 2 then some ((List.range 64).countP (fun i => s.rd (K.SKERRY_STATE i) == 1) : Nat)
  else if 0x3400 ≤ index ∧ index < 0x3800 ∧ index % 16 = 0 ∧ sub = 10 then some (s.fpUsers ((index - 0x3400) / 16) : Nat)
  else if index = 0x3800 then
    if sub = 1 then some ((List.range 128).countP (graphAxis s.cf) : Nat) else some (Config.graphImageVersion % 2 ^ 32 : Nat)
  else none

/-- Values of an axis's objects that follow from the rest of the state. -/
def State.axisValue (s : State) (a obj sub : Nat) : Option Int :=
  match obj, sub with
  | 0, 2 => some (match s.cf (K.AXIS_TYPE a) with
    | 0 => 0
    | 2 => 5
    | _ => 7)
  | 0, 6 => some (((axisPlace s.cf a).map (·.1)).getD 255 : Nat)
  | 0, 7 => some (((axisPlace s.cf a).map (·.2)).getD 255 : Nat)
  | 0, 8 => some (b2i (graphAxis s.cf a))
  | 1, 3 => some (s.statusWord a : Nat)
  | 7, 26 => some (meanMilli (s.axis a).delayHist s.ct)
  | 7, 27 =>
    let l := (s.axis a).recHist
    some (if l.isEmpty then 0 else roundHalfUp (10000 * ((l.countP id : Nat) : Rat) / ((l.length : Nat) : Rat)))
  | 20, 13 => some (s.traceState a : Nat)
  | 20, 17 => some (s.traceOldest a : Nat)
  | 20, 18 => some (s.traceDepth a : Nat)
  | 21, 6 => some ((s.axis a).opNs / 1000000000 % 2 ^ 32 : Nat)
  | _, _ => none

/-- Values of the objects from 0x5000 on that follow from the rest of the state. -/
def State.ifcValue (s : State) (index sub : Nat) : Option Int :=
  if 0x5800 ≤ index ∧ index < 0x5818 ∧ sub = 67 then some (pointCount s.cf (index - 0x5800) : Nat)
  else if 0x7604 ≤ index ∧ index ≤ 0x7606 then
    let c := s.counters
    let j := sub - 1
    some (if index = 0x7604 then (SMap.get c.latched 0 j : Nat)
      else if index = 0x7605 then (SMap.get c.latched 0 (2 * j) * 2 ^ 32 + SMap.get c.latched 0 (2 * j + 1) : Nat)
      else (field c.latchedFlags (32 * j) 32 : Nat))
  else match index, sub with
    | 0x5000, 2 => some (((List.range 128).map (fun a => s.cfN (K.SEG_ALLOC a))).sum : Nat)
    | 0x5840, 1 => some (pointTotal s.cf : Nat)
    | 0x5840, 2 => some (fastTotal s.cf : Nat)
    | 0x6000, 3 => some (safetySig s.cf : Nat)
    | 0x6000, 4 => some (safetySig s.pend : Nat)
    | 0x6000, 6 => some (b2i s.safetyPending)
    | 0x6001, 4 => some (s.degradedRemain : Nat)
    | 0x6800, 9 => some (Config.uplinkMac % 2 ^ 48 : Nat)
    | 0x7000, 18 => some (s.rowBytes : Nat)
    | 0x7000, 19 => some (s.acqDepth : Nat)
    | 0x7400, 3 => some ((List.range 128).countP (fun a => s.traceState a == 3) : Nat)
    | 0x7800, 10 => some (s.clk.now / 1000 % 2 ^ 64 : Nat)
    | _, _ => none

/-- The value of a numeric entry: one that follows from the state, or what the dictionary holds, of a set its pending
value (R330). -/
def State.entryValue (s : State) (index sub : Nat) : Int :=
  let d : Option Int :=
    if index < 0x2000 then s.sysValue index sub
    else if index < 0x4000 then s.netValue index sub
    else if index < 0x5000 then s.axisValue ((index - 0x4000) / 32) ((index - 0x4000) % 32) sub
    else s.ifcValue index sub
  d.getD (s.rd (odKey index sub))

/-- ORDERING_CODE (R338), "KL4128-IB". -/
def orderingCode : Bytes := [0x4B, 0x4C, 0x34, 0x31, 0x32, 0x38, 0x2D, 0x49, 0x42]

/-- What a read of an octet or text entry returns, with its effect; nothing where it is refused (check 10). -/
def State.readBytes (s : State) (index sub : Nat) : State × Option Bytes :=
  let ok (r : State × Bytes) : State × Option Bytes := (r.1, some r.2)
  if index = 0x1000 ∧ sub = 3 then (s, some orderingCode)
  else if index = 0x1402 ∧ sub = 1 then (s, some Config.deviceCert)
  else if 0x4000 ≤ index ∧ index < 0x5000 then (s, s.traceRead ((index - 0x4000) / 32) (sub - 19))
  else if 0x5410 ≤ index ∧ index < 0x5420 then (s, some (padTo 32 (s.rdB (odKey index sub))))
  else if index = 0x6A03 ∨ index = 0x6A13 then
    ok (if sub = 1 then s.rxFifoRead ((index - 0x6A03) / 16) else s.hpRead ((index - 0x6A03) / 16))
  else if index = 0x6C00 ∨ index = 0x6C01 then ok (resultRead (index - 0x6C00) s)
  else if index = 0x7000 then (s, s.acqRead)
  else if index = 0x7802 then ok (s.recordRead (sub - 1))
  else if 0x8000 ≤ index then (s, none)
  else (s, some (s.rdB (odKey index sub)))

/-- A read (R325, R329): its effect, its result, and the value's octets where it is OK. -/
def State.read (s : State) (w : Who) (index sub : Nat) : State × Ans × Bytes :=
  match s.entry index sub with
  | .error a => (s, a, [])
  | .ok r =>
    if r.access == .wo then (s, .writeOnly, [])
    else if w.role.val < r.readRole then (s.denied w .role, .role, [])
    else if needsGrant index ∧ !bit (s.rdN K.SESSION_COUNTER_GRANT) w.session.val then (s.denied w .grant, .grant, [])
    else if r.isBytes then
      match s.readBytes index sub with
      | (s, some b) => (s, .ok, b)
      | (s, none) => (s, .refused, [])
    else if 0x8000 ≤ index then (s, .ok, r.ty.octets (s.pointNow (256 * (index - 0x8000) + sub) (r.access == .rw)))
    else (s, .ok, r.ty.octets (s.entryValue index sub))

end Sys2Proof.Machine
end

