-- ==== Sys2Proof/Machine/Toa.lean ====
section
/-! DEFINITION. Tarri Object Access (R353 to R364): handshakes and the life of a session, the services, and island
mailboxes (R123 to R125). -/

namespace Sys2Proof.Machine

open Sys2Proof

/-! ### The life of a session (R353, R354, R493, R494) -/

/-- The lowest session number that is free (R353). -/
def State.freeSession (s : State) : Option Nat := (List.range 8).find? (fun n => s.sessionState n == 0)

/-- CLIENT_HELLO (R354): a handshake starts, or SESSIONS_MAX sessions are open and the peer is sent an alert. -/
def execClientHello (peer : BitVec 32) (t : Nat) (s : State) : Res :=
  let s := s.at t
  let no (s : State) : State := (s.emit (.alert peer.toNat)).raiseU Ev.SESSION_REFUSED none none (peerExtra peer.toNat)
  if s.boot.state ≠ .running then done s
  else if s.rdN K.SESSIONS_MAX ≤ (List.range 8).countP (fun n => s.sessionState n != 0) then done (no s)
  else match s.freeSession with
    | none => done (no s)
    | some n =>
      let s := s.setSession n { since := s.clk.now, lastAt := s.clk.now }
      done ((((s.wr (K.SESSION_STATE n) 1).wr (K.SESSION_ROLE n) 0).wrN (K.SESSION_PEER n) peer.toNat).countSessions)

/-- A letter without its case. -/
def lower (c : Byte) : Nat := if Nat.ble 0x41 c.toNat && Nat.ble c.toNat 0x5A then c.toNat + 32 else c.toNat

/-- The role an OU attribute names (R493): toa-viewer, toa-operator, toa-engineer, toa-safetyofficer, toa-administrator. -/
def roleOf (ou : Bytes) : Option Nat :=
  let toa : List Nat := [0x74, 0x6F, 0x61, 0x2D]
  let names : List (List Nat) := [
    [0x76, 0x69, 0x65, 0x77, 0x65, 0x72],
    [0x6F, 0x70, 0x65, 0x72, 0x61, 0x74, 0x6F, 0x72],
    [0x65, 0x6E, 0x67, 0x69, 0x6E, 0x65, 0x65, 0x72],
    [0x73, 0x61, 0x66, 0x65, 0x74, 0x79, 0x6F, 0x66, 0x66, 0x69, 0x63, 0x65, 0x72],
    [0x61, 0x64, 0x6D, 0x69, 0x6E, 0x69, 0x73, 0x74, 0x72, 0x61, 0x74, 0x6F, 0x72]]
  (List.range 5).find? (fun i => ou.map lower == toa ++ names.getD i [])

/-- A handshake fails (R354). -/
def State.handshakeFails (s : State) (n : Nat) : State :=
  let peer := s.rdN (K.SESSION_PEER n)
  ((s.closeSession n).bump K.HANDSHAKE_FAILS).raiseU Ev.SESSION_REFUSED none none (peerExtra peer)

/-- The role a client certificate gives a peer (R493, R494), if it is accepted, its period apart: `chain`: the anchor it
chains to with valid signatures. -/
def State.certRole (s : State) (peer : Nat) (chain : Option (Fin 4)) (selfSigned : Bool) (ou : Bytes) : Option Nat :=
  let anchored : Bool := match chain with
    | some k => !(s.rdB (K.TRUST_ANCHOR k)).isEmpty
    | none => false
  if anchored then roleOf ou
  else if selfSigned && s.commissioning && peer / 65536 == 0xA9FE then some 4 else none

/-- HANDSHAKE_COMPLETE (R354, R493, R494): the DTLS handshake of a session completes with a client certificate, its period
in ns TAI, its first OU. -/
def execHandshakeComplete (session : Fin 8) (chain : Option (Fin 4)) (selfSigned : Bool) (notBefore notAfter : Nat) (ou : Bytes)
    (t : Nat) (s : State) : Res :=
  let s := s.at t
  let n := session.val
  if s.sessionState n ≠ 1 ∨ s.elapsed (s.session n).since 10000000000 then done s
  else
    let role := s.certRole (s.rdN (K.SESSION_PEER n)) chain selfSigned ou
    let valid : Bool := s.rd K.WALL_VALID == 1
    let s := if role.isSome && !valid then s.bump K.TIME_UNCHECKED else s
    match role with
    | none => done (s.handshakeFails n)
    | some r =>
      if valid ∧ (s.wallNow < notBefore ∨ notAfter < s.wallNow) then done (s.handshakeFails n)
      else
        let s := s.setSession n { since := (s.session n).since, lastAt := s.clk.now, commissioning := s.commissioning }
        let s := ((s.wr (K.SESSION_STATE n) 2).wrN (K.SESSION_ROLE n) r).wr (K.READ_SEQ n) 0
        done (s.raiseU Ev.SESSION_OPEN none none (s.sessionExtra n))

/-- HANDSHAKE_TIMEOUT (R354): the handshake failed, or 10 s have elapsed. -/
def execHandshakeTimeout (session : Fin 8) (failed : Bool) (t : Nat) (s : State) : Res :=
  let s := s.at t
  let n := session.val
  if s.sessionState n = 1 ∧ (failed ∨ s.elapsed (s.session n).since 10000000000) then done (s.handshakeFails n) else done s

/-- SESSION_IDLE_TIMEOUT (R354): no message for SESSION_IDLE. -/
def execSessionIdleTimeout (session : Fin 8) (t : Nat) (s : State) : Res :=
  let s := s.at t
  let n := session.val
  if 2 ≤ s.sessionState n ∧ s.elapsed (s.session n).lastAt (1000000000 * s.rdN K.SESSION_IDLE) then done (s.closeSession n) else done s

/-- SESSION_CLOSE (R354): close_notify, or a write of 1 to SESSION_CLOSE. -/
def execSessionClose (session : Fin 8) (write : Bool) (s : State) : Res :=
  if write then answered (.ok (s.closeOpen session.val)) else done (s.closeOpen session.val)

/-! ### Requests -/

/-- The session a request comes from (R353, R463). -/
def State.who (s : State) (n : Nat) (pw : Option Bytes) : Who :=
  { role := ⟨s.sessionRole n % 5, Nat.mod_lt _ (by decide)⟩, session := ⟨n % 256, Nat.mod_lt _ (by decide)⟩
    peer := BitVec.ofNat 32 (if n < 8 then s.rdN (K.SESSION_PEER n) else 0), pw := pw }

/-- The service writes. -/
def isWrite (service : Nat) : Bool := service == 2 || service == 4

/-- The service reads entries or points. -/
def isRead (service : Nat) : Bool := service == 1 || service == 3 || service == 5

/-- The request of a service that is due in a session: the oldest that waits its turn, among the writes in their order
(R327); a read only after every write that arrived before it (R360). -/
def State.due (s : State) (n service : Nat) : Option Req :=
  let l := (s.session n).reqs
  if s.sessionState n < 2 then none
  else if isWrite service then
    match l.find? (fun r => r.wait == .turn && isWrite r.service) with
    | some r => if r.service = service then some r else none
    | none => none
  else match l.find? (fun r => r.wait == .turn && r.service == service) with
    | some r => if isRead service ∧ (l.takeWhile (· != r)).any (fun x => isWrite x.service) then none else some r
    | none => none

/-- Answer a request. -/
def State.answerReq (s : State) (n : Nat) (r : Req) (status : Nat) (body : Bytes) : State :=
  s.respond n r.tag r.gen r.service status body

/-- The request waits for something other than its turn. -/
def State.setWait (s : State) (n : Nat) (r : Req) (w : ReqWait) : State :=
  s.updSession n (fun x => { x with reqs := x.reqs.map (fun y => if y.tag == r.tag && y.gen == r.gen then { y with wait := w } else y) })

/-- A malformed request (R361). -/
def State.badReq (s : State) (n : Nat) (r : Req) : State := s.answerReq n r Toa.BAD_MESSAGE []

/-- Carry out the request of a service that is due. -/
def State.serve (s : State) (n service : Nat) (f : State → Req → State) : Res :=
  match s.due n service with
  | some r => done (f s r)
  | none => done s

/-! ### HELLO, PING, SUBSCRIBE -/

/-- The answer to HELLO (R361). -/
def State.helloBody (s : State) (n : Nat) : Bytes :=
  leBytes 1 n ++ leBytes 1 (s.sessionRole n) ++ [16, 0] ++ leInt 4 (s.rd K.VENDOR_ID) ++ leInt 4 (s.rd K.PRODUCT_CODE)
    ++ leInt 4 (s.entryValue 0x1000 5) ++ leInt 8 (s.entryValue 0x1000 6)

/-- HELLO (R354, R361). -/
def execHello (session : Fin 10) (t : Nat) (s : State) : Res :=
  let n := session.val
  (s.at t).serve n 0 (fun s r =>
    if !r.body.isEmpty then s.badReq n r
    else (if s.sessionState n = 2 then s.wr (K.SESSION_STATE n) 3 else s).answerReq n r 0 (s.helloBody n))

/-- PING (R361). -/
def execPing (session : Fin 10) (t : Nat) (s : State) : Res :=
  let n := session.val
  (s.at t).serve n 8 (fun s r => if !r.body.isEmpty then s.badReq n r else s.answerReq n r 0 [])

/-- SUBSCRIBE (R364): the channels replace the session's; over CAN it is malformed (R380). -/
def execSubscribe (session : Fin 10) (t : Nat) (s : State) : Res :=
  let n := session.val
  (s.at t).serve n 6 (fun s r =>
    if 8 ≤ n ∨ r.body.length ≠ 2 then s.badReq n r
    else
      let c := uAt r.body 0 2
      let s := s.retireSession n (fun k => !bit c k)
      (s.updSession n (fun x => { x with channels := c })).answerReq n r 0 [])

/-! ### Reads -/

/-- READ (R361). -/
def execRead (session : Fin 10) (t : Nat) (s : State) : Res :=
  let n := session.val
  (s.at t).serve n 1 (fun s r =>
    if r.body.length ≠ 4 then s.badReq n r
    else
      let x := s.read (s.who n none) (uAt r.body 0 2) (uAt r.body 2 1)
      x.1.answerReq n r x.2.1.code (slice r.body 0 3 ++ [0] ++ x.2.2))

/-- The items of READ_MULTI, read one after another at one instant (R362): each with its own status. -/
def State.readItems (s : State) (w : Who) : List Nat → Bytes → State × Bytes
  | [], _ => (s, [])
  | i :: r, b =>
    let x := s.read w (uAt b (4 * i) 2) (uAt b (4 * i + 2) 1)
    let v := x.2.2
    let y := x.1.readItems w r b
    (y.1, slice b (4 * i) 3 ++ leBytes 1 x.2.1.code ++ leBytes 2 v.length ++ [0, 0] ++ padTo (pad4 v.length) v ++ y.2)

/-- Answer with a body that may exceed a message (R356), which the spec says nothing of: its status is then a free value and
its body is not stated. -/
def State.answerLong (s : State) (n : Nat) (r : Req) (body : Bytes) : State :=
  if body.length ≤ 8192 then s.answerReq n r 0 body
  else
    let d := s.draw
    d.1.answerReq n r (d.2 % 256) (Config.longResponse body)

/-- READ_MULTI (R361, R362). -/
def execReadMulti (session : Fin 10) (t : Nat) (s : State) : Res :=
  let n := session.val
  (s.at t).serve n 3 (fun s r =>
    let c := uAt r.body 0 1
    if c = 0 ∨ 64 < c ∨ r.body.length ≠ 4 + 4 * c then s.badReq n r
    else
      let x := s.readItems (s.who n none) (List.range c) (r.body.drop 4)
      x.1.answerLong n r (leBytes 1 c ++ [0, 0, 0] ++ x.2))

/-- The values of points of a range, nothing where one is unallocated (R362). -/
def State.pointValues (s : State) (first count : Nat) : Option Bytes :=
  let l := (List.range count).map (fun i => (first + i, pointOwner s.cf (first + i)))
  if l.any (fun e => e.2.isNone) then none
  else some (l.flatMap (fun e => match e.2 with
    | some (_, _, r) => (pointType r.ty).octets (s.pointNow e.1 r.output)
    | none => []))

/-- READ_POINTS (R361, R362): values of one published snapshot. -/
def execReadPoints (session : Fin 10) (t : Nat) (s : State) : Res :=
  let n := session.val
  (s.at t).serve n 5 (fun s r =>
    let c := uAt r.body 4 2
    if r.body.length ≠ 8 ∨ c = 0 ∨ 4096 < c then s.badReq n r
    else match s.pointValues (uAt r.body 0 4) c with
      | none => s.answerReq n r Ans.range.code []
      | some v =>
        if 8192 < 12 + v.length then s.answerReq n r Ans.range.code []
        else s.answerReq n r 0 (slice r.body 0 6 ++ [0, 0] ++ leInt 4 (s.rd K.SNAPSHOT_CYCLE) ++ v))

/-! ### Writes -/

/-- WRITE (R326, R361): answered once it has taken effect or is refused. -/
def execWrite (session : Fin 10) (t : Nat) (s : State) : Res :=
  let n := session.val
  (s.at t).serve n 2 (fun s r =>
    if r.body.length < 4 then s.badReq n r
    else
      let x := s.write (s.who n r.pw) (uAt r.body 0 2) (uAt r.body 2 1) (r.body.drop 4)
      match x.2 with
      | some a => x.1.answerReq n r a.code (slice r.body 0 3 ++ [0])
      | none => x.1.setWait n r .power)

/-- The members of a write group: index, sub, value. Nothing where the body has another length. -/
def groupItems : Nat → Bytes → Option (List (Nat × Nat × Bytes))
  | 0, [] => some []
  | 0, _ => none
  | n + 1, b =>
    let l := uAt b 4 2
    if b.length < 8 + pad4 l then none
    else (groupItems n (b.drop (8 + pad4 l))).map (fun r => (uAt b 0 2, uAt b 2 1, slice b 8 l) :: r)

/-- STORE, RESTORE_DEFAULTS, CONFIG_COMMIT and SCHED_COMMIT stand last in a group (R328). -/
def lastOnly (k : Nat) : Bool := k == K.STORE || k == K.RESTORE_DEFAULTS || k == K.CONFIG_COMMIT || k == K.SCHED_COMMIT

/-- The arrival checks of every member (R326, R328). -/
def State.groupCheck (s : State) (w : Who) : List (Nat × Nat × Bytes) → State × List Ans
  | [] => (s, [])
  | (i, u, b) :: r =>
    let c := s.writeCheck w i u b
    let a : Ans := if c.2 = .ok ∧ lastOnly (odKey i u) = true ∧ r.isEmpty = false then .range else c.2
    let x := c.1.groupCheck w r
    (x.1, a :: x.2)

/-- What a refused member leaves when the group is undone (R325, R328): the causes its chapter's objects report and the
events it raised, carried from the member's own step to the state before the group. -/
def State.undo (before own after : State) : State :=
  let changed := (after.od ++ own.od).filter (fun e => SMap.find after.od e.1 != SMap.find own.od e.1)
  let s := changed.foldl (fun (s : State) (e : Nat × Int) => s.wr e.1 (after.rd e.1)) before
  { s with raised := before.raised ++ after.raised.drop own.raised.length, free := after.free
           lh := { before.lh with wrong := after.lh.wrong, lockUntil := after.lh.lockUntil }
           fpLoaded := before.fpLoaded.filter (fun e => (SMap.find after.fpLoaded e.1).isSome || (SMap.find own.fpLoaded e.1).isNone) }

/-- The members take effect in order; at the first refused none does: its place and result. Whether some member waits for
the end of a transition. -/
def State.groupApply (before s : State) (w : Who) (place : Nat) (waits : Bool) : List (Nat × Nat × Bytes) → State × Option (Nat × Ans) × Bool
  | [] => (s, none, waits)
  | (i, u, b) :: r =>
    let x := s.writeEffect w (odKey i u) b
    match x.2 with
    | none => before.groupApply x.1 w (place + 1) true r
    | some .ok => before.groupApply x.1 w (place + 1) waits r
    | some a => (before.undo s x.1, some (place, a), false)

/-- The answer to a group (R361): each member's status, and the first failing member's as the request's. -/
def State.groupAnswer (s : State) (n : Nat) (r : Req) (l : List Ans) : State :=
  let first := (l.find? (fun a => a != .ok && a != .groupFailed)).getD .ok
  s.answerReq n r first.code (leBytes 1 l.length ++ [0, 0, 0] ++ l.flatMap (fun a => leBytes 1 a.code))

/-- WRITE_GROUP (R328, R361): all members take effect, or none. -/
def execWriteGroup (session : Fin 10) (t : Nat) (s : State) : Res :=
  let n := session.val
  (s.at t).serve n 4 (fun s r =>
    let c := uAt r.body 0 1
    match (if c = 0 ∨ 64 < c then none else groupItems c (r.body.drop 4)) with
    | none => s.badReq n r
    | some items =>
      let w := s.who n r.pw
      let k := s.groupCheck w items
      if k.2.any (· != .ok) then
        let l := k.2.map (fun a => if a = .ok then .groupFailed else a)
        (l.foldl (fun (s : State) a => s.denied w a) k.1).groupAnswer n r l
      else
        let x := k.1.groupApply k.1 w 0 false items
        match x.2.1 with
        | some (p, a) => (x.1.denied w a).groupAnswer n r ((List.range c).map (fun i => if i = p then a else .groupFailed))
        | none => if x.2.2 then x.1.setWait n r .power else x.1.groupAnswer n r (List.replicate c .ok))

/-! ### Island mailboxes (R123 to R125, R363) -/

/-- The first tag of a ring of `fuel` from `k` on that no open transaction holds. -/
def freeTag (l : List Mbx) : Nat → Nat → Nat
  | 0, k => k
  | fuel + 1, k => if l.any (fun m => m.tag == k) then freeTag l fuel ((k + 1) % 256) else k

/-- A transaction opens (R124): its tag, with the tag's next generation. -/
def State.mailOpen (s : State) (k n : Nat) (r : Req) : State :=
  let i := s.island k
  let tag := freeTag i.mbx 256 i.nextTag
  let gen := SMap.get i.tags 0 tag
  let m : Mbx := { tag := tag, gen := gen, service := uAt r.body 1 1, index := uAt r.body 2 2, sub := uAt r.body 4 1, session := n
                   toaTag := r.tag, toaGen := r.gen, data := r.body.drop 8, sent := 0, finished := false, resp := []
                   deadline := s.clk.tick + s.rdN (K.MBX_TIMEOUT k) }
  (s.setIsland k { i with
    mbx := i.mbx ++ [m], tags := SMap.put i.tags 0 tag ((gen + 1) % 4), nextTag := (tag + 1) % 256 }).setWait n r (.island k tag gen)

/-- ISLAND (R361, R363): Operator for READ, IDENTITY and PING, Engineer for WRITE; it waits while MBX_OUTSTANDING
transactions are open (R124). -/
def execIsland (session : Fin 10) (t : Nat) (s : State) : Res :=
  let n := session.val
  (s.at t).serve n 7 (fun s r =>
    let b := r.body
    let k := uAt b 0 1
    let svc := uAt b 1 1
    let len := uAt b 6 2
    if b.length ≠ 8 + (if svc = 2 then len else 0) ∨ 4096 < len ∨ svc = 0 ∨ 4 < svc then s.badReq n r
    else if s.sessionRole n < (if svc = 2 then 2 else 1) then (s.denied (s.who n none) .role).answerReq n r Ans.role.code []
    else if 24 ≤ k ∨ s.integrated k = false ∨ s.cf K.MINISLOTS = 0 then s.answerReq n r Toa.ISLAND_UNAVAILABLE []
    else if s.rdN (K.MBX_OUTSTANDING k) ≤ (s.island k).mbx.length then s
    else s.mailOpen k n r)

/-- The body of the answer to ISLAND (R361). -/
def islandBody (status : Nat) (data : Bytes) : Bytes := leBytes 1 status ++ [0, 0, 0] ++ leBytes 2 data.length ++ [0, 0] ++ data

/-- A MAILBOX frame of an island (R123 to R125). -/
def State.mailIn (s : State) (k : Nat) (more : Bool) (m : MailFrame) : State :=
  if m.kind ≠ 1 then s
  else match (s.island k).mbx.find? (fun x => x.tag == m.tag && x.gen == m.gen) with
    | none => s.bump (K.MBX_STALE k)
    | some x =>
      let resp := x.resp ++ m.data
      if m.offset ≠ x.resp.length ∨ 192 < m.len ∨ 4096 < resp.length then s
      else if more then
        s.updIsland k (fun i => { i with mbx := i.mbx.map (fun y => if y.tag == x.tag then { y with resp := resp } else y) })
      else
        (s.updIsland k (fun i => { i with mbx := i.mbx.filter (fun y => y.tag != x.tag) })).respond x.session x.toaTag x.toaGen 7 0
          (islandBody m.status resp)

/-- MAILBOX_RECEIVED (R125). -/
def execMailboxReceived (port : Fin 48) (mac : Nat) (envOk : Bool) (f : Bytes) (s : State) : Res :=
  let n := portIsland port.val
  let r := (s.at (s.clk.startNow + mac)).arrive port.val mac envOk f
  match r.2 with
  | some pl =>
    if Place.ty s.cf pl = 6 ∧ 26 + uAt f 20 2 ≤ f.length then
      match r.1.firstCopy n pl with
      | some s => done (s.mailIn n (bit (headerOf f).flags 6) (mailOf f))
      | none => done r.1
    else done r.1
  | none => done r.1

/-- A transaction fails (R125): it is aborted, and its request answered with TIMEOUT. -/
def State.mailFails (s : State) (k : Nat) (x : Mbx) : State :=
  let s := s.updIsland k (fun i => { i with mbx := i.mbx.filter (fun y => y.tag != x.tag), aborts := i.aborts ++ [(x.tag, x.gen)] })
  (s.bump (K.MBX_TIMEOUTS k)).respond x.session x.toaTag x.toaGen 7 Toa.TIMEOUT []

/-- MBX_TIMEOUT (R125): transactions of an island without a complete response after MBX_TIMEOUT cycles. -/
def execMbxTimeout (island : Fin 24) (s : State) : Res :=
  let k := island.val
  done (foldS (fun s x => s.mailFails k x) s ((s.island k).mbx.filter (fun x => Nat.ble x.deadline s.clk.tick)))

end Sys2Proof.Machine
end

