-- ==== Sys2Proof/Machine/Dispatch.lean ====
section
/-! DEFINITION. The dispatch of a command to its meaning: one arm per row of the table. -/

namespace Sys2Proof.Machine

open Sys2Proof

/-- The effect of a command on everything but the queue. -/
def exec (i : Instr) (s : State) : Host.Outcome State Fault Refusal :=
  match i with
  | .cycleStart t => Sys2Proof.Machine.execCycleStart t s
  | .cycleMark mark t => Sys2Proof.Machine.execCycleMark mark t s
  | .feedbackReceived port mac envOk f => Sys2Proof.Machine.execFeedbackReceived port mac envOk f s
  | .channelLost port => Sys2Proof.Machine.execChannelLost port s
  | .syncReceived port mac envOk f => Sys2Proof.Machine.execSyncReceived port mac envOk f s
  | .islandColdstart port => Sys2Proof.Machine.execIslandColdstart port s
  | .pointsReceived port mac envOk f => Sys2Proof.Machine.execPointsReceived port mac envOk f s
  | .mailboxReceived port mac envOk f => Sys2Proof.Machine.execMailboxReceived port mac envOk f s
  | .relayReceived port mac envOk f => Sys2Proof.Machine.execRelayReceived port mac envOk f s
  | .feedbackDeadline => Sys2Proof.Machine.execFeedbackDeadline s
  | .feedbackAgreement peerHas => Sys2Proof.Machine.execFeedbackAgreement peerHas s
  | .reconcileQuietStart => Sys2Proof.Machine.execReconcileQuietStart s
  | .assemblyInstant island => Sys2Proof.Machine.execAssemblyInstant island s
  | .fillInstant island localAxis => Sys2Proof.Machine.execFillInstant island localAxis s
  | .commandSend island late => Sys2Proof.Machine.execCommandSend island late s
  | .startupSend port late => Sys2Proof.Machine.execStartupSend port late s
  | .relaySend island late => Sys2Proof.Machine.execRelaySend island late s
  | .dynamicFrameSend island id late => Sys2Proof.Machine.execDynamicFrameSend island id late s
  | .snapshot t => Sys2Proof.Machine.execSnapshot t s
  | .guardianEndOfCycle => Sys2Proof.Machine.execGuardianEndOfCycle s
  | .portSyncExcluded port => Sys2Proof.Machine.execPortSyncExcluded port s
  | .portIsolated port => Sys2Proof.Machine.execPortIsolated port s
  | .portReadmitted port => Sys2Proof.Machine.execPortReadmitted port s
  | .syncCorrection peer => Sys2Proof.Machine.execSyncCorrection peer s
  | .clockCorrectionApply => Sys2Proof.Machine.execClockCorrectionApply s
  | .rateRoundEnd => Sys2Proof.Machine.execRateRoundEnd s
  | .networkStart => Sys2Proof.Machine.execNetworkStart s
  | .networkStop => Sys2Proof.Machine.execNetworkStop s
  | .listenTimeout t => Sys2Proof.Machine.execListenTimeout t s
  | .coldstartComplete => Sys2Proof.Machine.execColdstartComplete s
  | .straitHeadSeen rank count cyc => Sys2Proof.Machine.execStraitHeadSeen rank count cyc s
  | .dhNoStrait port => Sys2Proof.Machine.execDhNoStrait port s
  | .integrateComplete cycles peerDigest => Sys2Proof.Machine.execIntegrateComplete cycles peerDigest s
  | .portEnableWrite port v => Sys2Proof.Machine.execPortEnableWrite port v s
  | .pcsLinkUp port alignment => Sys2Proof.Machine.execPcsLinkUp port alignment s
  | .portLinkLost port => Sys2Proof.Machine.execPortLinkLost port s
  | .syncMeasurementComplete port => Sys2Proof.Machine.execSyncMeasurementComplete port s
  | .portRemeasureTimeout port => Sys2Proof.Machine.execPortRemeasureTimeout port s
  | .syncAbsentTimeout port => Sys2Proof.Machine.execSyncAbsentTimeout port s
  | .portOpen port => Sys2Proof.Machine.execPortOpen port s
  | .isolationHoldExpiry port => Sys2Proof.Machine.execIsolationHoldExpiry port s
  | .schedCommit => Sys2Proof.Machine.execSchedCommit s
  | .straitLinkLost => Sys2Proof.Machine.execStraitLinkLost s
  | .straitLinkReturn delay peerOperates => Sys2Proof.Machine.execStraitLinkReturn delay peerOperates s
  | .peerIntegrated => Sys2Proof.Machine.execPeerIntegrated s
  | .straitFeedbackReceived src f n age sign q => Sys2Proof.Machine.execStraitFeedbackReceived src f n age sign q s
  | .digestExchange peer => Sys2Proof.Machine.execDigestExchange peer s
  | .dhDivergence axis => Sys2Proof.Machine.execDhDivergence axis s
  | .resyncRequest => Sys2Proof.Machine.execResyncRequest s
  | .resyncComplete t => Sys2Proof.Machine.execResyncComplete t s
  | .dhResyncDone t => Sys2Proof.Machine.execDhResyncDone t s
  | .mbxTimeout island => Sys2Proof.Machine.execMbxTimeout island s
  | .taskSubmit level stream tag release deadline deps tt => Sys2Proof.Machine.execTaskSubmit level stream tag release deadline deps tt s
  | .entryFreed => Sys2Proof.Machine.execEntryFreed s
  | .taskDispatch t skerries => Sys2Proof.Machine.execTaskDispatch t skerries s
  | .taskLoadComplete id => Sys2Proof.Machine.execTaskLoadComplete id s
  | .taskComplete id cycles => Sys2Proof.Machine.execTaskComplete id cycles s
  | .resultAccept => Sys2Proof.Machine.execResultAccept s
  | .resultCommit => Sys2Proof.Machine.execResultCommit s
  | .taskCancel id stream fromTag same => Sys2Proof.Machine.execTaskCancel id stream fromTag same s
  | .skerryParityError skerry collector => Sys2Proof.Machine.execSkerryParityError skerry collector s
  | .taskWatchdog id => Sys2Proof.Machine.execTaskWatchdog id s
  | .clusterSupplyLoss cluster => Sys2Proof.Machine.execClusterSupplyLoss cluster s
  | .skerryFence skerry => Sys2Proof.Machine.execSkerryFence skerry s
  | .testAndReturn skerry => Sys2Proof.Machine.execTestAndReturn skerry s
  | .selfTestComplete skerry pass => Sys2Proof.Machine.execSelfTestComplete skerry pass s
  | .clusterDrainComplete cluster => Sys2Proof.Machine.execClusterDrainComplete cluster s
  | .graphFiring axis node feedback inputs outputs isOut => Sys2Proof.Machine.execGraphFiring axis node feedback inputs outputs isOut s
  | .speculate axis => Sys2Proof.Machine.execSpeculate axis s
  | .reconcile axis => Sys2Proof.Machine.execReconcile axis s
  | .raSquashRun axis => Sys2Proof.Machine.execRaSquashRun axis s
  | .fullCompute axis => Sys2Proof.Machine.execFullCompute axis s
  | .followingError axis => Sys2Proof.Machine.execFollowingError axis s
  | .axisEnable axis w => Sys2Proof.Machine.execAxisEnable axis w s
  | .axisDisable axis w => Sys2Proof.Machine.execAxisDisable axis w s
  | .quickStop axis w => Sys2Proof.Machine.execQuickStop axis w s
  | .quickStopRelease axis w => Sys2Proof.Machine.execQuickStopRelease axis w s
  | .faultReset axis w => Sys2Proof.Machine.execFaultReset axis w s
  | .closeLevelWrite axis w => Sys2Proof.Machine.execCloseLevelWrite axis w s
  | .coefficientWrite axis obj sub v => Sys2Proof.Machine.execCoefficientWrite axis obj sub v s
  | .limitWrite axis sub v => Sys2Proof.Machine.execLimitWrite axis sub v s
  | .raEnableWrite axis v => Sys2Proof.Machine.execRaEnableWrite axis v s
  | .brakeOpenTimeout axis t => Sys2Proof.Machine.execBrakeOpenTimeout axis t s
  | .brakeCloseTimeout axis t => Sys2Proof.Machine.execBrakeCloseTimeout axis t s
  | .standstill axis t => Sys2Proof.Machine.execStandstill axis t s
  | .alignmentComplete axis t => Sys2Proof.Machine.execAlignmentComplete axis t s
  | .observerConverged axis t => Sys2Proof.Machine.execObserverConverged axis t s
  | .stall axis => Sys2Proof.Machine.execStall axis s
  | .holdDelayExpiry axis t => Sys2Proof.Machine.execHoldDelayExpiry axis t s
  | .degTimeExpiry axis t => Sys2Proof.Machine.execDegTimeExpiry axis t s
  | .feedbackLost axis => Sys2Proof.Machine.execFeedbackLost axis s
  | .feedbackFrozen axis => Sys2Proof.Machine.execFeedbackFrozen axis s
  | .quadratureEdge ch t lineB => Sys2Proof.Machine.execQuadratureEdge ch t lineB s
  | .quadratureError ch t => Sys2Proof.Machine.execQuadratureError ch t s
  | .indexEdge ch t illegal => Sys2Proof.Machine.execIndexEdge ch t illegal s
  | .stepEdge ch t dirHigh => Sys2Proof.Machine.execStepEdge ch t dirHigh s
  | .segAppend axis record => Sys2Proof.Machine.execSegAppend axis record s
  | .segmentPrefetch => Sys2Proof.Machine.execSegmentPrefetch s
  | .tableStart axis => Sys2Proof.Machine.execTableStart axis s
  | .tableStop axis => Sys2Proof.Machine.execTableStop axis s
  | .queueClear axis => Sys2Proof.Machine.execQueueClear axis s
  | .moveAbs axis => Sys2Proof.Machine.execMoveAbs axis s
  | .moveRel axis => Sys2Proof.Machine.execMoveRel axis s
  | .jog axis => Sys2Proof.Machine.execJog axis s
  | .haltProfile axis => Sys2Proof.Machine.execHaltProfile axis s
  | .jogVelWrite axis v => Sys2Proof.Machine.execJogVelWrite axis v s
  | .profileDecWrite axis pat => Sys2Proof.Machine.execProfileDecWrite axis pat s
  | .homingStart axis => Sys2Proof.Machine.execHomingStart axis s
  | .gearEngage axis => Sys2Proof.Machine.execGearEngage axis s
  | .gearDisengage axis => Sys2Proof.Machine.execGearDisengage axis s
  | .stepEngage axis => Sys2Proof.Machine.execStepEngage axis s
  | .stepDisengage axis => Sys2Proof.Machine.execStepDisengage axis s
  | .profileTick axis => Sys2Proof.Machine.execProfileTick axis s
  | .switchDebounced axis which => Sys2Proof.Machine.execSwitchDebounced axis which s
  | .masterUpdate master => Sys2Proof.Machine.execMasterUpdate master s
  | .pointWrite point v => Sys2Proof.Machine.execPointWrite point v s
  | .wheelEntryWrite entry record => Sys2Proof.Machine.execWheelEntryWrite entry record s
  | .wheelPlan => Sys2Proof.Machine.execWheelPlan s
  | .wheelAction entry edge t => Sys2Proof.Machine.execWheelAction entry edge t s
  | .fpLoad prog => Sys2Proof.Machine.execFpLoad prog s
  | .fpUnload prog => Sys2Proof.Machine.execFpUnload prog s
  | .fpInvocation prog use x => Sys2Proof.Machine.execFpInvocation prog use x s
  | .fpNop => Sys2Proof.Machine.execFpNop s
  | .fpEnd => Sys2Proof.Machine.execFpEnd s
  | .fpRep len count => Sys2Proof.Machine.execFpRep len count s
  | .fpRepr len gC => Sys2Proof.Machine.execFpRepr len gC s
  | .fpLdi gD imm => Sys2Proof.Machine.execFpLdi gD imm s
  | .fpMov gD gS => Sys2Proof.Machine.execFpMov gD gS s
  | .fpLd gD addr => Sys2Proof.Machine.execFpLd gD addr s
  | .fpSt gS addr => Sys2Proof.Machine.execFpSt gS addr s
  | .fpCbld gD cb step => Sys2Proof.Machine.execFpCbld gD cb step s
  | .fpCbst gS cb step => Sys2Proof.Machine.execFpCbst gS cb step s
  | .fpCbpush gS cb => Sys2Proof.Machine.execFpCbpush gS cb s
  | .fpCbidx cb idx => Sys2Proof.Machine.execFpCbidx cb idx s
  | .fpAdd gD gA gB => Sys2Proof.Machine.execFpAdd gD gA gB s
  | .fpSub gD gA gB => Sys2Proof.Machine.execFpSub gD gA gB s
  | .fpNeg gD gS => Sys2Proof.Machine.execFpNeg gD gS s
  | .fpShl gD gS n => Sys2Proof.Machine.execFpShl gD gS n s
  | .fpShr gD gS n => Sys2Proof.Machine.execFpShr gD gS n s
  | .fpAbs gD gS => Sys2Proof.Machine.execFpAbs gD gS s
  | .fpMin gD gA gB => Sys2Proof.Machine.execFpMin gD gA gB s
  | .fpMax gD gA gB => Sys2Proof.Machine.execFpMax gD gA gB s
  | .fpSel gD gC gA gB => Sys2Proof.Machine.execFpSel gD gC gA gB s
  | .fpClr acc => Sys2Proof.Machine.execFpClr acc s
  | .fpMac acc gA gB => Sys2Proof.Machine.execFpMac acc gA gB s
  | .fpMsu acc gA gB => Sys2Proof.Machine.execFpMsu acc gA gB s
  | .fpFtap acc cbD cbC two => Sys2Proof.Machine.execFpFtap acc cbD cbC two s
  | .fpAccadd acc gS sh => Sys2Proof.Machine.execFpAccadd acc gS sh s
  | .fpRnd acc gD sh => Sys2Proof.Machine.execFpRnd acc gD sh s
  | .fpExp gD => Sys2Proof.Machine.execFpExp gD s
  | .fpRdcnt gD counter high => Sys2Proof.Machine.execFpRdcnt gD counter high s
  | .cycleFence => Sys2Proof.Machine.execCycleFence s
  | .odWrite w index sub value t => Sys2Proof.Machine.execOdWrite w index sub value t s
  | .configCommit => Sys2Proof.Machine.execConfigCommit s
  | .configDiscard => Sys2Proof.Machine.execConfigDiscard s
  | .store t => Sys2Proof.Machine.execStore t s
  | .restoreDefaults t => Sys2Proof.Machine.execRestoreDefaults t s
  | .storeComplete verified t => Sys2Proof.Machine.execStoreComplete verified t s
  | .sramScrub singles => Sys2Proof.Machine.execSramScrub singles s
  | .sramUncorrectable address area t => Sys2Proof.Machine.execSramUncorrectable address area t s
  | .eventPlace => Sys2Proof.Machine.execEventPlace s
  | .notifyOverflow channel => Sys2Proof.Machine.execNotifyOverflow channel s
  | .uplinkLinkChange port speed alignment => Sys2Proof.Machine.execUplinkLinkChange port speed alignment s
  | .switchForward port f good full0 full1 t => Sys2Proof.Machine.execSwitchForward port f good full0 full1 t s
  | .macAgeOut t => Sys2Proof.Machine.execMacAgeOut t s
  | .arpProbeResult answered => Sys2Proof.Machine.execArpProbeResult answered s
  | .arpRequest sender target t => Sys2Proof.Machine.execArpRequest sender target t s
  | .icmpEcho peer dst data => Sys2Proof.Machine.execIcmpEcho peer dst data s
  | .tcCorrection port domain udp tIn tOut correction bytes => Sys2Proof.Machine.execTcCorrection port domain udp tIn tOut correction bytes s
  | .ptpAnnounce port domain rank identity utc interval t => Sys2Proof.Machine.execPtpAnnounce port domain rank identity utc interval t s
  | .ptpSync port domain identity t1 t2 t => Sys2Proof.Machine.execPtpSync port domain identity t1 t2 t s
  | .ptpDelayReqSend t3 t => Sys2Proof.Machine.execPtpDelayReqSend t3 t s
  | .ptpDelayResp port identity t4 => Sys2Proof.Machine.execPtpDelayResp port identity t4 s
  | .announceReceiptTimeout t => Sys2Proof.Machine.execAnnounceReceiptTimeout t s
  | .clientHello peer t => Sys2Proof.Machine.execClientHello peer t s
  | .handshakeComplete session chain selfSigned notBefore notAfter ou t => Sys2Proof.Machine.execHandshakeComplete session chain selfSigned notBefore notAfter ou t s
  | .handshakeTimeout session failed t => Sys2Proof.Machine.execHandshakeTimeout session failed t s
  | .sessionIdleTimeout session t => Sys2Proof.Machine.execSessionIdleTimeout session t s
  | .sessionClose session write => Sys2Proof.Machine.execSessionClose session write s
  | .toaPartReceived session good b t => Sys2Proof.Machine.execToaPartReceived session good b t s
  | .toaReassemblyTimeout session t => Sys2Proof.Machine.execToaReassemblyTimeout session t s
  | .hello session t => Sys2Proof.Machine.execHello session t s
  | .read session t => Sys2Proof.Machine.execRead session t s
  | .write session t => Sys2Proof.Machine.execWrite session t s
  | .readMulti session t => Sys2Proof.Machine.execReadMulti session t s
  | .writeGroup session t => Sys2Proof.Machine.execWriteGroup session t s
  | .readPoints session t => Sys2Proof.Machine.execReadPoints session t s
  | .subscribe session t => Sys2Proof.Machine.execSubscribe session t s
  | .island session t => Sys2Proof.Machine.execIsland session t s
  | .ping session t => Sys2Proof.Machine.execPing session t s
  | .abort session tag gen => Sys2Proof.Machine.execAbort session tag gen s
  | .notificationSend session t => Sys2Proof.Machine.execNotificationSend session t s
  | .canModeWrite c v => Sys2Proof.Machine.execCanModeWrite c v s
  | .canIntegrated c => Sys2Proof.Machine.execCanIntegrated c s
  | .canFrameReceived c id dlc rtr esi data time wire t => Sys2Proof.Machine.execCanFrameReceived c id dlc rtr esi data time wire t s
  | .txFrame c b => Sys2Proof.Machine.execTxFrame c b s
  | .txCancel c => Sys2Proof.Machine.execTxCancel c s
  | .canTxSelect c => Sys2Proof.Machine.execCanTxSelect c s
  | .canArbitrationLost c => Sys2Proof.Machine.execCanArbitrationLost c s
  | .canTxComplete c wire delay => Sys2Proof.Machine.execCanTxComplete c wire delay s
  | .canError c error tecUp recUp => Sys2Proof.Machine.execCanError c error tecUp recUp s
  | .recover c => Sys2Proof.Machine.execRecover c s
  | .canRecoveryComplete c => Sys2Proof.Machine.execCanRecoveryComplete c s
  | .rxFifoRead c => Sys2Proof.Machine.execRxFifoRead c s
  | .hpRead c => Sys2Proof.Machine.execHpRead c s
  | .canToaPartTimeout c t => Sys2Proof.Machine.execCanToaPartTimeout c t s
  | .adcScanStart modulator edge t => Sys2Proof.Machine.execAdcScanStart modulator edge t s
  | .injRequest modulator edge t => Sys2Proof.Machine.execInjRequest modulator edge t s
  | .adcOutput modulator vdiff vref overload t => Sys2Proof.Machine.execAdcOutput modulator vdiff vref overload t s
  | .adcStepComplete modulator => Sys2Proof.Machine.execAdcStepComplete modulator s
  | .resultRead modulator => Sys2Proof.Machine.execResultRead modulator s
  | .acqStart => Sys2Proof.Machine.execAcqStart s
  | .acqStop => Sys2Proof.Machine.execAcqStop s
  | .forceTrigger => Sys2Proof.Machine.execForceTrigger s
  | .acqProcess => Sys2Proof.Machine.execAcqProcess s
  | .autoTimeoutExpiry t => Sys2Proof.Machine.execAutoTimeoutExpiry t s
  | .pretriggerFilled => Sys2Proof.Machine.execPretriggerFilled s
  | .acqDone => Sys2Proof.Machine.execAcqDone s
  | .acqOverrun => Sys2Proof.Machine.execAcqOverrun s
  | .trigIoEdge pin t => Sys2Proof.Machine.execTrigIoEdge pin t s
  | .cascadePulse pin t => Sys2Proof.Machine.execCascadePulse pin t s
  | .traceRow axis => Sys2Proof.Machine.execTraceRow axis s
  | .traceFreezeCause axis cause => Sys2Proof.Machine.execTraceFreezeCause axis cause s
  | .traceFrozen axis => Sys2Proof.Machine.execTraceFrozen axis s
  | .freeze axis => Sys2Proof.Machine.execFreeze axis s
  | .release axis => Sys2Proof.Machine.execRelease axis s
  | .freezeAll => Sys2Proof.Machine.execFreezeAll s
  | .releaseAll => Sys2Proof.Machine.execReleaseAll s
  | .counterRun => Sys2Proof.Machine.execCounterRun s
  | .counterStop => Sys2Proof.Machine.execCounterStop s
  | .counterClear => Sys2Proof.Machine.execCounterClear s
  | .counterOverflow counter => Sys2Proof.Machine.execCounterOverflow counter s
  | .windowEnd t => Sys2Proof.Machine.execWindowEnd t s
  | .counterReset index => Sys2Proof.Machine.execCounterReset index s
  | .lighthouseCycle t => Sys2Proof.Machine.execLighthouseCycle t s
  | .lhPowered t => Sys2Proof.Machine.execLhPowered t s
  | .lhSelfTestComplete pass t => Sys2Proof.Machine.execLhSelfTestComplete pass t s
  | .lhFault cause t => Sys2Proof.Machine.execLhFault cause t s
  | .siChannelChange input chB level t => Sys2Proof.Machine.execSiChannelChange input chB level t s
  | .siTestPulse input chB stayedHigh t => Sys2Proof.Machine.execSiTestPulse input chB stayedHigh t s
  | .siDiscrepancy input t => Sys2Proof.Machine.execSiDiscrepancy input t s
  | .safetyResetPress input => Sys2Proof.Machine.execSafetyResetPress input s
  | .soTestPulse output low result t => Sys2Proof.Machine.execSoTestPulse output low result t s
  | .slsRampExpiry axis t => Sys2Proof.Machine.execSlsRampExpiry axis t s
  | .ss1Timeout axis t => Sys2Proof.Machine.execSs1Timeout axis t s
  | .scLossTimeout island t => Sys2Proof.Machine.execScLossTimeout island t s
  | .xchkMismatch axis => Sys2Proof.Machine.execXchkMismatch axis s
  | .xchkMissing axis => Sys2Proof.Machine.execXchkMissing axis s
  | .sbcDelayExpiry axis t => Sys2Proof.Machine.execSbcDelayExpiry axis t s
  | .stoReadbackFail axis t => Sys2Proof.Machine.execStoReadbackFail axis t s
  | .safetyReset => Sys2Proof.Machine.execSafetyReset s
  | .safetySigAck w v t => Sys2Proof.Machine.execSafetySigAck w v t s
  | .safetyDiscard w => Sys2Proof.Machine.execSafetyDiscard w s
  | .passwordNew w new t => Sys2Proof.Machine.execPasswordNew w new t s
  | .passwordLockoutEnd t => Sys2Proof.Machine.execPasswordLockoutEnd t s
  | .safetyClear w key t => Sys2Proof.Machine.execSafetyClear w key t s
  | .safetyAck => Sys2Proof.Machine.execSafetyAck s
  | .degradedTimeExpiry t => Sys2Proof.Machine.execDegradedTimeExpiry t s
  | .safetySigCompare peer => Sys2Proof.Machine.execSafetySigCompare peer s
  | .recordWrite t => Sys2Proof.Machine.execRecordWrite t s
  | .recorderOverflow => Sys2Proof.Machine.execRecorderOverflow s
  | .rideThrough => Sys2Proof.Machine.execRideThrough s
  | .timeSet => Sys2Proof.Machine.execTimeSet s
  | .recordRead session => Sys2Proof.Machine.execRecordRead session s
  | .clear w t => Sys2Proof.Machine.execClear w t s
  | .feedUnhealthy feed rail cause mv t => Sys2Proof.Machine.execFeedUnhealthy feed rail cause mv t s
  | .feedHealthy feed rail mv t => Sys2Proof.Machine.execFeedHealthy feed rail mv t s
  | .feedRevert t => Sys2Proof.Machine.execFeedRevert t s
  | .feedForceChange a b t => Sys2Proof.Machine.execFeedForceChange a b t s
  | .powerCmdStandby => Sys2Proof.Machine.execPowerCmdStandby s
  | .powerCmdConfig => Sys2Proof.Machine.execPowerCmdConfig s
  | .powerCmdRun => Sys2Proof.Machine.execPowerCmdRun s
  | .clusterSelectWrite v => Sys2Proof.Machine.execClusterSelectWrite v s
  | .acqSelectWrite v => Sys2Proof.Machine.execAcqSelectWrite v s
  | .domainStateChange t => Sys2Proof.Machine.execDomainStateChange t s
  | .tripClear => Sys2Proof.Machine.execTripClear s
  | .thermalTrip tj t => Sys2Proof.Machine.execThermalTrip tj t s
  | .thermalWarning tj t => Sys2Proof.Machine.execThermalWarning tj t s
  | .refclkLoss t => Sys2Proof.Machine.execRefclkLoss t s
  | .pllUnlock pll t => Sys2Proof.Machine.execPllUnlock pll t s
  | .powerOnReset => Sys2Proof.Machine.execPowerOnReset s
  | .nresetPin t => Sys2Proof.Machine.execNresetPin t s
  | .brownout t => Sys2Proof.Machine.execBrownout t s
  | .supervisorWatchdog t => Sys2Proof.Machine.execSupervisorWatchdog t s
  | .resetCmd t => Sys2Proof.Machine.execResetCmd t s
  | .resetRelease header0 header1 ddr t => Sys2Proof.Machine.execResetRelease header0 header1 ddr t s
  | .imageHashCheck payload => Sys2Proof.Machine.execImageHashCheck payload s
  | .bootComplete aOk bOk t => Sys2Proof.Machine.execBootComplete aOk bOk t s
  | .wallTimeSet v t => Sys2Proof.Machine.execWallTimeSet v t s
  | .rollbackAdvance w n => Sys2Proof.Machine.execRollbackAdvance w n s
  | .keyRevoke w keys => Sys2Proof.Machine.execKeyRevoke w keys s
  | .bootPreferWrite v => Sys2Proof.Machine.execBootPreferWrite v s
  | .fwUpdateBegin => Sys2Proof.Machine.execFwUpdateBegin s
  | .fwEraseComplete => Sys2Proof.Machine.execFwEraseComplete s
  | .fwUpdateData b => Sys2Proof.Machine.execFwUpdateData b s
  | .fwUpdateCommit => Sys2Proof.Machine.execFwUpdateCommit s
  | .fwVerifyComplete header payload => Sys2Proof.Machine.execFwVerifyComplete header payload s
  | .fwUpdateAbort => Sys2Proof.Machine.execFwUpdateAbort s
  | .trustAnchorWrite w anchor der => Sys2Proof.Machine.execTrustAnchorWrite w anchor der s
  | .debugLock w => Sys2Proof.Machine.execDebugLock w s
  | .tapInstruction instruction t => Sys2Proof.Machine.execTapInstruction instruction t s
  | .ageingMeasurement result t => Sys2Proof.Machine.execAgeingMeasurement result t s
  | .planIntervalExpiry busy t => Sys2Proof.Machine.execPlanIntervalExpiry busy t s
  | .planCompute busy => Sys2Proof.Machine.execPlanCompute busy s
  | .planAccept n => Sys2Proof.Machine.execPlanAccept n s
  | .planReject => Sys2Proof.Machine.execPlanReject s
  | .vidStep t => Sys2Proof.Machine.execVidStep t s
  | .mramSpareUsed => Sys2Proof.Machine.execMramSpareUsed s
  | .pointsSend island slot late => Sys2Proof.Machine.execPointsSend island slot late s
  | .pllRelock pll t => Sys2Proof.Machine.execPllRelock pll t s
  | .straitStartup rank count => Sys2Proof.Machine.execStraitStartup rank count s
  | .entryDone entry t => Sys2Proof.Machine.execEntryDone entry t s

end Sys2Proof.Machine
end

