-- ==== Sys2Proof/Safety.lean ====
section
/-! DEFINITION. The terms in which statements speak of runs: a command that completes, the parts of the state it may
touch, the events it raises, and the canonical form of the stored data. -/

namespace Sys2Proof.Machine

open Sys2Proof

/-- The command completes in the state, with a next state of which `q` holds. -/
def Runs (c : Instr) (s : State) (q : State → Prop) : Prop := ∃ t, exec c s = .next t ∧ q t

/-- The parts of the state: one for each field of `State`. -/
inductive StatePart where
  | clock | dictionary | texts | active | committed | raised | channels | recorder | counters | acquisition | traces | ports | islands | net | dual | ferry | axes | encoders | masters | rxPts | pubIn | pubOut | outPts | wheel | sentActs | wheelStarts | fpLoaded | filterRun | acqUse | lighthouse | modulators | adcFlags | outputs | placed | mram | sessions | uplink | cans | power | boot | ageing | freeCount | queue
  deriving DecidableEq, Repr

/-- The part is the same in both states. -/
def StatePart.same (p : StatePart) (s t : State) : Prop :=
  match p with
  | .clock => t.clk = s.clk
  | .dictionary => t.od = s.od
  | .texts => t.odB = s.odB
  | .active => t.act = s.act
  | .committed => t.com = s.com
  | .raised => t.raised = s.raised
  | .channels => t.channels = s.channels
  | .recorder => t.recorder = s.recorder
  | .counters => t.counters = s.counters
  | .acquisition => t.acq = s.acq
  | .traces => t.traces = s.traces
  | .ports => t.ports = s.ports
  | .islands => t.islands = s.islands
  | .net => t.net = s.net
  | .dual => t.dual = s.dual
  | .ferry => t.ferry = s.ferry
  | .axes => t.axes = s.axes
  | .encoders => t.encs = s.encs
  | .masters => t.masters = s.masters
  | .rxPts => t.rxPts = s.rxPts
  | .pubIn => t.pubIn = s.pubIn
  | .pubOut => t.pubOut = s.pubOut
  | .outPts => t.outPts = s.outPts
  | .wheel => t.wheel = s.wheel
  | .sentActs => t.sentActs = s.sentActs
  | .wheelStarts => t.wheelStarts = s.wheelStarts
  | .fpLoaded => t.fpLoaded = s.fpLoaded
  | .filterRun => t.fm = s.fm
  | .acqUse => t.acqUse = s.acqUse
  | .lighthouse => t.lh = s.lh
  | .modulators => t.mods = s.mods
  | .adcFlags => t.adcFlags = s.adcFlags
  | .outputs => t.out = s.out
  | .placed => t.placed = s.placed
  | .mram => t.mram = s.mram
  | .sessions => t.sessions = s.sessions
  | .uplink => t.uplink = s.uplink
  | .cans => t.cans = s.cans
  | .power => t.power_ = s.power_
  | .boot => t.boot = s.boot
  | .ageing => t.ageing = s.ageing
  | .freeCount => t.free = s.free
  | .queue => t.pending = s.pending

/-- Between the two states no part but those listed differs. -/
def OnlyParts (l : List StatePart) (s t : State) : Prop := ∀ p, p ∉ l → p.same s t

/-- No numeric entry of the dictionary but those listed differs. -/
def OnlyEntries (l : List Nat) (s t : State) : Prop := ∀ k, k ∉ l → t.rd k = s.rd k

/-- The events raised between the two states: sources with DATA0 and DATA1, in order. -/
def RaisedJust (l : List (Nat × Nat × Nat)) (s t : State) : Prop :=
  ∃ r, t.raised = s.raised ++ r ∧ r.map (fun e => (e.source, e.data0, e.data1)) = l

/-- The events raised between the two states by their sources alone: of their data words the spec leaves some open. -/
def RaisedSources (l : List Nat) (s t : State) : Prop :=
  ∃ r, t.raised = s.raised ++ r ∧ r.map (fun e => e.source) = l

/-- The write was answered so, as the last thing given to the outside, and nothing else was given out. -/
def AnsweredJust (a : Ans) (s t : State) : Prop := t.out = .answer a :: s.out

/-! ### The canonical form of stored data -/

/-- A store of numeric entries lists each key once, rising, and no entry at its default. -/
def DictWf (m : SMap Int) : Prop := SMap.Wf odDefault m

/-- The same for octet and text entries, whose default is empty. -/
def TextWf (m : SMap Bytes) : Prop := SMap.Wf (fun _ => []) m

/-- An image holds its entries in canonical form. -/
def Image.Canon (i : Image) : Prop := DictWf i.od ∧ TextWf i.odB

/-- The dictionary (its pending and its active values, and the committed schedule), the set the Lighthouse is about to
activate, and the images of MRAM are in canonical form. -/
def State.Canon (s : State) : Prop :=
  DictWf s.od ∧ TextWf s.odB ∧ DictWf s.act ∧ (∀ m ∈ s.com, DictWf m) ∧ (∀ m ∈ s.lh.activate, DictWf m.1) ∧
  (∀ i ∈ s.mram.slotA, i.Canon) ∧ (∀ i ∈ s.mram.slotB, i.Canon) ∧ (∀ w ∈ s.mram.storing, w.image.Canon)

end Sys2Proof.Machine
end

