-- ==== Sys2Proof/Certificates/Slice0/Obligations.lean ====
section
/-! DEFINITION. The statements about this model, one definition each. Where a statement names the rules of spec/ it
follows, it names them in its docstring; what rests on a choice of the model names the log entry. -/

open Sys2Proof Sys2Proof.Machine


/-! ### The step, the queue, reset and the stored data -/

/-- A step takes the command at the front of the queue and executes it with the rest of the queue; with no command waiting
the block idles (the model's choice, log 2). -/
def Obligations.StepRunsFront : Prop :=
  (∀ (s : State) (c : Instr) (r : List Instr), s.pending = c :: r → step s = exec c { s with pending := r }) ∧
  (∀ s : State, s.pending = [] → step s = .next s)

/-- No command changes the queue of those that wait. -/
def Obligations.ExecKeepsQueue : Prop := ∀ (c : Instr) (s t : State), exec c s = .next t → t.pending = s.pending

/-- R16, R473, R489: at reset every numeric entry reads its default and every text is empty, in the dictionary and of the
active values alike; the power state is STANDBY with every domain but AON off, the network is OFF, no session is open, no event
is raised and no command waits. -/
def Obligations.ResetValues : Prop :=
  (∀ k, State.reset.rd k = odDefault k ∧ State.reset.cf k = odDefault k ∧ State.reset.rdB k = []) ∧
  State.reset.power = 0 ∧ State.reset.netState = N.OFF ∧ (∀ d, d < 16 → State.reset.domainOn d = false) ∧
  (∀ n, n < 10 → State.reset.sessionState n = 0) ∧ (∀ a, a < 128 → State.reset.axState a = 0) ∧ State.reset.raised = [] ∧
  State.reset.boot.state = .inReset ∧ State.reset.pending = []

/-- The stored data are in canonical form at reset. -/
def Obligations.ResetCanon : Prop := State.reset.Canon

/-- Every step keeps the stored data in canonical form: the dictionary, its active values, the committed schedule, the safety
set to be activated and the images of MRAM. -/
def Obligations.StepKeepsCanon : Prop := ∀ s t : State, s.Canon → step s = .next t → t.Canon

/-! ### Startup, ports and network time (spec/02, spec/03) -/

/-- R64 to R66, R84, R89, R92: the transitions of the head's network state: START, STOP, the end of the listen timer, eight
cycles without collision, a running head seen, and integration.
R63, R64, R66: a head in COLDSTART that meets another head of lower rank goes back to LISTEN, one that meets a head
of its own rank stops, one that meets a head of higher rank goes on; a STARTUP frame of an island is counted. -/
def Obligations.NetworkStateTransitions : Prop :=
  (∀ s : State,
    (s.netState = N.OFF → s.power ≠ 0 → Runs .networkStart s (fun t => t.netState = N.LISTEN ∧ t.com = none ∧
      t.net.listenLeft = s.rdN K.LISTEN_BASE + 2 * s.rdN K.COLDSTART_RANK ∧ AnsweredJust .ok s t ∧
      (t.dual.on = true ↔ s.rd K.DUAL_HEAD = 1) ∧ t.dhState = (if s.rd K.DUAL_HEAD = 1 then DH.ALONE else DH.SINGLE))) ∧
    (s.netState ≠ N.OFF → Runs .networkStart s (fun t => AnsweredJust .refused s t ∧ OnlyParts [.outputs] s t)) ∧
    (s.netState ≠ N.OFF → Runs .networkStop s (fun t => t.netState = N.OFF ∧ t.rd K.STOP_REASON = 1 ∧
      AnsweredJust .ok s t ∧ ∀ p, p < 48 → t.guard p = G.DISABLED ∨ t.guard p = G.LINK_DOWN)) ∧
    (∀ now, s.netState = N.LISTEN → s.net.listenLeft = 0 → Runs (.listenTimeout now) s (fun t => t.netState = N.COLDSTART ∧
      t.net.coldCount = s.net.coldCount + 1 ∧ t.net.nameCount = s.net.coldCount + 1 ∧
      t.net.nameRank = s.rdN K.COLDSTART_RANK ∧ t.net.clean = 0 ∧ t.net.collision = false ∧
      (s.ptpLocked = false → t.clk.cycNext = some 0) ∧
      (s.ptpLocked = true → ∃ n, t.clk.cycNext = some n ∧ (s.at now).wallNow ≤ n * s.ct ∧
        n * s.ct < (s.at now).wallNow + s.ct))) ∧
    (s.netState = N.COLDSTART → 8 ≤ s.net.clean → Runs .coldstartComplete s (fun t => t.netState = N.OPERATE ∧
      t.dhRole = (if s.dual.on then 1 else s.dhRole) ∧ OnlyParts [.dictionary, .ports, .islands] s t)) ∧
    (∀ rank count cyc, s.netState = N.LISTEN → s.dual.on = true → s.straitUp = true →
      Runs (.straitHeadSeen rank count cyc) s (fun t => t.netState = N.INTEGRATE ∧ t.net.nameRank = rank.val ∧
        t.net.nameCount = count.val ∧ t.clk.cycNext = some cyc ∧ OnlyParts [.dictionary, .net, .clock] s t ∧
        OnlyEntries [K.NETWORK_STATE] s t)) ∧
    (∀ p, s.netState = N.LISTEN → s.dual.on = true → s.straitUp = false → Runs (.dhNoStrait p) s (fun t =>
      t.net.listenLeft = s.rdN K.LISTEN_BASE + 2 * s.rdN K.COLDSTART_RANK ∧ RaisedSources [Ev.DH_NO_STRAIT] s t ∧
      OnlyParts [.net, .raised, .freeCount] s t)) ∧
    (∀ cycles, 8 ≤ cycles → s.netState = N.INTEGRATE → Runs (.integrateComplete cycles s.configDigest) s (fun t =>
      t.netState = N.OPERATE ∧ t.dhRole = 2 ∧ t.dhState = DH.RESYNC ∧ t.dual.standby = true)) ∧
    (∀ cycles d, d ≠ s.configDigest → s.netState = N.INTEGRATE → Runs (.integrateComplete cycles d) s (fun t =>
      t.netState = N.OFF ∧ t.rd K.STOP_REASON = 4 ∧ RaisedSources [Ev.DH_CONFIG_MISMATCH] s t))) ∧
  (∀ s : State,
    (∀ rank count, s.straitUp = true → netName rank.val count.val ≠ netName s.net.nameRank s.net.nameCount →
      s.netState = N.COLDSTART → s.net.collision = false →
      (rank.val < s.rdN K.COLDSTART_RANK → Runs (.straitStartup rank count) s (fun t => t.netState = N.LISTEN ∧
        t.net.listenLeft = s.rdN K.LISTEN_BASE + 2 * s.rdN K.COLDSTART_RANK ∧ t.net.collision = true ∧
        RaisedSources [Ev.COLDSTART_COLLISION] s t)) ∧
      (rank.val = s.rdN K.COLDSTART_RANK → Runs (.straitStartup rank count) s (fun t => t.netState = N.OFF ∧
        t.rd K.STOP_REASON = 3 ∧ RaisedSources [Ev.RANK_CONFLICT] s t)) ∧
      (s.rdN K.COLDSTART_RANK < rank.val → Runs (.straitStartup rank count) s (fun t => t.netState = N.COLDSTART ∧
        t.net.collision = true ∧ OnlyParts [.net] s t))) ∧
    (∀ p : Fin 48, s.guard p ≠ G.DISABLED → s.guard p ≠ G.LINK_DOWN →
      s.rdN (K.ISLAND_COLDSTART p) + 1 ≤ odMax (K.ISLAND_COLDSTART p) → Runs (.islandColdstart p) s (fun t =>
        t.rd (K.ISLAND_COLDSTART p) = s.rdN (K.ISLAND_COLDSTART p) + 1 ∧ OnlyParts [.dictionary] s t ∧
        OnlyEntries [K.ISLAND_COLDSTART p] s t)))

/-- R51, R52, R60, R67: how a port's guardian goes between its states: ENABLE, the link, opening, the exclusion at 3
violations in a row, the isolation at 8, the readmission after 8 clean cycles, and the end of the isolation hold. -/
def Obligations.PortStateTransitions : Prop :=
  ∀ (s : State) (p : Fin 48),
    (s.guard p = G.DISABLED → s.portUsable p = true → Runs (.portEnableWrite p true) s (fun t => t.guard p = G.LINK_DOWN ∧
      t.rd (K.ENABLE p) = 1 ∧ AnsweredJust .ok s t ∧ OnlyParts [.dictionary, .outputs] s t ∧
      OnlyEntries [K.ENABLE p, K.GUARD_STATE p] s t)) ∧
    (s.guard p ≠ G.DISABLED → Runs (.portEnableWrite p false) s (fun t => t.guard p = G.DISABLED ∧
      t.rd (K.ENABLE p) = 0 ∧ (t.port p).linkUp = false ∧ AnsweredJust .ok s t ∧
      OnlyParts [.dictionary, .outputs, .ports, .islands] s t)) ∧
    (∀ al, s.guard p = G.LINK_DOWN → s.netState = N.COLDSTART ∨ s.netState = N.OPERATE →
      Runs (.pcsLinkUp p al) s (fun t => t.guard p = G.INTEGRATING ∧ (t.port p).linkUp = true ∧
        (t.port p).alignment = al.val ∧ (t.port p).exch = [] ∧ (t.port p).verify = 0)) ∧
    (∀ al, s.guard p ≠ G.DISABLED → s.netState ≠ N.COLDSTART → s.netState ≠ N.OPERATE →
      Runs (.pcsLinkUp p al) s (fun t => t.guard p = s.guard p ∧ (t.port p).linkUp = true ∧ (t.port p).alignment = al.val)) ∧
    (s.guard p ≠ G.DISABLED → (s.port p).linkUp = true → Runs (.portLinkLost p) s (fun t => t.guard p = G.LINK_DOWN ∧
      (t.port p).linkUp = false ∧ RaisedJust [(Ev.PORT_LINK_LOST, p.val, (s.port p).delay16 % 2 ^ 32)] s t ∧
      t.recorder.rides.length = s.recorder.rides.length + 1)) ∧
    (s.portStarting p = true → (s.port p).inPlan = true → 8 ≤ (s.port p).verify → (s.port p).mismatch = 0 →
      Runs (.portOpen p) s (fun t => t.guard p = G.OPEN ∧ t.rd (K.VIOLATION_RUN p) = 0 ∧ (t.port p).cleanRun = 0 ∧
        OnlyParts [.dictionary, .ports, .islands] s t)) ∧
    (s.guard p = G.OPEN → 3 ≤ s.rdN (K.VIOLATION_RUN p) → Runs (.portSyncExcluded p) s (fun t =>
      t.guard p = G.SYNC_EXCLUDED ∧ RaisedJust [(Ev.PORT_SYNC_EXCLUDED, p.val, (s.port p).delay16 % 2 ^ 32)] s t ∧
      OnlyParts [.dictionary, .raised] s t ∧ OnlyEntries [K.GUARD_STATE p] s t)) ∧
    (s.guard p = G.SYNC_EXCLUDED → 8 ≤ s.rdN (K.VIOLATION_RUN p) → Runs (.portIsolated p) s (fun t =>
      t.guard p = G.ISOLATED ∧ (t.port p).isolatedAt = s.clk.tick ∧
      RaisedJust [(Ev.PORT_ISOLATED, p.val, (s.port p).delay16 % 2 ^ 32)] s t)) ∧
    (s.guard p = G.SYNC_EXCLUDED → 8 ≤ (s.port p).cleanRun → Runs (.portReadmitted p) s (fun t =>
      t.guard p = G.OPEN ∧ t.rd (K.VIOLATION_RUN p) = 0 ∧
      RaisedJust [(Ev.PORT_READMITTED, p.val, (s.port p).delay16 % 2 ^ 32)] s t ∧
      OnlyParts [.dictionary, .raised] s t ∧ OnlyEntries [K.GUARD_STATE p, K.VIOLATION_RUN p] s t)) ∧
    (s.guard p = G.ISOLATED → (s.port p).resumed = false → (s.port p).linkUp = true →
      (s.port p).isolatedAt + s.rdN K.ISOLATION_HOLD ≤ s.clk.tick → Runs (.isolationHoldExpiry p) s (fun t =>
        t.portStarting p = true ∧ (t.port p).exch = [] ∧ OnlyParts [.ports] s t ∧
        ∀ q, q ≠ p.val → t.port q = s.port q))

/-- R48, R51, R64, R67, R73, R102: the measurement of a port: a SYNC frame in its window gives delay and deviation of an
exchange; sixteen exchanges within plan, or outside it; a new measurement after 1,024 cycles; no SYNC for 64 cycles; a
STARTUP frame; and the runs at the end of a cycle.
R76 to R79: the correction of a cycle, its application in the idle time, and the end of a rate round. -/
def Obligations.TimeMeasurement : Prop :=
  (∀ (s : State) (p : Fin 48),
    (∀ mac f t1, s.portStarting p = true → s.validUp p true (headerOf f) 1 = true → syncLen ≤ f.length →
      (s.sched.len : Rat) ≤ s.planeTime p mac - sfdNs →
      s.planeTime p mac - sfdNs ≤ ((2 * s.sched.len : Nat) : Rat) - wireNs f.length →
      bit (headerOf f).flags 2 = false → (s.port p).t1 = some t1 →
      Runs (.syncReceived p mac true f) s (fun t =>
        t.rd (K.VENDOR (portIsland p)) = (syncOf f).vendor ∧ t.rd (K.CAPS (portIsland p)) = (syncOf f).caps ∧
        (t.port p).noSync = 0 ∧
        (t.port p).devNow = some ((((syncOf f).t2 - t1) - (s.planeTime p mac - (syncOf f).t3)) / 2) ∧
        ((s.port p).doneAt = none → (s.port p).remeasureAt = none → (s.port p).exch.length < 16 →
          (t.port p).exch = (s.port p).exch ++ [(((s.planeTime p mac - t1) - ((syncOf f).t3 - (syncOf f).t2)) / 2,
            (((syncOf f).t2 - t1) - (s.planeTime p mac - (syncOf f).t3)) / 2)]))) ∧
    (s.portStarting p = true → 16 ≤ (s.port p).exch.length → (s.port p).doneAt = none → (s.port p).remeasureAt = none →
      Runs (.syncMeasurementComplete p) s (fun t =>
        (t.port p).delay = meanR ((s.port p).exch.map (·.1)) ∧
        t.rd (K.MEASURED_DELAY p) = roundHalfUp (meanR ((s.port p).exch.map (·.1)) * 16) ∧
        ((t.port p).delay ≤ (s.cfN (K.PLANNED_DELAY p) : Rat) ∧ (t.port p).unc ≤ (s.cfN (K.PLANNED_UNCERTAINTY p) : Rat) →
          (t.port p).inPlan = true ∧ (t.port p).doneAt = some s.clk.tick ∧ t.raised = s.raised) ∧
        (¬((t.port p).delay ≤ (s.cfN (K.PLANNED_DELAY p) : Rat) ∧ (t.port p).unc ≤ (s.cfN (K.PLANNED_UNCERTAINTY p) : Rat)) →
          (t.port p).inPlan = false ∧ (t.port p).remeasureAt = some (s.clk.tick + 1024) ∧
          RaisedSources [Ev.PORT_DELAY_PLAN] s t))) ∧
    (∀ k, (s.port p).remeasureAt = some k → s.portStarting p = true → k ≤ s.clk.tick →
      Runs (.portRemeasureTimeout p) s (fun t => (t.port p).exch = [] ∧ (t.port p).remeasureAt = none ∧
        (t.port p).inPlan = false ∧ OnlyParts [.ports] s t ∧ ∀ q, q ≠ p.val → t.port q = s.port q)) ∧
    (s.portStarting p = true → 64 ≤ (s.port p).noSync → Runs (.syncAbsentTimeout p) s (fun t =>
      (t.port p).exch = [] ∧ (t.port p).noSync = 0 ∧ (t.port p).verify = 0 ∧ OnlyParts [.ports, .islands] s t)) ∧
    (∀ late, s.netState = N.COLDSTART ∨ s.netState = N.OPERATE → s.portStarting p = true →
      s.sched.apDown + late + wireNs startupLen ≤ s.sched.len → Runs (.startupSend p late) s (fun t =>
        ∃ f, t.out = .frame p (s.sched.apDown + late) f :: s.out ∧ f.length = startupLen ∧
          (t.port p).t1 = some ((s.sched.apDown + late + sfdNs : Nat) : Rat))) ∧
    Runs .guardianEndOfCycle s (fun t =>
      (s.portOpen p = true → (s.port p).violation = true → (t.port p).cleanRun = 0) ∧
      (s.portOpen p = true → (s.port p).violation = false → (s.port p).admitted = true →
        (t.port p).cleanRun = (s.port p).cleanRun + 1 ∧ t.rd (K.VIOLATION_RUN p) = 0) ∧
      t.guard p = s.guard p ∧ t.net.collision = false ∧
      (s.netState = N.COLDSTART → t.net.clean = if s.net.collision then 0 else s.net.clean + 1))) ∧
  (∀ s : State,
    (∀ peer, s.netState = N.COLDSTART ∨ s.netState = N.OPERATE → s.dhActive = false →
      Runs (.syncCorrection peer) s (fun t =>
        t.rd K.SYNC_NODES_USED = (s.syncSet peer).length ∧
        t.rd K.K_USED = min (s.rdN K.K_DISCARD) (((s.syncSet peer).length - 1) / 3) ∧
        t.clk.stepPending = clampI (-(s.rd K.STEP_MAX * 65536)) (s.rd K.STEP_MAX * 65536) (fix16 (meanR
          (retained (s.syncSet peer) (min (s.rdN K.K_DISCARD) (((s.syncSet peer).length - 1) / 3))))) ∧
        t.net.round = s.net.round + 1 ∧
        (∀ n, n < 24 → s.integrated n = true → (t.island n).corr = t.clk.stepPending -
          (match s.islandDev peer (fun p => s.portOpen p || s.devOpen peer p) n with | some d => fix16 d | none => 0)) ∧
        OnlyParts [.dictionary, .clock, .net, .islands, .raised, .freeCount] s t)) ∧
    (s.netState = N.COLDSTART ∨ s.netState = N.OPERATE → Runs .clockCorrectionApply s (fun t =>
      t.clk.idleChange + t.clk.stepCarry = s.clk.stepPending + s.net.extStep + s.clk.stepCarry ∧
      -((idleTime s.cf - leastIdle s s.cf) * 65536) ≤ t.clk.idleChange ∧
      (t.clk.stepCarry ≠ 0 → t.clk.idleChange = -((idleTime s.cf - leastIdle s s.cf) * 65536)) ∧
      t.clk.stepPending = 0 ∧ OnlyParts [.clock, .net] s t)) ∧
    (s.net.round ≠ 0 → s.rdN K.RATE_ROUND ≤ s.net.round → Runs .rateRoundEnd s (fun t =>
      t.net.round = 0 ∧ t.net.stepSum = 0 ∧ t.clk.headRate = s.clk.headRate + s.roundRate s.net.stepSum ∧
      (∀ n, n < 24 → s.integrated n = true → (s.island n).roundIn = s.net.round →
        (t.island n).rateAdj = some (s.roundRate (s.island n).roundSum)) ∧
      (∀ n, n < 24 → (s.island n).roundIn ≠ s.net.round → (t.island n).rateAdj = none) ∧
      OnlyParts [.dictionary, .clock, .net, .islands] s t)))

/-- R84, R87 to R90: two heads: the strait link lost and back, integration, digests, divergence, and resynchronisation. -/
def Obligations.DualHeadTransitions : Prop :=
  ∀ s : State,
    (s.straitUp = true → s.dhState = DH.ACTIVE → Runs .straitLinkLost s (fun t => t.rd K.STRAIT_STATE = 0 ∧
      t.dhState = DH.ALONE ∧ RaisedSources [Ev.STRAIT_LINK_LOST] s t ∧
      t.recorder.rides.length = s.recorder.rides.length + 1 ∧ OnlyEntries [K.STRAIT_STATE, K.DH_STATE] s t)) ∧
    (s.straitUp = true → s.dhState = DH.RESYNC ∨ s.dhState = DH.VERIFY → Runs .straitLinkLost s (fun t =>
      t.dhState = DH.STANDBY ∧ RaisedSources [Ev.STRAIT_LINK_LOST] s t)) ∧
    (∀ d, s.domainOn Dom.NET_B = true → s.straitUp = false → s.dhState = DH.ALONE → s.netState = N.OPERATE →
      s.dhRole ≠ 0 → Runs (.straitLinkReturn d true) s (fun t => t.straitUp = true ∧ t.rd K.STRAIT_DELAY = d ∧
        t.dhState = (if s.dhRole = 2 then DH.VERIFY else DH.ACTIVE))) ∧
    (∀ d b, s.domainOn Dom.NET_B = true → s.straitUp = false → s.dhState = DH.STANDBY → Runs (.straitLinkReturn d b) s
      (fun t => t.straitUp = true ∧ t.dhState = DH.RESYNC ∧ t.dual.standby = true ∧ t.dual.resyncAt = s.clk.now)) ∧
    (s.dhState = DH.ALONE → s.netState = N.OPERATE → s.straitUp = true → Runs .peerIntegrated s (fun t => t.dhRole = 1 ∧
      t.dhState = DH.ACTIVE ∧ OnlyParts [.dictionary] s t ∧ OnlyEntries [K.DH_ROLE, K.DH_STATE] s t)) ∧
    (s.straitUp = true → s.dhState = DH.VERIFY → s.dual.mismatch = [] →
      Runs (.digestExchange s.dual.digests) s (fun t => t.out = .straitDigests s.dual.digests :: s.out ∧
        (s.dual.digests.Pairwise (fun x y => x.1 < y.1) → t.dual.equalRun = s.dual.equalRun + 1 ∧ t.dhState = DH.VERIFY))) ∧
    (∀ a : Fin 128, s.dhState = DH.ACTIVE → s.dhRole = 2 → s.rdN K.DIVERGE_LIMIT ≤ SMap.get s.dual.mismatch 0 a →
      Runs (.dhDivergence a) s (fun t => t.rd K.LAST_DIVERGED_AXIS = a.val ∧ t.dhState = DH.RESYNC ∧
        t.dual.standby = true ∧ RaisedSources [Ev.DH_DIVERGENCE] s t)) ∧
    (s.dhState = DH.ACTIVE → s.dhRole = 2 → Runs .resyncRequest s (fun t => t.dhState = DH.RESYNC ∧
      t.dual.standby = true ∧ t.dual.resyncAt = s.clk.now ∧ AnsweredJust .ok s t ∧ OnlyEntries [K.DH_STATE] s t)) ∧
    (∀ now, s.dhState = DH.RESYNC → s.straitUp = true → Runs (.resyncComplete now) s (fun t => t.dhState = DH.VERIFY ∧
      t.dual.equalRun = 0 ∧ OnlyParts [.dictionary, .clock, .dual] s t ∧ OnlyEntries [K.DH_STATE] s t)) ∧
    (∀ now, s.dhState = DH.VERIFY → s.rdN K.VERIFY_CYCLES ≤ s.dual.equalRun → Runs (.dhResyncDone now) s (fun t =>
      t.dhState = DH.ACTIVE ∧ t.dual.standby = false ∧ RaisedSources [Ev.DH_RESYNC_DONE] s t ∧
      t.rd K.LAST_RESYNC_TIME = ((max s.clk.now now - s.dual.resyncAt) / 1000 : Nat)))

/-- R32, R54 to R57, R59, R524: the commit of a schedule, which is active at once in OFF and waits for START in every other
state of the network; the start of a cycle; and a cycle mark. -/
def Obligations.ScheduleAndCycle : Prop :=
  ∀ s : State, DictWf s.od →
    (s.integratedList = [] → schedCheck s s.rd s.cf = none →
      Runs .schedCommit s (fun t => t.rd K.SCHED_COMMIT_RESULT = 0 ∧ AnsweredJust .ok s t ∧
        RaisedJust [(Ev.SCHED_COMMIT, 0, 0x2000)] s t ∧
        (s.netState = N.OFF → t.com = none ∧ (∀ k, isSched k = true → t.cf k = s.rd k) ∧
          (∀ k, isSched k = false → t.cf k = s.cf k)) ∧
        (s.netState ≠ N.OFF → t.com = some (schedPart s.od) ∧ t.act = s.act))) ∧
    (∀ n r, s.integratedList = n :: r → Runs .schedCommit s (fun t => t.rd K.SCHED_COMMIT_RESULT = (1 + 256 * n : Nat) ∧
      AnsweredJust .refused s t ∧ OnlyParts [.dictionary, .outputs] s t ∧ OnlyEntries [K.SCHED_COMMIT_RESULT] s t)) ∧
    (∀ now, s.power ≠ 0 → Runs (.cycleStart now) s (fun t => t.clk.tick = s.clk.tick + 1 ∧
      t.clk.cyc = s.clk.cycNext.getD (s.clk.cyc + 1) ∧ t.clk.cycNext = none ∧ t.clk.startNow = max s.clk.now now ∧
      t.clk.now = max s.clk.now now ∧ t.clk.marksFired = 0)) ∧
    (∀ (m : Fin 16) now ctl off kinds, s.clk.marks[m.val]? = some (ctl, off, kinds) → s.power = 1 → bit ctl 0 = true →
      bit s.clk.marksFired m = false → s.clk.startNow + off ≤ max s.clk.now now → Runs (.cycleMark m now) s (fun t =>
        bit t.clk.marksFired m = true ∧ RaisedSources (if bit ctl 1 then [Ev.CYCLE_MARK] else []) s t ∧
        (field ctl 2 3 = 0 → t.out = s.out) ∧
        (1 ≤ field ctl 2 3 → field ctl 2 3 ≤ 4 → s.clk.evtNotify.contains (field ctl 2 3 - 1) = false →
          t.out = .evtOut (field ctl 2 3 - 1) (s.clk.startNow + off) (10 * field ctl 8 8) :: s.out) ∧
        OnlyParts [.clock, .raised, .outputs, .freeCount] s t))

/-! ### Frames (spec/02, spec/04) -/

/-- R81, R85, R204, R270: the first valid FEEDBACK of an island in a cycle is kept and its FAST inputs enter the receive
copy, a later copy changes nothing of it; at the deadline and at the agreement every integrated island is decided; the
other head's copies and captures are taken. -/
def Obligations.FeedbackOfACycle : Prop :=
  ∀ s : State,
    (∀ (p : Fin 48) mac f, ((s.at (s.clk.startNow + mac)).arrive p mac true f).2 = some (.slot 0) →
      cyclicLen s.cf (portIsland p) false ≤ f.length →
      Runs (.feedbackReceived p mac true f) s (fun t => (t.island (portIsland p)).fbDone = true ∧ (t.port p).copy = true ∧
        (t.port p).lost = false ∧
        ((s.island (portIsland p)).fbDone = false → (t.island (portIsland p)).fb = some f ∧
          (t.island (portIsland p)).sampleSeq = some (headerOf f).seq ∧
          t.rd (K.FAST_SAMPLE_CYCLE (portIsland p)) = s.cycle) ∧
        ((s.island (portIsland p)).fbDone = true → (t.island (portIsland p)).fb = (s.island (portIsland p)).fb ∧
          (t.island (portIsland p)).sampleSeq = (s.island (portIsland p)).sampleSeq ∧ t.rxPts = s.rxPts ∧
          t.ferry = s.ferry))) ∧
    (s.agrees = false → Runs .feedbackDeadline s (fun t =>
      (∀ n, n < 24 → s.integrated n = true → (t.island n).fbDone = true) ∧
      (∀ n, n < 24 → (s.island n).fbDone = true → (t.island n).fb = (s.island n).fb))) ∧
    (s.agrees = true → Runs .feedbackDeadline s (fun t => t.islands = s.islands ∧ t.ferry = s.ferry)) ∧
    (∀ has, Runs (.feedbackAgreement has) s (fun t =>
      ∀ n, n < 24 → s.integrated n = true → has.toNat.testBit n = false → (t.island n).fbDone = true)) ∧
    (s.dual.on = true → s.straitUp = true →
      (∀ (src : Fin 32) f n age sign q, src.val < 24 → s.validUp src true (headerOf f) 3 = true →
        cyclicLen s.cf src false ≤ f.length → Runs (.straitFeedbackReceived src f n age sign q) s (fun t =>
          (t.island src).forwarded = some f ∧ (t.island src).fbDone = true ∧
          ((s.island src).fbDone = false → (t.island src).fb = some f))) ∧
      (∀ (src : Fin 32) f n age sign q, 24 ≤ src.val → s.dhRole = 2 →
        Runs (.straitFeedbackReceived src f n age sign q) s (fun t =>
          (t.enc (src - 24)).senior = some { n := n, age := age, sign := sign, q := q } ∧ OnlyParts [.encoders] s t)))

/-- R46, R47, R112, R113, R126: a POINTS part begins or completes a transfer, and a relay payload is queued for an
integrated destination that has a slot and room, and counted otherwise. -/
def Obligations.PointsAndRelayFrames : Prop :=
  ∀ (s : State) (p : Fin 48) (mac : Nat) (f : Bytes) (pl : Place),
    ((s.at (s.clk.startNow + mac)).arrive p mac true f).2 = some pl →
    (s.island (portIsland p)).seen.contains pl.key = false →
    (Place.ty s.cf pl = 5 → 20 ≤ f.length → uAt f 12 1 < 8 → uAt f 10 1 = 0 →
      uAt f 11 1 = partCount (pointsBytes s.cf (portIsland p) false (uAt f 12 1)) →
      20 + min 1480 (pointsBytes s.cf (portIsland p) false (uAt f 12 1)) ≤ f.length →
      Runs (.pointsReceived p mac true f) s (fun t =>
        (t.island (portIsland p)).pointsIn = some { content := uAt f 12 1, ocCount := uAt f 14 2, sample := uAt f 16 4, done := 1, data := slice f 20 (min 1480 (pointsBytes s.cf (portIsland p) false (uAt f 12 1))) } ∧
        pl.key ∈ (t.island (portIsland p)).seen ∧
        (uAt f 11 1 = 1 → bit (uAt f 12 1) 0 = true → t.rd (K.MEDIUM_SAMPLE_CYCLE (portIsland p)) = uAt f 16 4) ∧
        (uAt f 11 1 = 1 → bit (uAt f 12 1) 1 = true → t.rd (K.SLOW_SAMPLE_CYCLE (portIsland p)) = uAt f 16 4) ∧
        (uAt f 11 1 = 1 → bit (uAt f 12 1) 2 = true → t.rd (K.OC_SAMPLE_CYCLE (portIsland p)) = uAt f 16 4) ∧
        (uAt f 11 1 ≠ 1 → t.rxPts = s.rxPts))) ∧
    (∀ src dest rseq data, Place.ty s.cf pl = 7 → 16 ≤ f.length →
      relayEntries (uAt f 12 1) 16 f = [(src, dest, rseq, data)] → dest ≠ 0xFF →
      (s.integrated dest = true → relaySlots s.cf dest ≠ [] → (SMap.get s.net.relays [] dest).length < 4 →
        Runs (.relayReceived p mac true f) s (fun t =>
          SMap.get t.net.relays [] dest = SMap.get s.net.relays [] dest ++
            [{ src := src, rseq := rseq, data := data, tick := s.clk.tick }] ∧
          ∀ d, d ≠ dest → SMap.get t.net.relays [] d = SMap.get s.net.relays [] d)) ∧
      (s.integrated dest = true → relaySlots s.cf dest ≠ [] → 4 ≤ (SMap.get s.net.relays [] dest).length →
        s.rdN K.RELAY_DROPS + 1 ≤ odMax K.RELAY_DROPS → Runs (.relayReceived p mac true f) s (fun t =>
          t.net.relays = s.net.relays ∧ t.rd K.RELAY_DROPS = s.rdN K.RELAY_DROPS + 1)) ∧
      (s.integrated dest = false → s.rdN K.RELAY_NO_SLOT + 1 ≤ odMax K.RELAY_NO_SLOT →
        Runs (.relayReceived p mac true f) s (fun t =>
          t.net.relays = s.net.relays ∧ t.rd K.RELAY_NO_SLOT = s.rdN K.RELAY_NO_SLOT + 1)))

/-- R49, R51, R52, R68, R98: a frame on a port that is neither open nor starting up is discarded, whatever it holds, and
so is one outside every window of an open port, which is a violation of that port's cycle.
R23, R24, R106, R150: the settling of the records of an island: at the assembly instant what was committed goes out
with APPLY_AT, at a fill instant what was committed since goes out LATE and what was not is a HOLD that repeats the
duties last sent. -/
def Obligations.GuardianAndRecords : Prop :=
  (∀ (s : State) (p : Fin 48) (mac : Nat) (ok : Bool) (f : Bytes), s.portOpen p = false → s.portStarting p = false →
    Runs (.feedbackReceived p mac ok f) s (OnlyParts [.clock] s) ∧
    Runs (.pointsReceived p mac ok f) s (OnlyParts [.clock] s) ∧
    Runs (.relayReceived p mac ok f) s (OnlyParts [.clock] s) ∧
    Runs (.mailboxReceived p mac ok f) s (OnlyParts [.clock] s) ∧
    Runs (.syncReceived p mac ok f) s (OnlyParts [] s)) ∧
  (∀ (s : State) (n : Fin 24), s.settles n = true →
    Runs (.assemblyInstant n) s (fun t => OnlyParts [.axes] s t ∧
      (∀ a, a ∈ s.axesOf n → (s.axis a).committed = true → (s.axis a).cancelled = false → (s.axis a).settled = .open_ →
        (t.axis a).settled = .onTime ∧ (t.axis a).sentU = (s.axis a).dutyU ∧ (t.axis a).sentV = (s.axis a).dutyV ∧
        (t.axis a).sentW = (s.axis a).dutyW ∧ (t.axis a).applyAt = s.axisApply a ∧ (t.axis a).interruptRun = 0) ∧
      (∀ a, a ∉ s.axesOf n ∨ (s.axis a).committed = false ∨ (s.axis a).settled ≠ .open_ → t.axis a = s.axis a)) ∧
    (∀ (j : Fin 16) a, axisAt s.cf n j = some a → axisOn s.cf a = true → (s.axis a).settled = .open_ →
      ((s.axis a).committed = true → (s.axis a).cancelled = false → Runs (.fillInstant n j) s (fun t =>
        (t.axis a).settled = .late ∧ (t.axis a).sentU = (s.axis a).lateU ∧ (t.axis a).sentV = (s.axis a).lateV ∧
        (t.axis a).sentW = (s.axis a).lateW ∧ (t.axis a).applyAt = s.ct ∧ t.rd (K.LAST_INTERRUPT_KIND a) = 2 ∧
        (t.axis a).interruptRun = (s.axis a).interruptRun + 1)) ∧
      ((s.axis a).committed = false → Runs (.fillInstant n j) s (fun t =>
        (t.axis a).settled = .hold ∧ (t.axis a).sentU = (s.axis a).sentU ∧ (t.axis a).sentV = (s.axis a).sentV ∧
        (t.axis a).sentW = (s.axis a).sentW ∧ t.rd (K.LAST_INTERRUPT_KIND a) = 1 ∧
        (t.axis a).interruptRun = (s.axis a).interruptRun + 1))))

/-- R23, R36, R41, R42, R46, R53, R112: what the head sends to an integrated island: a COMMAND frame on each open port in
slot 1, the queued relay payloads in the first RELAY slot, a part of POINTS in its slot, and a dynamic frame in a
mini-slot where it fits. -/
def Obligations.DownstreamFrames : Prop :=
  ∀ (s : State) (n : Fin 24) (late : Nat), s.integrated n = true → s.netState = N.OPERATE →
    (s.power ≠ 0 → s.sched.len + s.sched.apDown + late + wireNs (cyclicLen s.cf n true) ≤ 2 * s.sched.len →
      Runs (.commandSend n late) s (fun t => t.rd (K.APPLY_AT n) = s.applyAt n ∧ t.clk.quiet = false ∧
        (t.island n).rateAdj = none ∧ ∃ l, t.out = l ++ s.out ∧ l.length = (s.openPorts n).length ∧
          ∀ o ∈ l, ∃ p ∈ s.openPorts n, ∃ f, o = .frame p (s.sched.len + s.sched.apDown + late) f)) ∧
    (∀ k r, relaySlots s.cf n = k :: r → (s.island n).relaySent = false →
      (SMap.get s.net.relays [] n).any (fun x => Nat.blt x.tick s.clk.tick) = true →
      (let now := (SMap.get s.net.relays [] n).filter (fun x => Nat.blt x.tick s.clk.tick)
       k * s.sched.len + s.sched.apDown + late + wireNs (16 + (now.flatMap (fun x => relayEntry x.src n x.rseq x.data)).length)
        ≤ (k + 1) * s.sched.len) →
      Runs (.relaySend n late) s (fun t => (t.island n).relaySent = true ∧
        SMap.get t.net.relays [] n = (SMap.get s.net.relays [] n).filter (fun x => !Nat.blt x.tick s.clk.tick) ∧
        (∀ d, d ≠ n.val → SMap.get t.net.relays [] d = SMap.get s.net.relays [] d) ∧
        t.out.length = s.out.length + (s.openPorts n).length)) ∧
    (∀ (k : Fin 64) seq body, k.val < s.sched.slots → downRole s.cf k = 3 → slotMask s.cf k n = true →
      s.pointsNext n = some (seq, body) →
      k * s.sched.len + s.sched.apDown + late + wireNs (12 + body.length) ≤ (k + 1) * s.sched.len →
      Runs (.pointsSend n k late) s (fun t => (t.island n).pointsSentAt = some s.clk.tick ∧
        t.out.length = s.out.length + (s.openPorts n).length ∧ OnlyParts [.islands, .outputs, .counters] s t)) ∧
    (∀ (id : Fin 1024) f p st, id.val ∈ ownedIds s.cf n true → s.dynNext n id = some f → s.openPorts n = [p] →
      (s.port p).dnIdx ≤ ((ownedIds s.cf n true).filter (· < id.val)).length →
      (s.dynPort p id (wireNs (12 + f.body.length))).2 = some st →
      st + late + wireNs (12 + f.body.length) ≤ dynEnd s.cf →
      Runs (.dynamicFrameSend n id late) s (fun t => (∃ b, t.out = .frame p (st + late) b :: s.out ∧
        b.drop 12 = f.body) ∧ OnlyParts [.ports, .islands, .outputs, .counters] s t))

/-! ### Points, masters and the event wheel (spec/11) -/

/-- R286, R289 to R291: a host write to an output point within its type is accepted and published at the snapshot, one to
an input point or to a point no island owns is refused, one out of range is answered RANGE; a master's update touches that
master alone. -/
def Obligations.PointImageAndMasters : Prop :=
  ∀ s : State,
    (∀ (p : Fin 262144) v n j r, pointOwner s.cf p = some (n, j, r) → r.output = true → (pointRange r.ty).1 ≤ v →
      v ≤ (pointRange r.ty).2 → Runs (.pointWrite p v) s (fun t => SMap.find t.outPts p = some v ∧
        (∀ q, q ≠ p.val → SMap.find t.outPts q = SMap.find s.outPts q) ∧ AnsweredJust .ok s t ∧
        OnlyParts [.outPts, .outputs] s t)) ∧
    (∀ (p : Fin 262144) v n j r, pointOwner s.cf p = some (n, j, r) → r.output = true →
      v < (pointRange r.ty).1 ∨ (pointRange r.ty).2 < v →
      Runs (.pointWrite p v) s (fun t => AnsweredJust .range s t ∧ OnlyParts [.outputs] s t)) ∧
    (∀ (p : Fin 262144) v, (pointOwner s.cf p).any (fun e => e.2.2.output) = false →
      Runs (.pointWrite p v) s (fun t => AnsweredJust .refused s t ∧ OnlyParts [.outputs] s t)) ∧
    (∀ now, s.power ≠ 0 → Runs (.snapshot now) s (fun t => t.pubIn = s.rxPts ∧ t.outPts = [] ∧
      t.rd K.SNAPSHOT_CYCLE = s.cycle ∧
      (∀ q v, s.outPts = [(q, v)] → s.sentActs = [] → SMap.get t.pubOut 0 q = v ∧
        ∀ k, k ≠ q → SMap.get t.pubOut 0 k = SMap.get s.pubOut 0 k))) ∧
    (∀ m : Fin 8, Runs (.masterUpdate m) s (fun t => OnlyParts [.masters] s t ∧
      (∀ k, k ≠ m.val → t.master k = s.master k) ∧ (t.master m).pos = (s.master m).pos ∧
      (s.cfN (K.MASTER_SOURCE m) = 0 → (t.master m).nPos = 0 ∧ (t.master m).nV = 0 ∧ (t.master m).nA = 0) ∧
      (s.cfN (K.MASTER_SOURCE m) = 1 → ((t.master m).nPos, (t.master m).nV, (t.master m).nA) =
        s.setpointNext (s.cfN (K.MASTER_REF m)))))

/-- R292 to R296, R299, R302: a record that breaks a rule is refused with its code, one of KIND FREE frees its entry, a
TIME record whose earliest instant has not passed is ARMED; a plan touches ready ANGLE entries alone; an action of kind
WHEEL_EVENT at its instant raises it; and a sent action whose instant has come is DONE. -/
def Obligations.EventWheel : Prop :=
  ∀ (s : State) (e : Fin 4096),
    (∀ b : Bytes, b.length ≠ 32 → Runs (.wheelEntryWrite e b) s (fun t => AnsweredJust .length s t ∧ OnlyParts [.outputs] s t)) ∧
    (∀ b c, b.length = 32 → s.wheelRefuse e (wheelRec b) = some c → Runs (.wheelEntryWrite e b) s (fun t =>
      t.rd (K.ENTRY_STATUS e) = (6 + 256 * c : Nat) ∧ SMap.find t.wheel e = none ∧ AnsweredJust .refused s t ∧
      OnlyParts [.dictionary, .wheel, .outputs] s t ∧ OnlyEntries [K.ENTRY_STATUS e, K.ENTRIES_ARMED] s t)) ∧
    (∀ b, b.length = 32 → s.wheelRefuse e (wheelRec b) = none → (wheelRec b).kind = 0 → Runs (.wheelEntryWrite e b) s
      (fun t => t.wheelState e = 0 ∧ SMap.find t.wheel e = none ∧ AnsweredJust .ok s t)) ∧
    (∀ b, b.length = 32 → s.wheelRefuse e (wheelRec b) = none → (wheelRec b).kind = 1 →
      s.earliest (wheelRec b) ≤ (wheelRec b).time → Runs (.wheelEntryWrite e b) s (fun t => t.wheelState e = 1 ∧
        t.wheelLate e = false ∧ (t.wheelEntry e).instant = some (wheelRec b).time ∧ t.rdB (K.ENTRY e) = b ∧
        AnsweredJust .ok s t ∧ ∀ k, k ≠ e.val → t.wheelEntry k = s.wheelEntry k)) ∧
    Runs .wheelPlan s (fun t => OnlyParts [.wheel] s t ∧
      (s.wheelReady e = false → t.wheelEntry e = s.wheelEntry e) ∧
      (s.wheelReady e = true → s.wheel.Pairwise (fun x y => x.1 < y.1) → (SMap.find s.wheel e).isSome →
        (t.wheelEntry e).plan = some { tick := s.clk.tick, cross := s.crossing (s.wheelRec e) })) ∧
    (∀ edge now i, s.power ≠ 0 → (s.at now).wheelDue e = some i → (s.at now).wheelWaits e i = false →
      (s.wheelRec e).action = 7 → (s.wheelRec e).periodic = false → Runs (.wheelAction e edge now) s (fun t =>
        RaisedJust [(Ev.WHEEL_EVENT, e.val, ((s.wheelRec e).tag + 65536 * (s.wheelRec e).target) % 2 ^ 32)] s t ∧
        t.wheelState e = 3 ∧ SMap.find t.wheel e = none)) ∧
    (∀ now i, (s.wheelEntry e).instant = some i → s.wheelState e = 2 → i ≤ (s.at now).netNow →
      (s.wheelRec e).periodic = false → Runs (.entryDone e now) s (fun t => t.wheelState e = 3 ∧
        SMap.find t.wheel e = none ∧ OnlyParts [.clock, .dictionary, .wheel] s t))

/-! ### The Ferry and the skerries (spec/05) -/

/-- R131, R141 to R144, R148: a submitted task takes an entry of its group, waits at its source when the group of other
tasks is full, and fails when the reserved group is; freed entries let waiting sources in.
R129, R131, R136, R137, R146 to R149: the life of a task: dispatched to a preferred skerry, loaded, complete into the
skerry's result buffer or behind it, accepted in the order of R149, committed, or cancelled. -/
def Obligations.TaskLife : Prop :=
  (∀ s : State,
    (∀ level stream tag rel dl deps tt, s.ferry.used tt < entryLimit tt → deps.length ≤ 4 → tag < 2 ^ 32 →
      Runs (.taskSubmit level stream tag rel dl deps tt) s (fun t => OnlyParts [.ferry] s t ∧
        t.ferry.nextId = s.ferry.nextId + 1 ∧ ∃ u, t.ferry.tasks = s.ferry.tasks ++ [u] ∧ u.id = s.ferry.nextId ∧
          u.level = level.val ∧ u.stream = stream.map (·.val) ∧ u.tag = tag ∧ u.release = rel ∧ u.deadline = dl ∧
          u.deps = deps ∧ u.tt = tt ∧ u.phase = .waiting ∧ u.cancelled = false)) ∧
    (∀ level stream tag rel dl deps, entryLimit false ≤ s.ferry.used false →
      Runs (.taskSubmit level stream tag rel dl deps false) s (fun t => OnlyParts [.ferry] s t ∧
        t.ferry.tasks = s.ferry.tasks ∧ t.ferry.waitingSources.length = s.ferry.waitingSources.length + 1)) ∧
    (∀ level stream tag rel dl deps, entryLimit true ≤ s.ferry.used true →
      Runs (.taskSubmit level stream tag rel dl deps true) s (fun t => t.ferry.tasks = s.ferry.tasks ∧
        t.ferry.waitingSources = s.ferry.waitingSources ∧ OnlyEntries [K.ADMIT_FAILS, K.CANCELLED_TASKS] s t ∧
        (s.ferry.admitTick = some s.clk.tick → t.raised = s.raised) ∧
        (s.ferry.admitTick ≠ some s.clk.tick → RaisedSources [Ev.FERRY_ADMIT_FAIL] s t))) ∧
    Runs .entryFreed s (fun t => OnlyParts [.ferry] s t ∧ t.ferry.freedTt = 0 ∧ t.ferry.freedOther = 0 ∧
      let n := entryLimit false - (s.ferry.tasks.filter (fun x => x.tt == false)).length
      t.ferry.tasks = s.ferry.tasks ++ s.ferry.waitingSources.take n ∧
        t.ferry.waitingSources = s.ferry.waitingSources.drop n)) ∧
  (∀ s : State,
    (∀ now k u, (s.at now).endQuiet.nextReady = some u → ((s.at now).endQuiet.preference u k.val).isSome = true →
      (s.at now).endQuiet.preference u k.val = (s.at now).endQuiet.bestPreference u →
      Runs (.taskDispatch now [k]) s (fun t => (t.ferry.find u.id).map (·.phase) = some (.prefetched k.val) ∧
        OnlyParts [.clock, .ferry] s t)) ∧
    (∀ id u k, s.ferry.find id = some u → u.phase = .prefetched k →
      (s.ferry.tasks.any (fun x => x.id != id && x.runs k) = true → Runs (.taskLoadComplete id) s (fun t =>
        (t.ferry.find id).map (·.phase) = some (.loaded k) ∧ OnlyParts [.ferry] s t)) ∧
      (s.ferry.tasks.any (·.runs k) = false → s.ferry.tasks.all (fun x => x.phase != .loaded k) = true →
        Runs (.taskLoadComplete id) s (fun t => (t.ferry.find id).map (·.phase) = some (.executing k)))) ∧
    (∀ id cycles u k, s.ferry.find id = some u → u.phase = .executing k → u.cancelled = false →
      (s.ferry.tasks.any (fun x => x.phase == .buffered k) = false → Runs (.taskComplete id cycles) s (fun t =>
        (t.ferry.find id).map (·.phase) = some (.buffered k) ∧ OnlyParts [.ferry, .counters] s t)) ∧
      (s.ferry.tasks.any (fun x => x.phase == .buffered k) = true → Runs (.taskComplete id cycles) s (fun t =>
        (t.ferry.find id).map (·.phase) = some (.blocked k)))) ∧
    Runs .resultAccept s (fun t => OnlyParts [.ferry] s t ∧ ∃ l, t.ferry.accepted = s.ferry.accepted ++ l ∧
      l.length ≤ 4 ∧ (∀ i ∈ l, ∃ u ∈ s.ferry.tasks, u.id = i ∧ ∃ k, u.phase = .buffered k) ∧
      (∀ k r, (scanOrder s.ferry.lastSkerry).filter (fun k => s.ferry.tasks.any (fun x => x.phase == .buffered k)) = k :: r →
        l.head? = (s.ferry.tasks.find? (fun x => x.phase == .buffered k)).map (·.id))) ∧
    (∀ id r u a, s.ferry.accepted = id :: r → s.ferry.find id = some u → (∀ w ∈ s.ferry.waitingSources, w.id ≠ id) →
      u.kind = .reconcile a → u.tag = s.cycle →
      Runs .resultCommit s (fun t => t.ferry.accepted = r ∧ t.ferry.find id = none ∧ (t.axis a).committed = true ∧
        (∀ b, b ≠ a → t.axis b = s.axis b) ∧ OnlyParts [.ferry, .axes] s t)) ∧
    (∀ id u stream tag same, s.ferry.tasks.filter (fun x => x.id == id) = [u] → u.cancelled = false →
      (u.phase = .waiting → Runs (.taskCancel (some id) stream tag same) s (fun t => t.ferry.find id = none)) ∧
      (∀ k, u.phase = .executing k → Runs (.taskCancel (some id) stream tag same) s (fun t =>
        (t.ferry.find id).map (·.cancelled) = some true))))

/-- R140, R152 to R156, R158: what takes a skerry out of service and brings it back: a parity error, a task that ran too
long, the loss of a cluster's supply, FENCE, TEST_AND_RETURN and the self-test; the quiet period; and a firing of a graph
whose arcs are ready. -/
def Obligations.SkerryService : Prop :=
  ∀ s : State,
    (∀ (k : Fin 64), s.skerry k = 1 ∨ s.skerry k = 3 → Runs (.skerryParityError k false) s (fun t => t.skerry k = 2 ∧
      t.rd (K.FENCE_CAUSE k) = 1 ∧ (∀ u ∈ t.ferry.tasks, u.phase.skerry ≠ some k.val) ∧
      RaisedJust [(Ev.SKERRY_FENCED, k.val, 1)] s t ∧ t.recorder.rides.length = s.recorder.rides.length + 1)) ∧
    (∀ id u (k : Fin 64), s.ferry.find id = some u → u.phase = .executing k.val →
      (u.overruns = 0 → Runs (.taskWatchdog id) s (fun t => t.skerry k = 2 ∧ t.rd (K.FENCE_CAUSE k) = 2 ∧
        RaisedJust [(Ev.SKERRY_FENCED, k.val, 2)] s t)) ∧
      (u.overruns ≠ 0 → Runs (.taskWatchdog id) s (fun t => t.skerry k = 2 ∧ t.ferry.find id = none ∧
        RaisedSources [Ev.SKERRY_FENCED, Ev.TASK_ABORTED] s t))) ∧
    (∀ j : Fin 8, s.cluster j = 1 ∨ s.cluster j = 2 → Runs (.clusterSupplyLoss j) s (fun t => t.cluster j = 3 ∧
      (∀ i, i < 8 → t.skerry (8 * j + i) = 0 ∨ t.skerry (8 * j + i) = 2) ∧
      (∃ e ∈ t.raised, e.source = Ev.CLUSTER_LOST ∧ e.data0 = j.val))) ∧
    (∀ k : Fin 64, s.skerry k = 1 ∨ s.skerry k = 3 → Runs (.skerryFence k) s (fun t => t.skerry k = 2 ∧
      t.rd (K.FENCE_CAUSE k) = 4 ∧ AnsweredJust .ok s t ∧ RaisedJust [(Ev.SKERRY_FENCED, k.val, 4)] s t)) ∧
    (∀ k : Fin 64, s.skerry k = 0 → Runs (.skerryFence k) s (fun t => AnsweredJust .refused s t ∧ OnlyParts [.outputs] s t)) ∧
    (∀ k : Fin 64, s.skerry k = 2 → s.cluster (k.val / 8) = 1 → Runs (.testAndReturn k) s (fun t => t.skerry k = 3 ∧
      AnsweredJust .ok s t ∧ OnlyParts [.dictionary, .outputs] s t ∧ OnlyEntries [K.SKERRY_STATE k] s t)) ∧
    (∀ k : Fin 64, s.skerry k ≠ 2 → Runs (.testAndReturn k) s (fun t => AnsweredJust .refused s t ∧ OnlyParts [.outputs] s t)) ∧
    (∀ k : Fin 64, s.skerry k = 3 →
      Runs (.selfTestComplete k true) s (fun t => t.skerry k = 1 ∧ OnlyParts [.dictionary] s t ∧
        OnlyEntries [K.SKERRY_STATE k] s t) ∧
      Runs (.selfTestComplete k false) s (fun t => t.skerry k = 2 ∧ t.rd (K.FENCE_CAUSE k) = 5 ∧ OnlyParts [.dictionary] s t ∧
        OnlyEntries [K.SKERRY_STATE k, K.FENCE_CAUSE k] s t)) ∧
    Runs .reconcileQuietStart s (fun t => t.clk.quiet = true ∧ OnlyParts [.clock] s t) ∧
    (∀ (a : Fin 128) node ins outs isOut tag, (s.axis a).graph.fbTag = some tag → graphAxis s.cf a = true →
      ins.length ≤ 4 → ins.all (fun k => SMap.find (s.axis a).graph.tokens k == some tag) = true →
      outs.all (fun k => (SMap.find (s.axis a).graph.tokens k).isNone) = true → s.ferry.tasks = [] →
      s.ferry.freedTt < 1536 → Runs (.graphFiring a node [] ins outs isOut) s (fun t =>
        t.ferry.tasks.map (fun u => (u.kind, u.level, u.tag)) = [(.firing a node ⟨[], ins, outs, isOut⟩, 0, tag)] ∧
        OnlyParts [.ferry] s t))

/-! ### Axes and their loops (spec/06, spec/07) -/

namespace Sys2Proof.Machine

/-- No axis but `a` differs between the two states. -/
def OtherAxes (a : Nat) (s t : State) : Prop := ∀ b, b ≠ a → t.axis b = s.axis b

/-- The write of CONTROL_WORD leaves the bits `l` as they are. -/
def KeepsBits (s : State) (a : Nat) (w : BitVec 16) (l : List Nat) : Prop :=
  ∀ i ∈ l, bit w.toNat i = bit (s.rdN (K.CONTROL_WORD a)) i

end Sys2Proof.Machine

/-- R191 to R193: what a write of CONTROL_WORD does that changes one of its bits: ENABLE takes an axis from DISABLED to
ENABLING where no condition bars it, and is refused with the code of the first that does; ENABLE 0 stops or disables; QUICK_STOP
and its release; FAULT_RESET; and a lower CLOSE_LEVEL opens stages.
R191: a CONTROL_WORD that sets a reserved bit or names no level is out of range and changes nothing. -/
def Obligations.AxisControlWord : Prop :=
  (∀ (s : State) (a : Fin 128) (w : BitVec 16), controlOk w.toNat = true →
    (bit w.toNat 0 = true → bit (s.rdN (K.CONTROL_WORD a)) 0 = false →
      (s.axState a = 1 → s.enableBar a = none → KeepsBits s a w [1, 2] → Runs (.axisEnable a w) s (fun t =>
        t.axState a = 2 ∧ t.level a = 1 ∧ t.source a = Src.IDLE ∧ (t.axis a).pwm = true ∧ (t.axis a).brakeReq = true ∧
        t.rd (K.CONTROL_WORD a) = w.toNat ∧ AnsweredJust .ok s t ∧ t.raised = s.raised ∧ OtherAxes a s t)) ∧
      (∀ c, s.enableRefused a = some c → Runs (.axisEnable a w) s (fun t => t.rd (K.LAST_REFUSAL a) = c ∧
        AnsweredJust .refused s t ∧ OnlyParts [.dictionary, .outputs] s t ∧ OnlyEntries [K.LAST_REFUSAL a] s t))) ∧
    (bit w.toNat 0 = false → bit (s.rdN (K.CONTROL_WORD a)) 0 = true → KeepsBits s a w [1, 2] →
      (s.axState a = 3 → Runs (.axisDisable a w) s (fun t => t.axState a = 4 ∧ t.rd (K.CONTROL_WORD a) = w.toNat ∧
        AnsweredJust .ok s t ∧ OtherAxes a s t)) ∧
      (s.axState a = 2 ∨ s.axState a = 5 → Runs (.axisDisable a w) s (fun t => t.axState a = 6 ∧
        (t.axis a).brakeReq = false ∧ AnsweredJust .ok s t ∧ OtherAxes a s t))) ∧
    (bit w.toNat 1 = true → bit (s.rdN (K.CONTROL_WORD a)) 1 = false → KeepsBits s a w [0, 2] → s.axState a = 3 →
      Runs (.quickStop a w) s (fun t => t.axState a = 4 ∧ (t.axis a).quick = true ∧ AnsweredJust .ok s t ∧
        OtherAxes a s t)) ∧
    (bit w.toNat 1 = false → bit (s.rdN (K.CONTROL_WORD a)) 1 = true → bit w.toNat 0 = true → KeepsBits s a w [0, 2] →
      s.axState a = 5 → Runs (.quickStopRelease a w) s (fun t => t.axState a = 3 ∧ (t.axis a).quick = false ∧
        AnsweredJust .ok s t ∧ OtherAxes a s t)) ∧
    (bit w.toNat 2 = true → bit (s.rdN (K.CONTROL_WORD a)) 2 = false → KeepsBits s a w [0, 1] → s.axState a = 8 →
      (bit w.toNat 0 = false → (s.wr (K.CONTROL_WORD a) w.toNat).causePresent a = false →
        Runs (.faultReset a w) s (fun t => t.axState a = 1 ∧ t.rd (K.FAULT_CODE a) = 0 ∧ t.rd (K.DEG_STATE a) = 0 ∧
          AnsweredJust .ok s t ∧ OtherAxes a s t)) ∧
      (bit w.toNat 0 = true → Runs (.faultReset a w) s (fun t => t.rd (K.LAST_REFUSAL a) = 8 ∧
        AnsweredJust .refused s t ∧ OnlyParts [.dictionary, .outputs] s t ∧ OnlyEntries [K.LAST_REFUSAL a] s t))) ∧
    (field w.toNat 4 2 ≠ field (s.rdN (K.CONTROL_WORD a)) 4 2 → KeepsBits s a w [0, 1, 2] → s.axState a = 3 →
      s.level a ≤ 3 → closeLevelOf (s.axisType a) w.toNat < s.level a → Runs (.closeLevelWrite a w) s (fun t =>
        t.level a = closeLevelOf (s.axisType a) w.toNat ∧ t.axState a = 3 ∧ AnsweredJust .ok s t ∧ OtherAxes a s t))) ∧
  (∀ (s : State) (a : Fin 128) (w : BitVec 16), controlOk w.toNat = false →
    bit w.toNat 0 = true → bit (s.rdN (K.CONTROL_WORD a)) 0 = false →
    Runs (.axisEnable a w) s (fun t => AnsweredJust .range s t ∧ OnlyParts [.outputs] s t))

/-- R181, R187, R209: a coefficient is written where every stage it belongs to is open and is refused with code 1 where one
is closed; a limit is refused with code 2 where a closed stage it bounds would break R167; RA_ENABLE is written where the
current stage is open. A value outside the entry's range changes nothing. -/
def Obligations.AxisSettings : Prop :=
  ∀ (s : State) (a : Fin 128),
    (∀ obj sub v, isCoef obj.val sub.val = true →
      let k := odKey (0x4000 + obj.val + 32 * a.val) sub.val
      (valueOk s k v = false → Runs (.coefficientWrite a obj sub v) s (fun t => AnsweredJust .range s t ∧
        OnlyParts [.outputs] s t)) ∧
      (valueOk s k v = true → (s.coefStages a obj sub v).all (fun j => !s.stageClosed a j) = true →
        Runs (.coefficientWrite a obj sub v) s (fun t => t.rd k = v ∧ (t.axis a).changed = true ∧ AnsweredJust .ok s t ∧
          OnlyParts [.dictionary, .axes, .outputs] s t ∧ OnlyEntries [k] s t ∧ OtherAxes a s t)) ∧
      (valueOk s k v = true → (s.coefStages a obj sub v).all (fun j => !s.stageClosed a j) = false →
        Runs (.coefficientWrite a obj sub v) s (fun t => t.rd (K.LAST_REFUSAL a) = 1 ∧ AnsweredJust .refused s t ∧
          OnlyParts [.dictionary, .outputs] s t ∧ OnlyEntries [K.LAST_REFUSAL a] s t))) ∧
    (∀ (sub : Fin 256) (v : Int), (odRow (odKey (0x400C + 32 * a.val) sub.val)).isSome = true →
      let k := odKey (0x400C + 32 * a.val) sub.val
      valueOk s k v = true →
      ((limitStages sub).all (fun j => !s.stageClosed a j || (s.wr k v).limitsOk a j) = true →
        Runs (.limitWrite a sub v) s (fun t => t.rd k = v ∧ AnsweredJust .ok s t ∧
          OnlyParts [.dictionary, .axes, .outputs] s t ∧ OnlyEntries [k] s t ∧ OtherAxes a s t)) ∧
      ((limitStages sub).all (fun j => !s.stageClosed a j || (s.wr k v).limitsOk a j) = false →
        Runs (.limitWrite a sub v) s (fun t => t.rd (K.LAST_REFUSAL a) = 2 ∧ AnsweredJust .refused s t ∧
          OnlyParts [.dictionary, .outputs] s t ∧ OnlyEntries [K.LAST_REFUSAL a] s t))) ∧
    (∀ v, (s.stageClosed a 1 = false → Runs (.raEnableWrite a v) s (fun t => t.rd (K.RA_ENABLE a) = b2i v ∧
        AnsweredJust .ok s t ∧ OnlyParts [.dictionary, .axes, .outputs] s t ∧ OnlyEntries [K.RA_ENABLE a] s t)) ∧
      (s.stageClosed a 1 = true → Runs (.raEnableWrite a v) s (fun t => t.rd (K.LAST_REFUSAL a) = 1 ∧
        AnsweredJust .refused s t ∧ OnlyEntries [K.LAST_REFUSAL a] s t)))

/-- R192, R220, R221, R225, R228: the transitions of an axis that time brings: from ENABLING on, through an alignment where
the commutation asks for one, or to FAULT where the brake does not answer; from DISABLING to DISABLED; the end of a stop; the
convergence of the observer; the hold current; the end of degraded mode. -/
def Obligations.AxisTimedTransitions : Prop :=
  ∀ (s : State) (a : Fin 128) (now : Nat),
    (s.axState a = 2 → (s.axis a).aligning = false →
      (s.at now).elapsed (s.axis a).since (s.msOf (K.BRAKE_OPEN_TIME a)) = true →
      (s.rd (K.BRAKE_OPEN_TIME a) ≠ 0 → bit (s.axisStatus a) 5 = false → s.degraded a = false →
        Runs (.brakeOpenTimeout a now) s (fun t => t.axState a = 8 ∧ t.rd (K.FAULT_CODE a) = Ev.BRAKE_FEEDBACK ∧
          (t.axis a).pwm = false ∧ RaisedJust [(Ev.BRAKE_FEEDBACK, a.val, 0)] s t ∧ OtherAxes a s t)) ∧
      (s.rd (K.BRAKE_OPEN_TIME a) = 0 ∨ bit (s.axisStatus a) 5 = true →
        (s.cf (K.COMM_SOURCE a) = 1 → Runs (.brakeOpenTimeout a now) s (fun t => (t.axis a).aligning = true ∧
          OnlyParts [.clock, .axes] s t ∧ OtherAxes a s t)) ∧
        (s.cf (K.COMM_SOURCE a) ≠ 1 → Runs (.brakeOpenTimeout a now) s (fun t => t.axState a = 3 ∧ OtherAxes a s t)))) ∧
    (s.axState a = 2 → (s.axis a).aligning = true →
      (s.at now).elapsed (s.axis a).since (s.msOf (K.ALIGN_TIME a)) = true →
      Runs (.alignmentComplete a now) s (fun t => t.axState a = 3 ∧ (t.axis a).aligning = false ∧
        t.rd (K.COMM_OFFSET a) = wrapU 32 (-((s.polePairs a : Int) * s.rd (K.MEASURED_POS a))) ∧ OtherAxes a s t)) ∧
    (s.axState a = 6 → (s.at now).elapsed (s.axis a).since (s.msOf (K.BRAKE_CLOSE_TIME a)) = true →
      Runs (.brakeCloseTimeout a now) s (fun t => t.axState a = 1 ∧ (t.axis a).pwm = false ∧ t.level a = 0 ∧
        OtherAxes a s t)) ∧
    ((s.at now).still a = true → s.source a ≠ Src.STOP →
      (s.axState a = 4 → bit (s.rdN (K.CONTROL_WORD a)) 0 = false →
        Runs (.standstill a now) s (fun t => t.axState a = 6 ∧ OtherAxes a s t)) ∧
      (s.axState a = 4 → bit (s.rdN (K.CONTROL_WORD a)) 0 = true → (s.axis a).quick = true →
        bit (s.rdN (K.CONTROL_WORD a)) 1 = false → Runs (.standstill a now) s (fun t => t.axState a = 3)) ∧
      (s.axState a = 4 → bit (s.rdN (K.CONTROL_WORD a)) 0 = true → (s.axis a).quick = false ∨
        bit (s.rdN (K.CONTROL_WORD a)) 1 = true → Runs (.standstill a now) s (fun t => t.axState a = 5 ∧
          OnlyParts [.clock, .dictionary, .axes] s t ∧ OnlyEntries [K.AXIS_STATE a] s t ∧ OtherAxes a s t)) ∧
      (s.axState a = 7 → s.degraded a = false → Runs (.standstill a now) s (fun t => t.axState a = 8 ∧
        (t.axis a).pwm = false ∧ OtherAxes a s t))) ∧
    (s.rd (K.OBS_STATE a) = 2 → (s.at now).elapsed (s.axis a).obs.since (s.msOf (K.OBS_CONV_TIME a)) = true →
      Runs (.observerConverged a now) s (fun t => t.rd (K.OBS_STATE a) = 3 ∧ OnlyParts [.clock, .dictionary] s t ∧
        OnlyEntries [K.OBS_STATE a] s t)) ∧
    (s.axisType a = 2 → (s.mot a).holding = false →
      (s.at now).elapsed (s.mot a).setSince (s.msOf (K.HOLD_DELAY a)) = true →
      Runs (.holdDelayExpiry a now) s (fun t => (t.mot a).holding = true ∧ OnlyParts [.clock, .axes] s t ∧
        OtherAxes a s t)) ∧
    (s.degraded a = true → (s.axis a).degUntil ≤ max s.clk.now now → Runs (.degTimeExpiry a now) s (fun t =>
      t.rd (K.DEG_STATE a) = 3 ∧ t.rd (K.LAST_DEG_OUTCOME a) = 4 ∧ t.axState a = 8 ∧
      RaisedJust [(Ev.DEGRADED_END, a.val, 4)] s t ∧ OtherAxes a s t))

/-- R182, R205, R226, R275 to R278: the faults of an axis in OPERATION: the fault is latched and its reaction starts, at
once FAULT for a reaction of 0, FAULT_REACTION otherwise; lost or frozen feedback ends in FAULT, or in degraded mode where
sensorless control is available; a run of squashes is reported once. -/
def Obligations.AxisFaults : Prop :=
  ∀ (s : State) (a : Fin 128), s.axState a = 3 → s.degraded a = false →
    (s.rd (K.FE_WINDOW a) ≠ 0 → s.stageClosed a 3 = true → max 1 (s.rdN (K.FE_TIME a)) ≤ (s.axis a).feRun →
      (s.axis a).feFlag = false → Runs (.followingError a) s (fun t => t.rd (K.FAULT_CODE a) = Ev.FOLLOWING_ERROR ∧
        t.axState a = (if s.rdN (K.REACT_FOLLOWING_ERROR a) = 0 then 8 else 7) ∧
        RaisedSources [Ev.FOLLOWING_ERROR] s t ∧ OtherAxes a s t)) ∧
    (s.stalled a = true → Runs (.stall a) s (fun t => t.rd (K.FAULT_CODE a) = Ev.STALL ∧
      t.axState a = (if s.rdN (K.REACT_STALL a) = 0 then 8 else 7) ∧ RaisedSources [Ev.STALL] s t ∧ OtherAxes a s t ∧
      (s.rdN (K.STALLS a) < odMax (K.STALLS a) → t.rd (K.STALLS a) = s.rdN (K.STALLS a) + 1))) ∧
    (s.cf (K.FB_SOURCE a) ≠ 0 → max 1 (s.rdN (K.N_LOST a)) ≤ s.rdN (K.MISSING_RUN a) →
      bit (s.rdN (K.FB_STATUS a)) 3 = false →
      (s.sensorless a (s.frameValid a) = false → Runs (.feedbackLost a) s (fun t => t.axState a = 8 ∧
        t.rd (K.FAULT_CODE a) = Ev.FEEDBACK_LOST ∧ bit (t.rdN (K.FB_STATUS a)) 3 = true ∧ (t.axis a).pwm = false ∧
        RaisedJust [(Ev.FEEDBACK_LOST, a.val, 0)] s t ∧ OtherAxes a s t)) ∧
      (s.sensorless a (s.frameValid a) = true → Runs (.feedbackLost a) s (fun t => t.axState a = 7 ∧
        t.rd (K.DEG_STATE a) = 1 ∧ t.rd (K.LAST_DEG_CAUSE a) = 1 ∧
        RaisedJust [(Ev.FEEDBACK_LOST, a.val, 1), (Ev.DEGRADED_ENTER, a.val, 1)] s t ∧ OtherAxes a s t))) ∧
    (s.cf (K.FB_SOURCE a) ≠ 0 → max 1 (s.rdN (K.N_FREEZE a)) ≤ (s.axis a).freezeRun →
      bit (s.rdN (K.FB_STATUS a)) 4 = false →
      (s.sensorless a (s.frameValid a) = false → Runs (.feedbackFrozen a) s (fun t => t.axState a = 8 ∧
        t.rd (K.FAULT_CODE a) = Ev.FEEDBACK_FROZEN ∧ bit (t.rdN (K.FB_STATUS a)) 4 = true ∧
        RaisedJust [(Ev.FEEDBACK_FROZEN, a.val, 0)] s t ∧ OtherAxes a s t)) ∧
      (s.sensorless a (s.frameValid a) = true → Runs (.feedbackFrozen a) s (fun t => t.axState a = 7 ∧
        t.rd (K.DEG_STATE a) = 1 ∧ t.rd (K.LAST_DEG_CAUSE a) = 2 ∧ OtherAxes a s t))) ∧
    (s.rdN (K.SQUASH_RUN_LIMIT a) ≠ 0 → s.rdN (K.SQUASH_RUN_LIMIT a) ≤ (s.axis a).squashRun →
      (s.axis a).squashRaised = false → Runs (.raSquashRun a) s (fun t => (t.axis a).squashRaised = true ∧
        RaisedSources [Ev.RA_SQUASH_RUN] s t ∧ OnlyParts [.axes, .raised] s t ∧ OtherAxes a s t))

/-- R195, R200, R205, R208: the computations of an axis: a speculation is for the next cycle; a reconcile, and with run-ahead
off the full computation, decides the cycle once and leaves no speculation; none of them touches another axis. -/
def Obligations.AxisComputation : Prop :=
  ∀ (s : State) (a : Fin 128), s.power = 2 → graphAxis s.cf a = false →
    (s.rd (K.RA_ENABLE a) = 1 → (s.axis a).pwm = true → 1 ≤ s.level a → (s.axis a).h1.isSome = true →
      Runs (.speculate a) s (fun t => (t.axis a).spec.map (·.tick) = some (s.clk.tick + 1) ∧
        (t.axis a).words = (s.axis a).words ∧ OtherAxes a s t)) ∧
    (s.computes a = true → s.rd (K.RA_ENABLE a) = 1 → Runs (.reconcile a) s (fun t =>
      (t.axis a).ranAt = s.clk.tick + 1 ∧ (t.axis a).spec = none ∧ t.computes a = false ∧ OtherAxes a s t)) ∧
    (s.computes a = true → s.rd (K.RA_ENABLE a) = 0 → Runs (.fullCompute a) s (fun t =>
      (t.axis a).ranAt = s.clk.tick + 1 ∧ (t.axis a).spec = none ∧ t.computes a = false ∧ OtherAxes a s t))

/-- R264 to R268: the edges of an encoder channel: one line's change counts up or down by which line leads, a change of
both is an error that counts nothing and makes the position uncertain, an index latches the count and makes it certain
again, and a step counts by the level of the direction line. POLARITY bit 3 reverses a count. -/
def Obligations.EncoderEdges : Prop :=
  ∀ (s : State) (c : Fin 8) (now : Nat), s.ioClock = true →
    (∀ lineB, s.encMode c = 1 →
      Runs (.quadratureEdge c now lineB) s (fun t =>
        (t.enc c).u = (s.enc c).u + (if ((((s.enc c).a == (s.enc c).b) != lineB) != bit (s.cfN (K.POLARITY c)) 3) then 1 else -1) ∧
        (t.enc c).a = ((s.enc c).a != !lineB) ∧ (t.enc c).b = ((s.enc c).b != lineB) ∧
        (t.enc c).edge = some (max s.clk.now now) ∧
        (s.cfN (K.WRAP c) = 0 → t.rd (K.ENC_COUNT c) = wrapS 32 (t.enc c).u) ∧
        (∀ d, d ≠ c.val → t.enc d = s.enc d) ∧ OnlyParts [.clock, .encoders, .counters, .dictionary] s t)) ∧
    (s.encMode c = 1 → Runs (.quadratureError c now) s (fun t => (t.enc c).u = (s.enc c).u ∧
      (t.enc c).a = !(s.enc c).a ∧ (t.enc c).b = !(s.enc c).b ∧ t.rd (K.POS_UNCERTAIN c) = 1 ∧
      (s.rdN (K.QERR c) < odMax (K.QERR c) → t.rd (K.QERR c) = s.rdN (K.QERR c) + 1))) ∧
    (∀ illegal, s.encMode c = 1 → s.cf (K.INDEX_ENABLE c) = 1 → Runs (.indexEdge c now illegal) s (fun t =>
      t.rd (K.INDEX_LATCH c) = wrapS 64 (s.enc c).u ∧ (illegal = false → t.rd (K.POS_UNCERTAIN c) = 0) ∧
      (illegal = true → t.rd (K.POS_UNCERTAIN c) = s.rd (K.POS_UNCERTAIN c)) ∧
      (s.cfN (K.WRAP c) = 0 → t.encs = s.encs) ∧ (∀ a ∈ s.fedBy c, (t.axis a).indexNew = true) ∧
      (∀ a, a ∉ s.fedBy c → t.axis a = s.axis a))) ∧
    (∀ dirHigh, s.encMode c = 2 → Runs (.stepEdge c now dirHigh) s (fun t =>
      (t.enc c).u = (s.enc c).u + (if (dirHigh != bit (s.cfN (K.POLARITY c)) 3) then -1 else 1) ∧
      (∀ d, d ≠ c.val → t.enc d = s.enc d) ∧ OnlyParts [.clock, .encoders, .counters, .dictionary] s t))

/-! ### Motion (spec/09) -/

/-- R233, R234, R239, R240, R243: segments appended to a table, refused with their code, or moved into the window; a table
started, stopped and cleared. -/
def Obligations.MotionTables : Prop :=
  ∀ (s : State) (a : Fin 128),
    (∀ b, b.length ≠ 32 → Runs (.segAppend a b) s (fun t => AnsweredJust .length s t ∧ OnlyParts [.outputs] s t)) ∧
    (∀ b c, b.length = 32 → segReject b (s.mot a).queue.length (s.cfN (K.SEG_ALLOC a)) = some c →
      Runs (.segAppend a b) s (fun t => t.rd (K.LAST_SEG_REJECT a) = c ∧ AnsweredJust .refused s t ∧ t.axes = s.axes ∧
        RaisedJust [(Ev.SEG_REJECT, a.val, c)] s t)) ∧
    (∀ b, b.length = 32 → segReject b (s.mot a).queue.length (s.cfN (K.SEG_ALLOC a)) = none →
      Runs (.segAppend a b) s (fun t => (t.mot a).queue = (s.mot a).queue ++ [segOf b s.clk.tick] ∧
        t.rd (K.QUEUE_LEVEL a) = ((s.mot a).queue.length + 1 : Nat) ∧ AnsweredJust .ok s t ∧
        OnlyParts [.dictionary, .axes, .outputs] s t ∧ OnlyEntries [K.QUEUE_LEVEL a] s t ∧ OtherAxes a s t)) ∧
    Runs .segmentPrefetch s (fun t => OnlyParts [.axes] s t ∧ ∀ (i : Nat) g, (s.mot a).queue[i]? = some g →
      (g.usable.isSome = true → (t.mot a).queue[i]? = some g) ∧
      ((s.mot a).behind ≤ i → i < (s.mot a).behind + 16 → g.usable = none → g.at_ ≤ s.clk.tick → ((t.mot a).queue[i]?).bind (·.usable) = some (s.clk.tick + 2)) ∧
      (i < (s.mot a).behind ∨ (s.mot a).behind + 16 ≤ i → (t.mot a).queue[i]? = some g)) ∧
    (s.motionBar a 3 = none → ((s.mot a).queue.any Seg.cam = true → s.noMaster (s.camMaster a) = false) →
      s.markReleases 0 = true → (s.rdN (K.MOVE_MODE a) ≠ 1 → s.rdN (K.TABLE_COUNT a) ≤ s.cfN (K.SEG_ALLOC a)) →
      ((s.mot a).v = 0 ∨ (((s.mot a).queue.head?).map Seg.cam).getD false = false) →
      (s.rdN (K.MOVE_MODE a) ≠ 1 → s.rdN (K.TABLE_COUNT a) = 0 → Runs (.tableStart a) s (fun t =>
        t.rd (K.MOVE_STATE a) = 3 ∧ RaisedJust [(Ev.MOVE_DONE, a.val, 0)] s t ∧ AnsweredJust .ok s t ∧ t.axes = s.axes)) ∧
      (s.rdN (K.MOVE_MODE a) = 1 ∨ s.rdN (K.TABLE_COUNT a) ≠ 0 → Runs (.tableStart a) s (fun t =>
        t.rd (K.MOVE_STATE a) = 1 ∧ (t.mot a).startTick = s.clk.tick + 2 ∧ (t.mot a).queue = (s.mot a).queue ∧
        t.source a = s.source a ∧ AnsweredJust .ok s t ∧ OtherAxes a s t))) ∧
    (s.stopping a = false → s.source a = Src.TABLE → Runs (.tableStop a) s (fun t => t.source a = Src.STOP ∧ AnsweredJust .ok s t ∧
      (s.rd (K.MOVE_STATE a) = 1 ∨ s.rd (K.MOVE_STATE a) = 2 → t.rd (K.MOVE_STATE a) = 4 ∧ (t.mot a).queue = []) ∧
      (t.mot a).dec = s.rdR (K.PROFILE_DEC a) ∧ OtherAxes a s t)) ∧
    (s.stopping a = false → s.source a ≠ Src.TABLE → s.rd (K.MOVE_STATE a) = 1 → Runs (.tableStop a) s (fun t => t.rd (K.MOVE_STATE a) = 4 ∧
      (t.mot a).queue = [] ∧ t.source a = s.source a ∧ AnsweredJust .ok s t)) ∧
    (s.rd (K.MOVE_STATE a) = 1 ∨ s.rd (K.MOVE_STATE a) = 2 → Runs (.queueClear a) s (fun t => AnsweredJust .busy s t ∧
      t.rd (K.LAST_MOTION_REFUSAL a) = 6 ∧ t.axes = s.axes)) ∧
    (s.rd (K.MOVE_STATE a) ≠ 1 → s.rd (K.MOVE_STATE a) ≠ 2 → Runs (.queueClear a) s (fun t => (t.mot a).queue = [] ∧
      t.rd (K.QUEUE_LEVEL a) = 0 ∧ AnsweredJust .ok s t ∧ OnlyEntries [K.QUEUE_LEVEL a] s t ∧ OtherAxes a s t))

/-- R232, R244 to R249, R255: the moves an axis accepts when nothing bars them: to a position, relative to the set-point, a
jog, a gear, a step and direction input; and what ends them with a ramp to 0.
R232, R256: a motion command that a condition bars is refused with that condition's code and starts nothing; while the
axis is STOPPING or in HALT, the commands that end a motion are refused too. -/
def Obligations.MotionMoves : Prop :=
  (∀ (s : State) (a : Fin 128),
    (∀ (c : Instr) (target : Int),
      (c = .moveAbs a ∧ target = s.rd (K.TARGET_POS a)) ∨
        (c = .moveRel a ∧ target = wrapS 64 (s.pSet a + s.rd (K.TARGET_POS a))) →
      s.motionBar a 3 = none → s.limitBars a (wrapS 64 (target - s.pSet a)).sign = false →
      (s.rd (K.SOFT_LIMIT_ENABLE a) = 1 → s.rd (K.POS_SOFT_MIN a) ≤ target ∧ target ≤ s.rd (K.POS_SOFT_MAX a)) →
      Runs c s (fun t => t.source a = Src.RAMP ∧ (t.mot a).target = target ∧ (t.mot a).rampPos = true ∧
        (t.mot a).acc = s.rdR (K.PROFILE_ACC a) ∧ (t.mot a).dec = s.rdR (K.PROFILE_DEC a) ∧ (t.mot a).v = (s.mot a).v ∧
        t.pSet a = s.pSet a ∧ AnsweredJust .ok s t ∧ t.raised = s.raised ∧ OtherAxes a s t)) ∧
    (s.motionBar a 2 = none → s.limitBars a (s.rd (K.JOG_VEL a)).sign = false → Runs (.jog a) s (fun t =>
      t.source a = Src.JOG ∧ AnsweredJust .ok s t ∧ OtherAxes a s t ∧
      (s.rd (K.SOFT_LIMIT_ENABLE a) ≠ 1 → (t.mot a).vt = turnsOf (s.rd (K.JOG_VEL a)) ∧ (t.mot a).rampPos = false))) ∧
    (s.motionBar a 3 = none → s.noMaster (s.camMaster a) = false → Runs (.gearEngage a) s (fun t =>
      t.source a = Src.GEAR ∧ (t.mot a).begun = false ∧ AnsweredJust .ok s t ∧ OtherAxes a s t)) ∧
    (s.motionBar a 3 = none → (s.mot a).v = 0 → s.rdN (K.STEP_CHANNEL a) < 8 →
      s.cf (K.ENC_MODE (s.rdN (K.STEP_CHANNEL a))) = 2 → Runs (.stepEngage a) s (fun t => t.source a = Src.STEPDIR ∧
        t.rd (K.STEP_ORIGIN a) =
          wrapS 64 (s.pSet a - roundHalfUp (b64 (stepPos (s.stepCap a) * s.rd (K.STEP_SIZE a)))) ∧
        AnsweredJust .ok s t ∧ OtherAxes a s t)) ∧
    (∀ c : Instr, (c = .gearDisengage a ∧ s.source a = Src.GEAR) ∨ (c = .stepDisengage a ∧ s.source a = Src.STEPDIR) ∨
        (c = .haltProfile a ∧ s.source a ≠ Src.IDLE ∧ s.source a ≠ Src.STOP) → s.stopping a = false →
      Runs c s (fun t => t.source a = Src.STOP ∧ (t.mot a).vt = 0 ∧ (t.mot a).rampPos = false ∧
        (t.mot a).dec = s.rdR (K.PROFILE_DEC a) ∧ (t.mot a).v = (s.mot a).v ∧ AnsweredJust .ok s t ∧ OtherAxes a s t)) ∧
    (s.stopping a = false → s.source a = Src.IDLE → s.rd (K.MOVE_STATE a) ≠ 1 → Runs (.haltProfile a) s (fun t => AnsweredJust .ok s t ∧
      OnlyParts [.outputs] s t))) ∧
  (∀ (s : State) (a : Fin 128) (code : Nat),
    (s.motionBar a 3 = some code → ∀ c ∈ [Instr.moveAbs a, .moveRel a, .gearEngage a, .stepEngage a, .tableStart a],
      Runs c s (fun t => t.rd (K.LAST_MOTION_REFUSAL a) = code ∧ AnsweredJust .refused s t ∧
        OnlyParts [.dictionary, .outputs] s t ∧ OnlyEntries [K.LAST_MOTION_REFUSAL a] s t)) ∧
    (s.motionBar a 2 = some code → Runs (.jog a) s (fun t => t.rd (K.LAST_MOTION_REFUSAL a) = code ∧
      AnsweredJust .refused s t ∧ OnlyEntries [K.LAST_MOTION_REFUSAL a] s t)) ∧
    (s.stopping a = true → ∀ c ∈ [Instr.haltProfile a, .tableStop a, .gearDisengage a, .stepDisengage a],
      Runs c s (fun t => t.rd (K.LAST_MOTION_REFUSAL a) = 1 ∧ AnsweredJust .refused s t ∧
        OnlyParts [.dictionary, .outputs] s t ∧ OnlyEntries [K.LAST_MOTION_REFUSAL a] s t)) ∧
    (s.motionBar a 3 = some code → Runs (.homingStart a) s (fun t => t.rd (K.LAST_MOTION_REFUSAL a) = code ∧
      t.rd (K.HOMING_RESULT a) = 5 ∧ AnsweredJust .refused s t ∧ t.source a = s.source a ∧
      OnlyEntries [K.LAST_MOTION_REFUSAL a, K.HOMING_RESULT a] s t)))

/-- R245, R247: JOG_VEL and PROFILE_DEC as written, the second kept for later where the ramp in progress would then need
more way than is left.
R250 to R254: homing starts, at once done for method 9, which takes the present position as the reference; a switch
changes its debounced state after SWITCH_DEBOUNCE, and a limit in the direction of motion stops the axis. -/
def Obligations.MotionSettingsAndHoming : Prop :=
  (∀ (s : State) (a : Fin 128),
    (∀ v : Int, -(s.rd (K.VEL_MAX a)) ≤ v → v ≤ s.rd (K.VEL_MAX a) → Runs (.jogVelWrite a v) s (fun t =>
      t.rd (K.JOG_VEL a) = v ∧ AnsweredJust .ok s t ∧ OnlyEntries [K.JOG_VEL a] s t ∧
      (s.source a = Src.JOG → s.rd (K.SOFT_LIMIT_ENABLE a) ≠ 1 → (t.mot a).vt = turnsOf v) ∧
      (s.source a ≠ Src.JOG → t.axes = s.axes))) ∧
    (∀ v : Int, v < -(s.rd (K.VEL_MAX a)) ∨ s.rd (K.VEL_MAX a) < v → Runs (.jogVelWrite a v) s (fun t =>
      AnsweredJust .range s t ∧ OnlyParts [.outputs] s t)) ∧
    (∀ pat : BitVec 32, real32Finite pat.toNat = true → (OdRange.real (b32 (1 / 100)) 100000).plain pat.toNat = true →
      (s.source a = Src.STOP → (s.mot a).decKey = K.PROFILE_DEC a → Runs (.profileDecWrite a pat) s (fun t =>
        t.rd (K.PROFILE_DEC a) = pat.toNat ∧ (t.mot a).dec = real32 pat.toNat ∧ AnsweredJust .ok s t)) ∧
      (s.source a ≠ Src.RAMP → (s.source a = Src.STOP → (s.mot a).decKey ≠ K.PROFILE_DEC a) → Runs (.profileDecWrite a pat) s (fun t => t.rd (K.PROFILE_DEC a) = pat.toNat ∧
        AnsweredJust .ok s t ∧ OnlyParts [.dictionary, .outputs] s t ∧ OnlyEntries [K.PROFILE_DEC a] s t)) ∧
      (s.source a = Src.RAMP → (s.mot a).dec ≤ real32 pat.toNat → Runs (.profileDecWrite a pat) s (fun t =>
        t.rd (K.PROFILE_DEC a) = pat.toNat ∧ (t.mot a).dec = real32 pat.toNat ∧ AnsweredJust .ok s t)) ∧
      (s.source a = Src.RAMP → real32 pat.toNat < (s.mot a).dec → s.rd (K.RAMP_PHASE a) = 3 →
        absR (posErr (s.mot a).target (s.pSet a)) <
          b64 (b64 ((s.mot a).v * (s.mot a).v) / b64 (2 * real32 pat.toNat)) →
        Runs (.profileDecWrite a pat) s (fun t => t.rd (K.PROFILE_DEC a) = pat.toNat ∧ t.axes = s.axes ∧
          bit (t.rdN (K.MOTION_FLAGS a)) 0 = true ∧ RaisedSources [Ev.DECEL_KEPT] s t ∧ AnsweredJust .ok s t)))) ∧
  (∀ (s : State) (a : Fin 128),
    (s.motionBar a 3 = none → s.rdN (K.HOMING_METHOD a) = 9 → s.cfN (K.FB_CHANNEL a) < 8 → Runs (.homingStart a) s (fun t =>
      t.rd (K.HOMED a) = 1 ∧ t.rd (K.HOMING_STATE a) = 4 ∧ t.rd (K.HOMING_RESULT a) = 1 ∧ t.source a = Src.IDLE ∧
      t.rd (K.MEASURED_POS a) = wrapS 64 (s.rd (K.HOME_OFFSET a)) ∧ t.rd (K.HOME_LATCHED a) = s.rd (K.MEASURED_POS a) ∧
      RaisedSources [Ev.HOMING_DONE] s t ∧ AnsweredJust .ok s t ∧ OtherAxes a s t)) ∧
    (s.motionBar a 3 = none → s.rdN (K.HOMING_METHOD a) ≠ 0 → s.rdN (K.HOMING_METHOD a) ≠ 9 →
      (homeRef (s.rdN (K.HOMING_METHOD a))).any (fun k => (s.switchPoint a k).isNone) = false →
      Runs (.homingStart a) s (fun t => t.source a = Src.HOMING ∧ t.rd (K.HOMED a) = 0 ∧ t.rd (K.HOMING_RESULT a) = 0 ∧
        t.rd (K.HOMING_STATE a) = (match homeRef (s.rdN (K.HOMING_METHOD a)) with
          | some k => if s.switchOn a k then 2 else 1
          | none => 3) ∧
        (t.mot a).homeStart = s.pSet a ∧ AnsweredJust .ok s t ∧ t.raised = s.raised ∧ OtherAxes a s t)) ∧
    (∀ k : Fin 3, (s.switchPoint a k).isSome = true → max 1 (s.debounce a) ≤ ((s.mot a).switch k).run →
      (k = 0 → Runs (.switchDebounced a k) s (fun t => ((t.mot a).switch 0).deb = ((s.mot a).switch 0).raw ∧
        ((t.mot a).switch 0).run = 0 ∧ OnlyParts [.axes] s t ∧ OtherAxes a s t)) ∧
      (k ≠ 0 → ((s.mot a).switch k).raw = false → Runs (.switchDebounced a k) s (fun t =>
        ((t.mot a).switch k).deb = false ∧ bit (t.rdN (K.MOTION_FLAGS a)) k = false ∧
        OnlyEntries [K.MOTION_FLAGS a] s t ∧ OtherAxes a s t)) ∧
      (((s.mot a).switch k).raw = true → s.source a ≠ Src.HOMING → (k = 2 ∧ 0 < (s.mot a).v) ∨ (k = 1 ∧ (s.mot a).v < 0) →
        Runs (.switchDebounced a k) s (fun t => ((t.mot a).switch k).deb = true ∧ t.source a = Src.STOP ∧
          (t.mot a).dec = s.rdR (K.QUICK_STOP_DEC a) ∧ bit (t.rdN (K.MOTION_FLAGS a)) k = true ∧
          RaisedJust [(Ev.HW_LIMIT, a.val, k.val)] s t ∧ OtherAxes a s t))))

/-- R230, R231, R244, R249: a profile tick: an idle axis holds its set-point with speed 0; a ramp moves by its step, and
ends at its target in IDLE with MOVE_DONE; a gear follows its master. -/
def Obligations.ProfileTicks : Prop :=
  ∀ (s : State) (a : Fin 128), s.power = 2 → s.tickDue a = true → s.rd (K.MOVE_STATE a) ≠ 1 →
    (s.source a = Src.IDLE → Runs (.profileTick a) s (fun t => t.pSet a = s.pSet a ∧ (t.mot a).v = 0 ∧ (t.mot a).a = 0 ∧
      t.source a = Src.IDLE ∧ t.raised = s.raised ∧ OtherAxes a s t)) ∧
    (s.source a = Src.RAMP →
      let r := rampStep (s.mot a) (s.pSet a) (s.mot a).v (s.tickDt a)
      Runs (.profileTick a) s (fun t => t.pSet a = wrapS 64 r.1 ∧ OtherAxes a s t ∧
        (r.2.2.2 = false → (t.mot a).v = r.2.1 ∧ (t.mot a).a = r.2.2.1 ∧ t.source a = Src.RAMP ∧ t.raised = s.raised) ∧
        (r.2.2.2 = true → (t.mot a).v = 0 ∧ t.source a = Src.IDLE ∧ RaisedJust [(Ev.MOVE_DONE, a.val, 0)] s t))) ∧
    (s.source a = Src.GEAR → (s.mot a).begun = true → Runs (.profileTick a) s (fun t =>
      let m := s.master (s.camMaster a)
      t.pSet a = wrapS 64 ((s.mot a).gearOrigin + roundHalfUp (((m.pos - (s.mot a).pm0 : Int) : Rat) * s.rd (K.GEAR_NUM a) /
        s.rd (K.GEAR_DEN a))) ∧
      (t.mot a).v = (s.rd (K.GEAR_NUM a) : Rat) / s.rd (K.GEAR_DEN a) * m.v ∧ t.source a = Src.GEAR ∧ OtherAxes a s t))

/-! ### The object dictionary, configuration and storing (spec/13) -/

/-- R325, R326, R330, R493: a write of an entry that is not there, may not be written or asks for a higher role is answered
so and changes no entry; a write that passes the checks on an entry of a set changes its pending value alone. COUNTER_RESET
zeroes the counters of its object and no other entry.
R330, R331: a commit is refused with the object that bars it, as busy or as breaking a rule, and then nothing becomes
active; else every pending configuration value becomes active. A discard returns every pending value to its active one. -/
def Obligations.DictionaryAndConfiguration : Prop :=
  (∀ s : State,
    (∀ (w : Who) (index : Fin 65536) (sub : Fin 256) (value : Bytes) (now : Nat),
      (∀ a, s.entry index.val sub.val = .error a → Runs (.odWrite w index sub value now) s (fun t => AnsweredJust a s t ∧
        OnlyParts [.clock, .outputs] s t)) ∧
      (∀ r, s.entry index.val sub.val = .ok r →
        (r.access = .ro → Runs (.odWrite w index sub value now) s (fun t => AnsweredJust .readOnly s t ∧
          OnlyParts [.clock, .outputs] s t)) ∧
        (r.access ≠ .ro → s.mayWrite w r index.val sub.val = false → Runs (.odWrite w index sub value now) s (fun t =>
          AnsweredJust .role s t ∧ RaisedSources [Ev.ACCESS_DENIED] s t ∧
          OnlyParts [.clock, .raised, .freeCount, .outputs] s t)) ∧
        (r.cls = .config ∨ r.cls = .sched → ((s.at now).writeCheck w index.val sub.val value).2 = .ok →
          Runs (.odWrite w index sub value now) s (fun t => t.rd (odKey index.val sub.val) = r.ty.number value ∧
            AnsweredJust .ok s t ∧ OnlyParts [.clock, .dictionary, .outputs] s t ∧
            OnlyEntries [odKey index.val sub.val] s t)))) ∧
    (∀ (index : Fin 65536) (u : Nat) (l : List Nat), resetSub index.val = some u → resetKeys index.val u = some l →
      Runs (.counterReset index) s (fun t => (∀ k ∈ l, t.rd k = 0) ∧ AnsweredJust .ok s t ∧ OnlyEntries l s t ∧
        OnlyParts [.dictionary, .axes, .outputs] s t ∧ ∀ b, t.axis b = { s.axis b with opNs := (t.axis b).opNs }))) ∧
  (∀ s : State,
    (∀ k, s.configBusy = some k → Runs .configCommit s (fun t => t.rd K.CONFIG_RESULT = configWord 1 k ∧
      AnsweredJust .refused s t ∧ OnlyEntries [K.CONFIG_RESULT] s t ∧ OnlyParts [.dictionary, .outputs] s t)) ∧
    (∀ k, s.configBusy = none → s.configBroken s.pendingConf s.committedCt = some k → Runs .configCommit s (fun t =>
      t.rd K.CONFIG_RESULT = configWord 2 k ∧ RaisedSources [Ev.CFG_LIMIT] s t ∧ AnsweredJust .refused s t ∧
      OnlyEntries [K.CONFIG_RESULT] s t ∧ OnlyParts [.dictionary, .raised, .outputs] s t)) ∧
    (s.configBusy = none → s.configBroken s.pendingConf s.committedCt = none → DictWf s.od → Runs .configCommit s (fun t =>
      (∀ k, t.cf k = if isConfig k then s.rd k else s.cf k) ∧ t.rd K.CONFIG_RESULT = 0 ∧
      ((∀ a, a < 128 → s.rd (K.AXIS_TYPE a) = s.cf (K.AXIS_TYPE a)) → RaisedSources [Ev.CFG_COMMIT] s t ∧
        AnsweredJust .ok s t ∧ OnlyEntries [K.CONFIG_RESULT, K.CONFIG_COMMITS] s t ∧
        OnlyParts [.dictionary, .active, .raised, .axes, .outputs] s t))) ∧
    (DictWf s.od → DictWf s.act → Runs .configDiscard s (fun t => (∀ k, t.rd k = if isConfig k then s.cf k else s.rd k) ∧
      AnsweredJust .ok s t ∧ OnlyParts [.dictionary, .outputs] s t)))

/-- R332 to R337: a store or a restore begins to write an image into the slot that is not the stored one, is busy within
1 s of the last or during one, and is refused for an image too large; with a right CRC the slot becomes the stored one, else
it holds none. Shared SRAM corrects single-bit errors, and of others reports the address and marks what the word held. -/
def Obligations.StoredSettings : Prop :=
  ∀ s : State,
    (∀ now : Nat,
      (s.mram.storing.isSome = true → Runs (.store now) s (fun t => AnsweredJust .busy s t ∧ OnlyParts [.clock, .outputs] s t) ∧
        Runs (.restoreDefaults now) s (fun t => AnsweredJust .busy s t ∧ OnlyParts [.clock, .outputs] s t)) ∧
      (∀ d, s.mram.storing = none → s.mram.doneAt = some d → max s.clk.now now < d + 1000000000 →
        Runs (.store now) s (fun t => t.rd K.STORE_RESULT = 3 ∧ AnsweredJust .busy s t ∧ t.mram = s.mram ∧
          OnlyEntries [K.STORE_RESULT] s t)) ∧
      (s.mram.storing = none → (∀ d ∈ s.mram.doneAt, d + 1000000000 ≤ max s.clk.now now) →
        Runs (.store now) s (fun t => if 1048576 < Config.imageSize s.storedOd s.storedB then
            t.rd K.STORE_RESULT = 4 ∧ AnsweredJust .refused s t ∧ t.mram = s.mram ∧ OnlyEntries [K.STORE_RESULT] s t
          else t.rd K.STORE_STATE = 1 ∧
            t.mram.storing.map (fun w => (w.image.od, w.image.odB)) = some (s.storedOd, s.storedB) ∧
            (∀ p w, s.mram.pointer = some p → t.mram.storing = some w → w.slot = 1 - p.1 ∧ w.image.seq = p.2 + 1) ∧
            AnsweredJust .ok s t ∧ OnlyEntries [K.STORE_STATE] s t ∧
            OnlyParts [.clock, .dictionary, .mram, .outputs] s t) ∧
        (∀ i, s.mram.stored = some i →
          let od := i.od.filter (fun e => keptOnRestore e.1)
          let odB := i.odB.filter (fun e => keptOnRestore e.1)
          Runs (.restoreDefaults now) s (fun t => if 1048576 < Config.imageSize od odB then
              t.rd K.STORE_RESULT = 4 ∧ AnsweredJust .refused s t ∧ t.mram = s.mram ∧ OnlyEntries [K.STORE_RESULT] s t
            else t.rd K.STORE_STATE = 1 ∧ t.mram.storing.map (fun w => (w.image.od, w.image.odB)) = some (od, odB) ∧
              AnsweredJust .ok s t ∧ OnlyEntries [K.STORE_STATE] s t)))) ∧
    (∀ now w, s.mram.storing = some w →
      Runs (.storeComplete true now) s (fun t => t.mram.storing = none ∧ t.mram.slot w.slot = some w.image ∧
        t.mram.slot (1 - w.slot) = s.mram.slot (1 - w.slot) ∧ SMap.find t.mram.ring t.mram.last = some (w.slot, w.image.seq) ∧
        t.rd K.STORE_STATE = 0 ∧ t.rd K.STORE_RESULT = 1 ∧ t.rd K.ACTIVE_SLOT = w.slot ∧ RaisedSources [Ev.STORE_DONE] s t) ∧
      Runs (.storeComplete false now) s (fun t => t.mram.storing = none ∧ t.mram.slot w.slot = none ∧
        t.mram.slot (1 - w.slot) = s.mram.slot (1 - w.slot) ∧ t.mram.ring = s.mram.ring ∧ t.rd K.STORE_STATE = 0 ∧
        t.rd K.STORE_RESULT = 2 ∧ t.rd K.ACTIVE_SLOT = s.rd K.ACTIVE_SLOT ∧ RaisedSources [Ev.STORE_FAILED] s t)) ∧
    (∀ (singles : List (BitVec 24)), s.domainOn Dom.CORE = true → Runs (.sramScrub singles) s (fun t =>
      OnlyParts [.dictionary] s t ∧ OnlyEntries [K.SRAM_CORRECTED, K.LAST_ECC_ADDRESS, K.LAST_ECC_KIND] s t ∧
      (∀ a, singles.getLast? = some a → t.rd K.LAST_ECC_ADDRESS = a.toNat ∧ t.rd K.LAST_ECC_KIND = 1) ∧
      (singles ≠ [] → s.rdN K.SRAM_CORRECTED + singles.length ≤ odMax K.SRAM_CORRECTED →
        t.rd K.SRAM_CORRECTED = s.rdN K.SRAM_CORRECTED + singles.length))) ∧
    (∀ (address : BitVec 24) (now : Nat),
      (∀ port, Runs (.sramUncorrectable address (.portBuffer port) now) s (fun t => t.rd K.LAST_ECC_ADDRESS = address.toNat ∧
        t.rd K.LAST_ECC_KIND = 2 ∧ RaisedSources [Ev.SRAM_UNCORRECTABLE] s t ∧
        OnlyEntries [K.SRAM_UNCORRECTABLE, K.LAST_ECC_ADDRESS, K.LAST_ECC_KIND] s t ∧
        OnlyParts [.clock, .dictionary, .raised, .freeCount] s t)) ∧
      (∀ (p : Fin 262144) n j r, pointOwner s.cf p.val = some (n, j, r) →
        Runs (.sramUncorrectable address (.pointImage p) now) s (fun t => t.rd (K.INPUTS_VALID n) = 0 ∧
          r.cls ∈ (t.island n).memClasses ∧ RaisedSources [Ev.SRAM_UNCORRECTABLE] s t)))

/-! ### Events and the recorder (spec/13, spec/19) -/

/-- R340, R342: the next raised event is counted and leaves the list of those raised; in the channel of its source it takes
the next sequence number and is queued where a path takes it and there is place; drops are reported once there is place. -/
def Obligations.EventPlacement : Prop :=
  ∀ s : State,
    (∀ x, nextRaised s.raised = some x → x.source < 256 → s.rd K.TRIG_KIND ≠ 4 →
      (s.channelOf x.source = none → Runs .eventPlace s (fun t => t.raised = s.raised.erase x ∧ t.channels = s.channels ∧
        t.out = s.out ∧
        (s.rdN (K.SOURCE_COUNT x.source) < odMax (K.SOURCE_COUNT x.source) →
          t.rd (K.SOURCE_COUNT x.source) = s.rdN (K.SOURCE_COUNT x.source) + 1) ∧
        (s.rdN K.EVENTS_RAISED < odMax K.EVENTS_RAISED → t.rd K.EVENTS_RAISED = s.rdN K.EVENTS_RAISED + 1))) ∧
      (∀ c, s.channelOf x.source = some c → (s.channel c).dropped = 0 → Runs .eventPlace s (fun t =>
        t.raised = s.raised.erase x ∧ (t.channel c).seq = ((s.channel c).seq + 1) % 65536 ∧
        (∀ d, d ≠ c → t.channel d = s.channel d) ∧
        (s.subscribers c ≠ [] → (s.channel c).queue.length < 64 → ∃ q, (t.channel c).queue = (s.channel c).queue ++ [q] ∧
          q.inst = { source := x.source, channel := c, seq := (s.channel c).seq, cycle := x.cycle, netTime := x.netTime,
                     data0 := x.data0, data1 := x.data1 } ∧ q.toaWaiting = s.subscribers c) ∧
        (s.subscribers c = [] → s.rd (K.CHANNEL_CAN c) = 0 → (t.channel c).queue = (s.channel c).queue ∧
          (t.channel c).dropped = 0) ∧
        (s.subscribers c ≠ [] → 64 ≤ (s.channel c).queue.length → (t.channel c).queue = (s.channel c).queue ∧
          (t.channel c).dropped = 1)))) ∧
    (∀ c : Fin 16, (s.channel c).dropped ≠ 0 → (s.channel c).queue.length < 64 → s.subscribers c ≠ [] →
      Runs (.notifyOverflow c) s (fun t => (t.channel c).dropped = 0 ∧ t.raised = s.raised ∧
        (∀ d, d ≠ c.val → t.channel d = s.channel d) ∧ ∃ q, (t.channel c).queue = (s.channel c).queue ++ [q] ∧
          q.inst.source = Ev.NOTIFY_OVERFLOW ∧ q.inst.seq = (s.channel c).seq ∧
          q.inst.data0 = (s.channel c).dropped % 2 ^ 32 ∧ q.inst.data1 = c.val))

/-- R452 to R462, R486: the oldest entry of the FIFO becomes the next record, at most one per 500 µs; an OVERFLOW, a
RIDE_THROUGH and a TIME_SET entry join it; a read of RECORD_READ returns at most 125 records; CLEAR asks for the role, is
busy while one waits, and queues its record; WALL_TIME_SET is refused while the PTP slave is locked. -/
def Obligations.RecorderLife : Prop :=
  ∀ s : State,
    (∀ f, s.recorder.lossFirst = some f → s.recorder.level < 64 → Runs .recorderOverflow s (fun t =>
      t.recorder.fifo = s.recorder.fifo ++ [overflowEntry f s.recorder.lost] ∧ t.recorder.lost = [] ∧
      t.recorder.lossFirst = none ∧ OnlyParts [.dictionary, .recorder] s t ∧
      OnlyEntries [K.FIFO_LEVEL_7800, K.FIFO_PEAK] s t)) ∧
    (∀ r, s.recorder.rides.find? (fun r => Nat.ble 2 r.quiet) = some r → Runs .rideThrough s (fun t =>
      t.recorder.rides = s.recorder.rides.erase r ∧ OnlyParts [.dictionary, .recorder] s t ∧
      ∃ e, t.recorder.fifo = s.recorder.fifo ++ [e] ∧ e.code = Rc.RIDE_THROUGH ∧ e.data0 = r.source)) ∧
    (∀ now e rest, s.recorder.fifo = e :: rest →
      ((∀ w ∈ s.recorder.lastWrite, w + 500000 ≤ max s.clk.now now) → Runs (.recordWrite now) s (fun t =>
        t.recorder.fifo = rest ∧ t.rd K.NEXT_SEQ = ((s.rdN K.NEXT_SEQ + 1) % 2 ^ 48 : Nat) ∧
        SMap.find t.recorder.ring (s.rdN K.NEXT_SEQ % ringSlots) =
          some (recBytes (s.rdN K.NEXT_SEQ) (s.clearedData e (s.rdN K.NEXT_SEQ))) ∧
        t.recorder.lastWrite = some (max s.clk.now now) ∧
        (e.code = Rc.CLEARED → t.rd K.FIRST_VALID_SEQ = s.rdN K.NEXT_SEQ) ∧
        (e.code ≠ Rc.CLEARED → t.rd K.FIRST_VALID_SEQ = s.rd K.FIRST_VALID_SEQ) ∧
        OnlyParts [.clock, .dictionary, .recorder] s t)) ∧
      (∀ w, s.recorder.lastWrite = some w → max s.clk.now now < w + 500000 → Runs (.recordWrite now) s (fun t =>
        OnlyParts [.clock] s t))) ∧
    (∀ n : Fin 10, (∀ e ∈ s.recorder.ring, e.2.length = 64) → Runs (.recordRead n) s (fun t =>
      OnlyParts [.dictionary, .outputs] s t ∧ OnlyEntries [K.READ_SEQ n] s t ∧
      ∃ b, t.out = .value b :: s.out ∧ b.length % 64 = 0 ∧ b.length ≤ 8000)) ∧
    (∀ e rest, s.recorder.steps = e :: rest → Runs .timeSet s (fun t => t.recorder.steps = rest ∧
      t.recorder.fifo = s.recorder.fifo ++ [e] ∧ OnlyParts [.dictionary, .recorder] s t)) ∧
    (∀ (w : Who) (now : Nat),
      (w.role.val < 4 → Runs (.clear w now) s (fun t => AnsweredJust .role s t ∧ OnlyParts [.clock, .outputs] s t)) ∧
      (4 ≤ w.role.val → (∃ e ∈ s.recorder.fifo, e.code = Rc.CLEARED) → Runs (.clear w now) s (fun t =>
        AnsweredJust .busy s t ∧ OnlyParts [.clock, .outputs] s t)) ∧
      (4 ≤ w.role.val → (∀ e ∈ s.recorder.fifo, e.code ≠ Rc.CLEARED) → Runs (.clear w now) s (fun t =>
        AnsweredJust .ok s t ∧ t.recorder.ring = s.recorder.ring ∧
        ∃ e, t.recorder.fifo = s.recorder.fifo ++ [e] ∧ e.code = Rc.CLEARED))) ∧
    (∀ (v : BitVec 64) (now : Nat),
      (s.ptpLocked = true → Runs (.wallTimeSet v now) s (fun t => AnsweredJust .refused s t ∧
        OnlyParts [.clock, .outputs] s t ∧ t.clk.wall = s.clk.wall)) ∧
      (s.ptpLocked = false → Runs (.wallTimeSet v now) s (fun t => AnsweredJust .ok s t ∧ t.rd K.WALL_VALID = 1 ∧
        t.wallNow = v.toNat ∧ OnlyEntries [K.WALL_VALID] s t ∧
        (if (s.at now).wallNow + 1000 < v.toNat ∨ v.toNat + 1000 < (s.at now).wallNow then
          ∃ e, t.recorder.steps = s.recorder.steps ++ [e] ∧ e.code = Rc.TIME_SET
        else t.recorder = s.recorder))))

/-- R457: for the sources of groups 2 and 12, RATE is at least 1.00 record/s and BURST at least 1, by default and after every
write accepted; a write below the floor that passes the checks before it is answered with RANGE and changes nothing. -/
def Obligations.RecorderFloors : Prop :=
  ∀ (s : State) (w : Who) (c : Fin 256) (value : Bytes) (now : Nat), c.val / 16 = 2 ∨ c.val / 16 = 12 →
    100 ≤ odDefault (K.RATE c.val) ∧ 1 ≤ odDefault (K.BURST c.val) ∧
    (4 ≤ w.role.val → (s.session w.session.val).commissioning = false → (s.at now).lockBar w = false → value.length = 2 →
      (uAt value 0 2 < 100 → Runs (.odWrite w 0x7810 c value now) s (fun t => AnsweredJust .range s t ∧
        OnlyParts [.clock, .outputs] s t)) ∧
      (100 ≤ uAt value 0 2 → Runs (.odWrite w 0x7810 c value now) s (fun t => AnsweredJust .ok s t ∧
        t.rd (K.RATE c.val) = uAt value 0 2 ∧ OnlyEntries [K.RATE c.val] s t)) ∧
      (uAt value 0 2 < 1 → Runs (.odWrite w 0x7811 c value now) s (fun t => AnsweredJust .range s t ∧
        OnlyParts [.clock, .outputs] s t)) ∧
      (1 ≤ uAt value 0 2 → uAt value 0 2 ≤ 1024 → Runs (.odWrite w 0x7811 c value now) s (fun t => AnsweredJust .ok s t ∧
        t.rd (K.BURST c.val) = uAt value 0 2 ∧ OnlyEntries [K.BURST c.val] s t)))
/-! ### Filter programs (spec/12) -/

namespace Sys2Proof.Machine

/-- An invocation is in progress, has not ended, and its cycle counter leaves room for `n` cycles (R313). -/
def FpOpen (s : State) (r : FilterRun) (n : Nat) : Prop := s.fm = some r ∧ r.out = none ∧ r.m.cycles + n ≤ 2000

/-- Between the two states the invocation in progress alone changed: its machine is now one of which `q` holds, which
spent `n` cycles more and stands at the instruction the open loops name (R309, R311). -/
def FpStepsTo (r : FilterRun) (n : Nat) (q : Fm → Prop) (s t : State) : Prop :=
  ∃ m, t = { s with fm := some { r with m := m } } ∧ m.cycles = r.m.cycles + n ∧
    m.pc = (loopNext r.m.loops (r.m.pc + 1)).1 ∧ m.loops = (loopNext r.m.loops (r.m.pc + 1)).2 ∧ q m

/-- Everything of the machine but registers, accumulators, memory, buffer indices, place, cycles and flags is the same. -/
def FmFixed (m m' : Fm) : Prop := m'.base = m.base ∧ m'.len = m.len ∧ m'.stateLen = m.stateLen ∧ m'.e = m.e

/-- Register `d` takes the value `v` and no other register, nor an accumulator, memory word, index or flag, changes. -/
def FmReg (d : Nat) (v : Int) (m m' : Fm) : Prop :=
  FmFixed m m' ∧ m'.reg d = v ∧ (∀ k, k ≠ d → m'.reg k = m.reg k) ∧ m'.acc = m.acc ∧ m'.mem = m.mem ∧ m'.idx = m.idx ∧
    m'.denied = m.denied ∧ m'.sat = m.sat

/-- Register `d` takes the value `v` saturated to 24 bits, SAT is set if it clips (R308), and nothing else changes. -/
def FmRegSat (d : Nat) (v : Int) (m m' : Fm) : Prop :=
  FmFixed m m' ∧ m'.reg d = max (-2 ^ 23) (min (2 ^ 23 - 1) v) ∧ (∀ k, k ≠ d → m'.reg k = m.reg k) ∧ m'.acc = m.acc ∧
    m'.mem = m.mem ∧ m'.idx = m.idx ∧ m'.denied = m.denied ∧
    (m'.sat = true ↔ m.sat = true ∨ v < -2 ^ 23 ∨ 2 ^ 23 - 1 < v)

/-- Accumulator `k` takes the value `v` saturated to 56 bits, SAT is set if it clips (R308), the buffer indices become
`idx`, and nothing else changes. -/
def FmAccSat (k : Nat) (v : Int) (idx : List Nat) (m m' : Fm) : Prop :=
  FmFixed m m' ∧ m'.getAcc k = max (-2 ^ 55) (min (2 ^ 55 - 1) v) ∧ (∀ j, j ≠ k → m'.getAcc j = m.getAcc j) ∧
    m'.g = m.g ∧ m'.mem = m.mem ∧ m'.idx = idx ∧ m'.denied = m.denied ∧
    (m'.sat = true ↔ m.sat = true ∨ v < -2 ^ 55 ∨ 2 ^ 55 - 1 < v)

/-- Memory word `a` takes the value `v`, the buffer indices become `idx`, and nothing else changes. -/
def FmStore (a : Nat) (v : Int) (idx : List Nat) (m m' : Fm) : Prop :=
  FmFixed m m' ∧ m'.load a = v ∧ (∀ b, b ≠ a → m'.load b = m.load b) ∧ m'.g = m.g ∧ m'.acc = m.acc ∧ m'.idx = idx ∧
    m'.denied = m.denied ∧ m'.sat = m.sat

/-- Nothing of the machine changes but its place and its cycles. -/
def FmNone (m m' : Fm) : Prop :=
  FmFixed m m' ∧ m'.g = m.g ∧ m'.acc = m.acc ∧ m'.mem = m.mem ∧ m'.idx = m.idx ∧ m'.denied = m.denied ∧ m'.sat = m.sat

/-- The four indices with that of buffer `c` moved by `d`, modulo the buffer's length (R309). -/
def FmIdx (m : Fm) (c : Fin 4) (d : Int) : List Nat :=
  m.idx.set c (((m.idx.getD c 0 : Int) + d) % (m.len.getD c 0 : Int)).toNat

/-- The product of one tap with the coefficient `j` places on and the sample `j` places back (R310). -/
def FmTap (m : Fm) (d c : Fin 4) (j : Nat) : Int :=
  m.load (m.base.getD c 0 + (if j = 0 then m.idx.getD c 0 else (m.idx.getD c 0 + j) % m.len.getD c 0)) *
    m.load (m.base.getD d 0 + (if j = 0 then m.idx.getD d 0
      else (((m.idx.getD d 0 : Int) - j) % (m.len.getD d 0 : Int)).toNat))

/-- The indices after `n` taps: the coefficient's moved on and the sample's moved back, one place a tap (R310). -/
def FmTapIdx (m : Fm) (d c : Fin 4) : Nat → List Nat
  | 0 => m.idx
  | n + 1 => FmIdx { m with idx := FmIdx { m with idx := FmTapIdx m d c n } c 1 } d (-1)

end Sys2Proof.Machine

/-- R308, R309: what the instructions that give a register a value do, saturated (NEG, ADD, SUB, SHL, ABS) or not, in an
invocation in progress that the fence does not end.
R308 to R310: what the instructions that give an accumulator a value do, RND, which gives a register one from it, and
RDCNT, in an invocation in progress that the fence does not end. FTAP names two different buffers in use. -/
def Obligations.FilterRegisterAndAccumulatorInstructions : Prop :=
  (∀ (s : State) (r : FilterRun), FpOpen s r 1 →
    (∀ d v, Runs (.fpLdi d v) s (FpStepsTo r 1 (FmReg d v.toInt r.m) s)) ∧
    (∀ d x, Runs (.fpMov d x) s (FpStepsTo r 1 (FmReg d (r.m.reg x) r.m) s)) ∧
    (∀ d a b, Runs (.fpAdd d a b) s (FpStepsTo r 1 (FmRegSat d (r.m.reg a + r.m.reg b) r.m) s)) ∧
    (∀ d a b, Runs (.fpSub d a b) s (FpStepsTo r 1 (FmRegSat d (r.m.reg a - r.m.reg b) r.m) s)) ∧
    (∀ d x, Runs (.fpNeg d x) s (FpStepsTo r 1 (FmRegSat d (-r.m.reg x) r.m) s)) ∧
    (∀ d x, Runs (.fpAbs d x) s (FpStepsTo r 1 (FmRegSat d (max (r.m.reg x) (-r.m.reg x)) r.m) s)) ∧
    (∀ d x, ∀ n : Fin 32, n.val ≤ 23 →
      Runs (.fpShl d x n) s (FpStepsTo r 1 (FmRegSat d (r.m.reg x * 2 ^ n.val) r.m) s)) ∧
    (∀ d x, ∀ n : Fin 32, n.val ≤ 23 →
      Runs (.fpShr d x n) s (FpStepsTo r 1 (FmReg d (roundHalfUp ((r.m.reg x : Rat) / 2 ^ n.val)) r.m) s)) ∧
    (∀ d a b, Runs (.fpMin d a b) s (FpStepsTo r 1 (FmReg d (min (r.m.reg a) (r.m.reg b)) r.m) s)) ∧
    (∀ d a b, Runs (.fpMax d a b) s (FpStepsTo r 1 (FmReg d (max (r.m.reg a) (r.m.reg b)) r.m) s)) ∧
    (∀ d c a b, Runs (.fpSel d c a b) s
      (FpStepsTo r 1 (FmReg d (if 0 ≤ r.m.reg c then r.m.reg a else r.m.reg b) r.m) s)) ∧
    (∀ d, Runs (.fpExp d) s (FpStepsTo r 1 (FmReg d r.m.e r.m) s))) ∧
  (∀ (s : State) (r : FilterRun),
    (FpOpen s r 1 →
      (∀ k, Runs (.fpClr k) s (FpStepsTo r 1 (FmAccSat k 0 r.m.idx r.m) s)) ∧
      (∀ k a b, Runs (.fpMac k a b) s
        (FpStepsTo r 1 (FmAccSat k (r.m.getAcc k + r.m.reg a * r.m.reg b) r.m.idx r.m) s)) ∧
      (∀ k a b, Runs (.fpMsu k a b) s
        (FpStepsTo r 1 (FmAccSat k (r.m.getAcc k - r.m.reg a * r.m.reg b) r.m.idx r.m) s)) ∧
      (∀ k x, ∀ sh : BitVec 6, sh.toInt ≤ 23 → Runs (.fpAccadd k x sh) s
        (FpStepsTo r 1 (FmAccSat k (r.m.getAcc k + r.m.reg x * 2 ^ (23 - sh.toInt).toNat) r.m.idx r.m) s)) ∧
      (∀ k, ∀ d c : Fin 4, r.m.idx.length = 4 → r.m.len.getD d 0 ≠ 0 → r.m.len.getD c 0 ≠ 0 → d ≠ c →
        Runs (.fpFtap k d c false) s
          (FpStepsTo r 1 (FmAccSat k (r.m.getAcc k + FmTap r.m d c 0) (FmTapIdx r.m d c 1) r.m) s) ∧
        Runs (.fpFtap k d c true) s
          (FpStepsTo r 1 (FmAccSat k (r.m.getAcc k + (FmTap r.m d c 0 + FmTap r.m d c 1)) (FmTapIdx r.m d c 2) r.m) s))) ∧
    (FpOpen s r 2 → ∀ k d, ∀ sh : BitVec 6, sh.toInt ≤ 23 → Runs (.fpRnd k d sh) s
      (FpStepsTo r 2 (FmRegSat d (roundHalfUp ((r.m.getAcc k : Rat) / 2 ^ (23 - sh.toInt).toNat)) r.m) s)) ∧
    (FpOpen s r 4 → ∀ d, ∀ n : Fin 64,
      (∀ v, s.useCounter r.use n.val = some v →
        Runs (.fpRdcnt d n true) s (FpStepsTo r 4 (FmReg d (v / 2 ^ 24 % 2 ^ 8 : Nat) r.m) s) ∧
        Runs (.fpRdcnt d n false) s (FpStepsTo r 4 (FmReg d (Int.bmod v (2 ^ 24)) r.m) s)) ∧
      (s.useCounter r.use n.val = none → ∀ h, Runs (.fpRdcnt d n h) s
        (FpStepsTo r 4 (fun m => m.denied = true ∧ m.reg d = 0 ∧ ∀ j, j ≠ d → m.reg j = r.m.reg j) s))))

/-- R307, R309: what the instructions on data memory and on circular buffers do, in an invocation in progress that the
fence does not end; the buffer named is in use, one stored to lies outside the coefficient area.
R309, R311, R313, R314: NOP; the loops REP and REPR open or skip; END, which ends the invocation with word Y; and the
fence, which ends it as an overrun with X before an instruction that would pass 2,000 cycles. -/
def Obligations.FilterMemoryAndFlowInstructions : Prop :=
  (∀ (s : State) (r : FilterRun), r.m.idx.length = 4 →
    (FpOpen s r 1 → ∀ x : Fin 16,
      (∀ a : Fin 2048, r.m.writable a = true → Runs (.fpSt x a) s
        (FpStepsTo r 1 (FmStore a (r.m.reg x) r.m.idx r.m) s)) ∧
      ∀ c : Fin 4, r.m.len.getD c 0 ≠ 0 →
        (∀ j : Fin 1024, Runs (.fpCbidx c j) s (FpStepsTo r 1 (fun m => FmFixed r.m m ∧ m.g = r.m.g ∧ m.acc = r.m.acc ∧
          m.mem = r.m.mem ∧ m.sat = r.m.sat ∧ m.denied = r.m.denied ∧ m.idx = r.m.idx.set c (j.val % r.m.len.getD c 0)) s)) ∧
        (0x210 ≤ r.m.base.getD c 0 →
          (∀ st : BitVec 4, Runs (.fpCbst x c st) s (FpStepsTo r 1 (FmStore (r.m.base.getD c 0 + r.m.idx.getD c 0)
            (r.m.reg x) (FmIdx r.m c st.toInt) r.m) s)) ∧
          Runs (.fpCbpush x c) s (FpStepsTo r 1
            (FmStore (r.m.base.getD c 0 + (r.m.idx.getD c 0 + 1) % r.m.len.getD c 0) (r.m.reg x) (FmIdx r.m c 1) r.m) s))) ∧
    (FpOpen s r 2 → ∀ d : Fin 16,
      (∀ a : Fin 2048, a.val < 0x600 → Runs (.fpLd d a) s (FpStepsTo r 2 (FmReg d (r.m.load a) r.m) s)) ∧
      ∀ c : Fin 4, r.m.len.getD c 0 ≠ 0 → ∀ st : BitVec 4, Runs (.fpCbld d c st) s (FpStepsTo r 2 (fun m => FmFixed r.m m ∧
        m.reg d = r.m.load (r.m.base.getD c 0 + r.m.idx.getD c 0) ∧ (∀ k, k ≠ d → m.reg k = r.m.reg k) ∧ m.acc = r.m.acc ∧
        m.mem = r.m.mem ∧ m.idx = FmIdx r.m c st.toInt ∧ m.sat = r.m.sat ∧ m.denied = r.m.denied) s))) ∧
  (∀ (s : State) (r : FilterRun), s.fm = some r → r.out = none →
    (r.m.cycles + 1 ≤ 2000 →
      Runs .fpNop s (FpStepsTo r 1 (FmNone r.m) s) ∧
      (∀ len count, Runs (.fpRep len count) s (fun t => ∃ m, t = { s with fm := some { r with m := m } } ∧ FmNone r.m m ∧
        m.cycles = r.m.cycles + 1 ∧ m.pc = r.m.pc + 1 ∧
        m.loops = (r.m.pc + 1, r.m.pc + 1 + (len.val + 1), count.val) :: r.m.loops)) ∧
      (∀ len, ∀ c : Fin 16, 1 ≤ r.m.reg c → Runs (.fpRepr len c) s (fun t => ∃ m, t = { s with fm := some { r with m := m } } ∧
        FmNone r.m m ∧ m.cycles = r.m.cycles + 1 ∧ m.pc = r.m.pc + 1 ∧
        m.loops = (r.m.pc + 1, r.m.pc + 1 + (len.val + 1), (min (r.m.reg c) 4096).toNat - 1) :: r.m.loops)) ∧
      (∀ len, ∀ c : Fin 16, r.m.reg c ≤ 0 → Runs (.fpRepr len c) s (fun t => ∃ m, t = { s with fm := some { r with m := m } } ∧
        FmNone r.m m ∧ m.cycles = r.m.cycles + 1 ∧ (m.pc, m.loops) = loopNext r.m.loops (r.m.pc + 1 + (len.val + 1)))) ∧
      Runs .fpEnd s (fun t => ∃ m, t.fm = some { r with m := m, out := some (r.m.load 1) } ∧
        OnlyParts [.filterRun, .dictionary, .axes, .acqUse, .raised, .counters] s t ∧ t.fpUse r.use = r.m.kept)) ∧
    (r.m.cycles + 1 > 2000 → Runs .fpNop s (fun t => ∃ m, t.fm = some { r with m := m, out := some r.x } ∧
      OnlyParts [.filterRun, .dictionary, .axes, .acqUse, .raised, .counters] s t ∧ t.fpUse r.use = s.fpUse r.use)) ∧
    (∀ i, s.fpNext r = some i → r.m.cycles + i.cost > 2000 → Runs .cycleFence s (fun t => ∃ m, t.fm =
      some { r with m := m, out := some r.x } ∧ OnlyParts [.filterRun, .dictionary, .axes, .acqUse, .raised, .counters] s t ∧
      t.fpUse r.use = s.fpUse r.use)))

/-- R306, R307, R317, R318: a LOAD that no check fails makes the program LOADED, one that a check fails makes it REJECTED
with the check's code and index, an UNLOAD of a program without users makes it EMPTY; and an invocation starts with X and Y
at the input, registers and accumulators 0, the loaded coefficients, and the use's state and indices. -/
def Obligations.FilterProgramsLoadAndInvoke : Prop :=
  (∀ (s : State) (p : Fin 64), (s.rd (K.FP_STATE p) = 1 → s.fpUsers p = 0) →
    (loadCheck (s.rdB (K.FP_IMAGE p)) = none →
      Runs (.fpLoad p) s (fun t => t.rd (K.FP_STATE p) = 1 ∧ t.rd (K.FP_RESULT p) = 0xFFFF_0000 ∧
        t.fpImage p = some (s.rdB (K.FP_IMAGE p)) ∧
        (t.rd (K.FP_CLASS p) = 0 ↔ imgAffine (s.rdB (K.FP_IMAGE p)) = true) ∧
        t.rd (K.FP_CODE_LEN p) = imgCode (s.rdB (K.FP_IMAGE p)) ∧
        t.rd (K.FP_STATIC_CYCLES p) = imgStatic (s.rdB (K.FP_IMAGE p)) ∧
        AnsweredJust .ok s t ∧ OnlyParts [.dictionary, .fpLoaded, .outputs] s t ∧
        OnlyEntries [K.FP_STATE p, K.FP_RESULT p, K.FP_CLASS p, K.FP_CODE_LEN p, K.FP_STATIC_CYCLES p, K.FP_VARIABLE p,
          K.FP_DIGEST p, K.FP_USER_VERSION p] s t ∧ ∀ q, q ≠ p.val → t.fpImage q = s.fpImage q)) ∧
    (∀ c k, loadCheck (s.rdB (K.FP_IMAGE p)) = some (c, k) →
      Runs (.fpLoad p) s (fun t => t.rd (K.FP_STATE p) = 2 ∧ t.rd (K.FP_RESULT p) = (c + 65536 * k : Nat) ∧
        t.fpImage p = none ∧ AnsweredJust .refused s t ∧ OnlyParts [.dictionary, .fpLoaded, .outputs] s t))) ∧
  (∀ (s : State) (p : Fin 64), s.fpUsers p = 0 →
    Runs (.fpUnload p) s (fun t => t.rd (K.FP_STATE p) = 0 ∧ t.fpImage p = none ∧ AnsweredJust .ok s t ∧
      OnlyParts [.dictionary, .fpLoaded, .outputs] s t ∧ ∀ q, q ≠ p.val → t.fpImage q = s.fpImage q)) ∧
  (∀ (s : State) (p : Fin 64) (u : Nat) (x : Int) (b : Bytes), s.fpImage p = some b → imgCode b ≠ 0 →
    s.useSelects u p = true → -2 ^ 23 ≤ x → x ≤ 2 ^ 23 - 1 →
    Runs (.fpInvocation p u x) s (fun t => ∃ m, t = { s with fm := some { prog := p, use := u, x := x, m := m, out := none } } ∧
      m.load 0 = x ∧ m.load 1 = x ∧ (∀ k, m.reg k = 0) ∧ (∀ k, m.getAcc k = 0) ∧ m.pc = 0 ∧ m.cycles = 0 ∧ m.loops = [] ∧
      m.sat = false ∧ m.denied = false ∧ m.e = s.useExp u ∧ m.idx = (List.range 4).map (fun c => (s.fpUse u).idx.getD c 0)))

/-- The filter instructions stop, by name, on operands that no loaded program can hold (R317, checks 5 to 8), and on
nothing else; no other command ever stops: every one answers a next state. -/
def Obligations.OnlyIllFormedFilterOperandsStop : Prop :=
  (∀ (c : Instr) (s : State), (∃ t, exec c s = .next t) ∨
    (exec c s = .fault .illFormedFilterInstruction ∧ ∃ r, s.fm = some r ∧ r.out = none)) ∧
  (∀ (s : State) (r : FilterRun), s.fm = some r → r.out = none →
    (∀ d x, ∀ n : Fin 32, 23 < n.val → exec (.fpShl d x n) s = .fault .illFormedFilterInstruction ∧
      exec (.fpShr d x n) s = .fault .illFormedFilterInstruction) ∧
    (∀ d, ∀ a : Fin 2048, 0x600 ≤ a.val → exec (.fpLd d a) s = .fault .illFormedFilterInstruction) ∧
    (∀ x, ∀ a : Fin 2048, r.m.writable a = false → exec (.fpSt x a) s = .fault .illFormedFilterInstruction) ∧
    (∀ k, ∀ d : Fin 4, ∀ two, exec (.fpFtap k d d two) s = .fault .illFormedFilterInstruction) ∧
    (∀ c : Fin 4, r.m.len.getD c 0 = 0 →
      (∀ d st, exec (.fpCbld d c st) s = .fault .illFormedFilterInstruction ∧
        exec (.fpCbst d c st) s = .fault .illFormedFilterInstruction ∧
        exec (.fpCbpush d c) s = .fault .illFormedFilterInstruction) ∧
      (∀ j, exec (.fpCbidx c j) s = .fault .illFormedFilterInstruction) ∧
      (∀ k, ∀ d : Fin 4, ∀ two, exec (.fpFtap k d c two) s = .fault .illFormedFilterInstruction ∧
        exec (.fpFtap k c d two) s = .fault .illFormedFilterInstruction)) ∧
    (∀ c : Fin 4, r.m.base.getD c 0 < 0x210 → ∀ x st, exec (.fpCbst x c st) s = .fault .illFormedFilterInstruction ∧
      exec (.fpCbpush x c) s = .fault .illFormedFilterInstruction))

/-! ### The uplink (spec/14) -/

/-- R344, R345: a link comes up with its speed and goes down; the switch learns the source of a good frame and sends it to
the port its destination was learned on, or to every other port; addresses age out.
R346, R347: an address that no other host answers for is taken and announced, one in conflict is not; a request for the
address is answered, a conflict defended once in 10 s; an echo request is answered by way of the next hop. -/
def Obligations.UplinkLinksSwitchAndAddress : Prop :=
  (∀ s : State,
    (∀ (p : Fin 2) (speed : Fin 3) (al : Fin 8), speed ≠ 0 → s.upEnabled p = true →
      Runs (.uplinkLinkChange p speed al) s (fun t => t.rd (upLinkKey p) = speed.val ∧
        SMap.get t.uplink.alignment 0 p = al.val ∧ t.raised = s.raised ∧
        (s.ptpState = 0 → s.rd K.PTP_ENABLE = 1 → t.ptpState = 1) ∧ (s.ptpState ≠ 0 → t.ptpState = s.ptpState))) ∧
    (∀ (p : Fin 2) al, s.upLink p = true → Runs (.uplinkLinkChange p 0 al) s (fun t => t.upLink p = false ∧
      (∀ m ∈ t.uplink.masters, m.port ≠ p.val) ∧
      (s.rdN K.MASTER_PORT = p.val → s.upLink (1 - p.val) = true → t.rd K.MASTER_PORT = 0xFF ∧ t.ptpState = 1))) ∧
    (∀ (p : Fin 3) f full0 full1 now, p.val < 2 → s.upLink p = true →
      (∀ good, good = false ∨ f.length < 14 → Runs (.switchForward p f good full0 full1 now) s (fun t => t.out = s.out ∧
        t.uplink = s.uplink ∧ (s.rdN (K.RX_ERRORS p) < odMax (K.RX_ERRORS p) →
          t.rd (K.RX_ERRORS p) = s.rdN (K.RX_ERRORS p) + 1))) ∧
      (14 ≤ f.length → beAt f 6 1 % 2 = 0 →
        (∀ q, beAt f 0 1 % 2 = 0 → s.macPort (beAt f 0 6) = some q → beAt f 0 6 ≠ beAt f 6 6 → q < 2 → q ≠ p.val →
          s.upLink q = true → (if q = 0 then full0 else full1) = false →
          Runs (.switchForward p f true full0 full1 now) s (fun t => t.out = .ethernet q f :: s.out ∧
            (s.uplink.macs.length < 1024 → t.macPort (beAt f 6 6) = some p.val))) ∧
        (∀ q, beAt f 0 1 % 2 = 1 → q < 2 → q ≠ p.val → s.upLink q = true → (if q = 0 then full0 else full1) = false →
          Runs (.switchForward p f true full0 full1 now) s (fun t => Out.ethernet q f ∈ t.out)) ∧
        (beAt f 0 1 % 2 = 0 → s.macPort (beAt f 0 6) = some p.val → beAt f 0 6 ≠ beAt f 6 6 →
          Runs (.switchForward p f true full0 full1 now) s (fun t => t.out = s.out)))) ∧
    (∀ now, Runs (.macAgeOut now) s (fun t => OnlyParts [.clock, .uplink] s t ∧
      t.uplink.macs = s.uplink.macs.filter (fun e => Nat.blt (max s.clk.now now) (e.2.2 + 1000000000 * s.rdN K.MAC_AGE_TIME))))) ∧
  (∀ s : State,
    (∀ a, s.uplink.probing = some a →
      Runs (.arpProbeResult false) s (fun t => t.rd K.IP_STATE = 2 ∧ t.rd K.IP_ADDRESS = a ∧ t.uplink.address = a ∧
        t.uplink.probing = none ∧ t.out = .arp 1 a :: s.out) ∧
      (s.uplink.ipMode = 1 → Runs (.arpProbeResult true) s (fun t => t.rd K.IP_STATE = 3 ∧ t.uplink.probing = none ∧
        RaisedSources [Ev.IP_CONFLICT] s t ∧ t.out = s.out)) ∧
      (s.uplink.ipMode ≠ 1 → Runs (.arpProbeResult true) s (fun t => t.rd K.IP_STATE = 1 ∧
        ∃ b, t.uplink.probing = some b ∧ 0xA9FE0100 ≤ b ∧ b ≤ 0xA9FEFEFF ∧ t.out = .arp 0 b :: s.out))) ∧
    (∀ (sender target : BitVec 32) now, s.rd K.IP_STATE = 2 →
      (sender.toNat ≠ s.uplink.address → target.toNat = s.uplink.address → Runs (.arpRequest sender target now) s (fun t =>
        t.out = .arp 2 s.uplink.address :: s.out ∧ OnlyParts [.clock, .outputs] s t)) ∧
      (sender.toNat ≠ s.uplink.address → target.toNat ≠ s.uplink.address → Runs (.arpRequest sender target now) s
        (OnlyParts [.clock] s)) ∧
      (sender.toNat = s.uplink.address → s.uplink.ipMode ≠ 1 → s.uplink.conflictAt = none →
        Runs (.arpRequest sender target now) s (fun t => t.out = .arp 1 s.uplink.address :: s.out ∧
          t.uplink.conflictAt = some (max s.clk.now now) ∧ t.uplink.address = s.uplink.address)) ∧
      (∀ c, sender.toNat = s.uplink.address → s.uplink.ipMode ≠ 1 → s.uplink.conflictAt = some c →
        (s.at now).elapsed c 10000000000 = false → Runs (.arpRequest sender target now) s (fun t => t.rd K.IP_STATE = 1 ∧
          t.rd K.IP_ADDRESS = 0 ∧ t.uplink.address = 0 ∧ t.uplink.probing.isSome = true))) ∧
    (∀ (peer dst : BitVec 32) data, s.rd K.IP_STATE = 2 → dst.toNat = s.uplink.address →
      (∀ via, s.nextHop peer.toNat = some via → Runs (.icmpEcho peer dst data) s (fun t =>
        t.out = .echoReply peer.toNat via data :: s.out ∧ OnlyParts [.outputs] s t)) ∧
      (s.nextHop peer.toNat = none → Runs (.icmpEcho peer dst data) s (OnlyParts [] s))))

/-- R349, R351, R352: the correction of a PTP message by its residence time; the selection of a master by its second
Announce, its Syncs and the lock after 16 of them within the threshold, the measurement of the path delay, and the end of a
master that is not heard. -/
def Obligations.PtpSlave : Prop :=
  ∀ s : State,
    (∀ (p : Fin 2) (dom : Fin 256) udp tIn tOut corr bytes, s.upLink p = true → s.upLink (1 - p.val) = true →
      (s.rd K.TC_ENABLE = 1 → s.rdN K.PTP_DOMAIN = dom.val → (s.rd K.PTP_TRANSPORT == 1) = udp →
        Runs (.tcCorrection p dom udp tIn tOut corr bytes) s (fun t =>
          t.out = .ptpForward (1 - p.val) (wrapS 64 (corr + roundHalfUp (s.residence p tIn tOut * 65536))) :: s.out ∧
          s.rd K.TC_MAX_RESIDENCE ≤ t.rd K.TC_MAX_RESIDENCE)) ∧
      (s.rd K.TC_ENABLE ≠ 1 → Runs (.tcCorrection p dom udp tIn tOut corr bytes) s (fun t =>
        t.out = .ptpForward (1 - p.val) corr :: s.out))) ∧
    (∀ (p : Fin 2) (dom : Fin 256) rank (identity : BitVec 64) utc interval now, s.ptpState = 1 → s.upLink p = true →
      s.rdN K.PTP_DOMAIN = dom.val →
      (s.uplink.masters = [] → Runs (.ptpAnnounce p dom rank identity utc interval now) s (fun t => t.ptpState = 1 ∧
        t.uplink.masters.map (fun m => (m.port, m.identity, m.qualified, m.heardAt)) =
          [(p.val, identity.toNat, false, max s.clk.now now)] ∧ OnlyParts [.clock, .uplink] s t)) ∧
      (∀ m, s.uplink.masters = [m] → m.port = p.val → m.identity = identity.toNat →
        max s.clk.now now ≤ m.heardAt + 4 * interval → m.interval = interval →
        Runs (.ptpAnnounce p dom rank identity utc interval now) s (fun t => t.ptpState = 2 ∧
          t.rd K.MASTER_PORT = p.val ∧ t.rd K.MASTER_IDENTITY = identity.toNat ∧ t.rd K.UTC_OFFSET = utc ∧
          t.uplink.meanDelay = none ∧ t.raised = s.raised))) ∧
    (∀ (p : Fin 2) (dom : Fin 256) (identity : BitVec 64) t1 t2 now, s.ptpHasMaster = true → s.rdN K.MASTER_PORT = p.val →
      s.rdN K.MASTER_IDENTITY = identity.toNat → s.rdN K.PTP_DOMAIN = dom.val →
      (s.uplink.meanDelay = none → Runs (.ptpSync p dom identity t1 t2 now) s (fun t =>
        t.uplink.syncDiff = some ((t2 - s.cRx p) - t1) ∧ OnlyParts [.clock, .uplink] s t)) ∧
      (∀ d, s.uplink.meanDelay = some d → Runs (.ptpSync p dom identity t1 t2 now) s (fun t =>
        let off := (t2 - s.cRx p) - t1 - d
        t.rd K.PTP_OFFSET = satS 32 (roundHalfUp off) ∧
        (s.ptpState = 2 → absR off ≤ (s.rd K.LOCK_THRESHOLD : Rat) → s.uplink.within = 15 → t.ptpState = 3 ∧
          ∃ e ∈ t.raised, e.source = Ev.PTP_LOCKED) ∧
        (s.ptpState = 2 → (s.rd K.LOCK_THRESHOLD : Rat) < absR off → t.ptpState = 2 ∧ t.uplink.within = 0) ∧
        (s.ptpState = 3 → 4 * (s.rd K.LOCK_THRESHOLD : Rat) < absR off → s.uplink.beyond = 3 → t.ptpState = 2 ∧
          ∃ e ∈ t.raised, e.source = Ev.PTP_UNLOCKED)))) ∧
    (∀ t3 now, s.ptpHasMaster = true → s.uplink.delayAt = none → s.upLink (s.rdN K.MASTER_PORT) = true →
      Runs (.ptpDelayReqSend t3 now) s (fun t => t.out = .delayReq (s.rdN K.MASTER_PORT) :: s.out ∧
        t.uplink.delayT3 = some (t3 + s.cTx (s.rdN K.MASTER_PORT)) ∧ t.uplink.delayAt = some (max s.clk.now now) ∧
        OnlyParts [.clock, .uplink, .outputs] s t)) ∧
    (∀ (p : Fin 2) (identity : BitVec 64) t4 diff t3, s.ptpHasMaster = true → s.rdN K.MASTER_PORT = p.val →
      s.rdN K.MASTER_IDENTITY = identity.toNat → s.uplink.syncDiff = some diff → s.uplink.delayT3 = some t3 →
      Runs (.ptpDelayResp p identity t4) s (fun t => t.uplink.meanDelay = some ((diff + (t4 - t3)) / 2) ∧
        t.uplink.delayT3 = none ∧ t.rd K.MEAN_PATH_DELAY = satU 32 (roundHalfUp ((diff + (t4 - t3)) / 2)) ∧
        OnlyParts [.dictionary, .uplink] s t ∧ OnlyEntries [K.MEAN_PATH_DELAY] s t)) ∧
    (∀ now, s.ptpHasMaster = true →
      s.uplink.masters.all (fun m => !(s.isMaster m && Nat.blt (max s.clk.now now) (m.heardAt + 3 * m.interval))) = true →
      Runs (.announceReceiptTimeout now) s (fun t => t.ptpState = 1 ∧ t.rd K.MASTER_PORT = 0xFF ∧
        RaisedSources (if s.ptpState = 3 then [Ev.PTP_UNLOCKED] else []) s t))

/-! ### Sessions, Tarri Object Access, notifications (spec/14) -/

namespace Sys2Proof.Machine

/-- The request of a session was answered with a status and a body: it is in progress no more and its response is the last
one kept. -/
def Replied (n : Nat) (r : Req) (status : Nat) (body : Bytes → Prop) (t : State) : Prop :=
  (t.session n).holds r.tag r.gen = false ∧ ∃ b, body b ∧ (t.session n).kept.getLast? =
    some { tag := r.tag, gen := r.gen, service := r.service, status := status, body := b }

end Sys2Proof.Machine

/-- R353, R354, R493, R494: a handshake takes the lowest free session, or its peer is alerted when SESSIONS_MAX are in use;
it completes with the role the certificate gives, or fails; an idle session and one that is closed end.
R355 to R359, R364: a part that does not pass its checks is counted and dropped; a request of one part is taken in its
turn; an incomplete message is dropped after 1 s; an abort answers a request that waits; notifications go to a
subscribed session once enough or old enough. -/
def Obligations.SessionsAndMessages : Prop :=
  (∀ s : State,
    (∀ (peer : BitVec 32) now, s.boot.state = .running →
      (s.rdN K.SESSIONS_MAX ≤ (List.range 8).countP (fun n => s.sessionState n != 0) → Runs (.clientHello peer now) s (fun t =>
        t.out = .alert peer.toNat :: s.out ∧ RaisedSources [Ev.SESSION_REFUSED] s t ∧ t.sessions = s.sessions)) ∧
      (∀ n, (List.range 8).countP (fun n => s.sessionState n != 0) < s.rdN K.SESSIONS_MAX → s.freeSession = some n →
        Runs (.clientHello peer now) s (fun t => t.sessionState n = 1 ∧ t.rd (K.SESSION_PEER n) = peer.toNat ∧
          t.rd (K.SESSION_ROLE n) = 0 ∧ t.session n = { since := max s.clk.now now, lastAt := max s.clk.now now } ∧
          t.raised = s.raised ∧ ∀ m, m < 8 → m ≠ n → t.sessionState m = s.sessionState m))) ∧
    (∀ (n : Fin 8) chain selfS nb na ou now, s.sessionState n = 1 →
      (s.at now).elapsed (s.session n).since 10000000000 = false →
      (∀ r, s.certRole (s.rdN (K.SESSION_PEER n)) chain selfS ou = some r → s.rd K.WALL_VALID ≠ 1 →
        Runs (.handshakeComplete n chain selfS nb na ou now) s (fun t => t.sessionState n = 2 ∧
          t.rd (K.SESSION_ROLE n) = r ∧ RaisedSources [Ev.SESSION_OPEN] s t ∧
          OnlyEntries [K.SESSION_STATE n, K.SESSION_ROLE n, K.READ_SEQ n, K.TIME_UNCHECKED] s t)) ∧
      (s.certRole (s.rdN (K.SESSION_PEER n)) chain selfS ou = none →
        Runs (.handshakeComplete n chain selfS nb na ou now) s (fun t => t.sessionState n = 0 ∧ t.session n = {} ∧
          RaisedSources [Ev.SESSION_REFUSED] s t))) ∧
    (∀ (n : Fin 8) now, s.sessionState n = 1 → Runs (.handshakeTimeout n true now) s (fun t => t.sessionState n = 0 ∧
      t.session n = {} ∧ RaisedSources [Ev.SESSION_REFUSED] s t)) ∧
    (∀ (n : Fin 8) now, 2 ≤ s.sessionState n →
      (s.at now).elapsed (s.session n).lastAt (1000000000 * s.rdN K.SESSION_IDLE) = true →
      Runs (.sessionIdleTimeout n now) s (fun t => t.sessionState n = 0 ∧ t.session n = {} ∧
        RaisedSources [Ev.SESSION_CLOSED] s t ∧ bit (t.rdN K.SESSION_COUNTER_GRANT) n = false)) ∧
    (∀ (n : Fin 8) write, 2 ≤ s.sessionState n → Runs (.sessionClose n write) s (fun t => t.sessionState n = 0 ∧
      t.session n = {} ∧ RaisedSources [Ev.SESSION_CLOSED] s t ∧ (write = true → AnsweredJust .ok s t) ∧
      (write = false → t.out = s.out) ∧ ∀ m, m < 8 → m ≠ n.val → t.sessionState m = s.sessionState m ∧
        (t.session m) = (s.session m)))) ∧
  (∀ s : State,
    (∀ (n : Fin 8) b now,
      Runs (.toaPartReceived n false b now) s (fun t => OnlyParts [.clock, .dictionary] s t ∧
        OnlyEntries [K.BAD_MESSAGES] s t) ∧
      (2 ≤ s.sessionState n → partOk b = false → Runs (.toaPartReceived n true b now) s (fun t =>
        (t.session n).lastAt = max s.clk.now now ∧ (t.session n).reqs = (s.session n).reqs ∧
        OnlyEntries [K.BAD_MESSAGES] s t)) ∧
      (s.sessionState n = 3 → partOk b = true → uAt b 1 1 = 1 → uAt b 7 1 = 1 → uAt b 10 1 = 0 → uAt b 4 1 ≤ 8 →
        (s.session n).parts = [] → (s.session n).holds (uAt b 2 1) (uAt b 3 1) = false →
        SMap.get (s.session n).completed none (uAt b 2 1) ≠ some (uAt b 3 1) → (s.session n).reqs.length < 16 →
        Runs (.toaPartReceived n true b now) s (fun t => (t.session n).reqs = (s.session n).reqs ++
          [{ tag := uAt b 2 1, gen := uAt b 3 1, service := uAt b 4 1, pw := none, body := slice b 12 (uAt b 8 2), wait := .turn }] ∧
          t.out = s.out ∧ t.raised = s.raised))) ∧
    (∀ (n : Fin 10) now p, (s.session n).parts = [p] → p.at_ + 1000000000 ≤ max s.clk.now now →
      Runs (.toaReassemblyTimeout n now) s (fun t => (t.session n).parts = [] ∧ OnlyEntries [K.BAD_MESSAGES] s t ∧
        (s.rdN K.BAD_MESSAGES < odMax K.BAD_MESSAGES → t.rd K.BAD_MESSAGES = s.rdN K.BAD_MESSAGES + 1))) ∧
    (∀ (n : Fin 10) (tag : Fin 256) (gen : Fin 4) r, 2 ≤ s.sessionState n →
      (s.session n).reqs.find? (fun r => r.tag == tag.val && r.gen == gen.val) = some r →
      (r.wait = .turn → Runs (.abort n tag gen) s (fun t => Replied n r Toa.ABORTED (· = []) t)) ∧
      (∀ k mt mg, r.wait = .island k mt mg → Runs (.abort n tag gen) s (fun t => Replied n r Toa.ABORTED (· = []) t ∧
        (mt, mg) ∈ (t.island k).aborts)) ∧
      (r.wait = .power → Runs (.abort n tag gen) s (OnlyParts [] s))) ∧
    (∀ (n : Fin 8) now q l, s.waitingFor n = q :: l → s.sessionState n = 3 →
      50 ≤ (q :: l).length ∨ (s.at now).elapsed q.placedAt (1000 * s.rdN K.NOTIFY_HOLDOFF) = true →
      Runs (.notificationSend n now) s (fun t => t.free = s.free + 1 ∧ t.out =
        .toa n [toaPart 3 0 0 (Config.freeValue s.free % 256) 0 0 1 0 (((q :: l).take 50).flatMap (fun q => q.inst.bytes))] :: s.out)))

/-- R326 to R328, R354, R361, R362, R364: the services of a request that is due in a session: HELLO makes the session ACTIVE, PING is
answered, SUBSCRIBE replaces the channels, READ, READ_MULTI and READ_POINTS answer with values, WRITE and WRITE_GROUP with the
result of their writes; a malformed request is answered BAD_MESSAGE and does nothing else. -/
def Obligations.ToaServices : Prop :=
  ∀ (s : State) (n : Fin 10) (now : Nat) (r : Req),
    (s.due n 0 = some r →
      (r.body = [] → Runs (.hello n now) s (fun t => Replied n r 0 (fun _ => True) t ∧
        (s.sessionState n = 2 → n.val < 8 → t.sessionState n = 3))) ∧
      (r.body ≠ [] → Runs (.hello n now) s (fun t => Replied n r Toa.BAD_MESSAGE (· = []) t ∧
        t.sessionState n = s.sessionState n))) ∧
    (s.due n 8 = some r → Runs (.ping n now) s (fun t =>
      Replied n r (if r.body = [] then 0 else Toa.BAD_MESSAGE) (· = []) t ∧ t.od = s.od)) ∧
    (s.due n 6 = some r →
      (n.val < 8 → r.body.length = 2 → Runs (.subscribe n now) s (fun t => Replied n r 0 (· = []) t ∧
        (t.session n).channels = uAt r.body 0 2)) ∧
      (8 ≤ n.val ∨ r.body.length ≠ 2 → Runs (.subscribe n now) s (fun t => Replied n r Toa.BAD_MESSAGE (· = []) t ∧
        (t.session n).channels = (s.session n).channels))) ∧
    (s.due n 1 = some r →
      (r.body.length ≠ 4 → Runs (.read n now) s (fun t => Replied n r Toa.BAD_MESSAGE (· = []) t)) ∧
      (r.body.length = 4 → Runs (.read n now) s (fun t =>
        let x := (s.at now).read (s.who n none) (uAt r.body 0 2) (uAt r.body 2 1)
        Replied n r x.2.1.code (· = slice r.body 0 3 ++ [0] ++ x.2.2) t))) ∧
    (s.due n 3 = some r →
      let c := uAt r.body 0 1
      (c = 0 ∨ 64 < c ∨ r.body.length ≠ 4 + 4 * c → Runs (.readMulti n now) s (fun t =>
        Replied n r Toa.BAD_MESSAGE (· = []) t)) ∧
      (1 ≤ c → c ≤ 64 → r.body.length = 4 + 4 * c → Runs (.readMulti n now) s (fun t =>
        let x := (s.at now).readItems (s.who n none) (List.range c) (r.body.drop 4)
        (4 + x.2.length ≤ 8192 → Replied n r 0 (· = leBytes 1 c ++ [0, 0, 0] ++ x.2) t)))) ∧
    (s.due n 5 = some r →
      let c := uAt r.body 4 2
      (r.body.length ≠ 8 ∨ c = 0 ∨ 4096 < c → Runs (.readPoints n now) s (fun t => Replied n r Toa.BAD_MESSAGE (· = []) t)) ∧
      (r.body.length = 8 → 1 ≤ c → c ≤ 4096 →
        (s.pointValues (uAt r.body 0 4) c = none → Runs (.readPoints n now) s (fun t =>
          Replied n r Ans.range.code (· = []) t)) ∧
        (∀ v, s.pointValues (uAt r.body 0 4) c = some v → 12 + v.length ≤ 8192 → Runs (.readPoints n now) s (fun t =>
          Replied n r 0 (· = slice r.body 0 6 ++ [0, 0] ++ leInt 4 (s.rd K.SNAPSHOT_CYCLE) ++ v) t)))) ∧
    (s.due n 2 = some r →
      (r.body.length < 4 → Runs (.write n now) s (fun t => Replied n r Toa.BAD_MESSAGE (· = []) t)) ∧
      (4 ≤ r.body.length →
        let x := (s.at now).write (s.who n r.pw) (uAt r.body 0 2) (uAt r.body 2 1) (r.body.drop 4)
        (∀ a, x.2 = some a → (x.1.session n).holds r.tag r.gen = true → Runs (.write n now) s (fun t =>
          Replied n r a.code (· = slice r.body 0 3 ++ [0]) t ∧ t.od = x.1.od)) ∧
        (x.2 = none → Runs (.write n now) s (fun t => t.od = x.1.od ∧ t.out = x.1.out)))) ∧
    (s.due n 4 = some r →
      let c := uAt r.body 0 1
      (c = 0 ∨ 64 < c ∨ groupItems c (r.body.drop 4) = none → Runs (.writeGroup n now) s (fun t =>
        Replied n r Toa.BAD_MESSAGE (· = []) t)) ∧
      (∀ items, 1 ≤ c → c ≤ 64 → groupItems c (r.body.drop 4) = some items →
        let k := (s.at now).groupCheck (s.who n r.pw) items
        let y := k.1.groupApply k.1 (s.who n r.pw) 0 false items
        k.2.all (· == .ok) = true → y.2 = (none, false) → (y.1.session n).holds r.tag r.gen = true →
        Runs (.writeGroup n now) s (fun t => Replied n r 0 (· = leBytes 1 c ++ [0, 0, 0] ++ List.replicate c 0) t ∧
          t.od = y.1.od)))

/-- R123 to R125, R363: a request to an island opens a mailbox transaction, unless the island is not integrated; its
response completes the request; a transaction without one fails after MBX_TIMEOUT cycles. -/
def Obligations.IslandMailboxes : Prop :=
  ∀ s : State,
    (∀ (n : Fin 10) now r, s.due n 7 = some r →
      let k := uAt r.body 0 1
      let svc := uAt r.body 1 1
      r.body.length = 8 + (if svc = 2 then uAt r.body 6 2 else 0) → uAt r.body 6 2 ≤ 4096 → 1 ≤ svc → svc ≤ 4 →
      (if svc = 2 then 2 else 1) ≤ s.sessionRole n →
      (24 ≤ k ∨ s.integrated k = false → Runs (.island n now) s (fun t =>
        Replied n r Toa.ISLAND_UNAVAILABLE (· = []) t ∧ t.islands = s.islands)) ∧
      (k < 24 → s.integrated k = true → s.cf K.MINISLOTS ≠ 0 → (s.island k).mbx.length < s.rdN (K.MBX_OUTSTANDING k) →
        Runs (.island n now) s (fun t => (t.session n).holds r.tag r.gen = true ∧
          (t.island k).mbx.map (fun m => (m.service, m.index, m.sub, m.session, m.toaTag, m.toaGen, m.sent)) =
            (s.island k).mbx.map (fun m => (m.service, m.index, m.sub, m.session, m.toaTag, m.toaGen, m.sent)) ++
            [(svc, uAt r.body 2 2, uAt r.body 4 1, n.val, r.tag, r.gen, 0)] ∧
          (∀ j, j ≠ k → t.island j = s.island j) ∧ OnlyParts [.clock, .islands, .sessions] s t))) ∧
    (∀ (p : Fin 48) mac f pl x, ((s.at (s.clk.startNow + mac)).arrive p mac true f).2 = some pl → Place.ty s.cf pl = 6 →
      26 + uAt f 20 2 ≤ f.length →
      (((s.at (s.clk.startNow + mac)).arrive p mac true f).1.island (portIsland p)).seen.contains pl.key = false →
      (((s.at (s.clk.startNow + mac)).arrive p mac true f).1.island (portIsland p)).mbx = [x] →
      (mailOf f).kind = 1 → (mailOf f).tag = x.tag → (mailOf f).gen = x.gen → x.resp = [] → (mailOf f).offset = 0 →
      (mailOf f).len ≤ 192 → bit (headerOf f).flags 6 = false → Runs (.mailboxReceived p mac true f) s (fun t =>
        (t.island (portIsland p)).mbx = [] ∧ (t.session x.session).holds x.toaTag x.toaGen = false)) ∧
    (∀ k : Fin 24, Runs (.mbxTimeout k) s (fun t =>
      (t.island k).mbx = (s.island k).mbx.filter (fun x =>
        (s.island k).mbx.all (fun y => y.tag != x.tag || Nat.blt s.clk.tick y.deadline)) ∧
      (∀ x ∈ (s.island k).mbx, x.deadline ≤ s.clk.tick → (x.tag, x.gen) ∈ (t.island k).aborts ∧
        (t.session x.session).holds x.toaTag x.toaGen = false) ∧
      (∀ j, j ≠ k.val → t.island j = s.island j)))

/-! ### CAN (spec/15) -/

namespace Sys2Proof.Machine

/-- No CAN controller but `c` differs between the two states. -/
def OtherCan (c : Nat) (s t : State) : Prop := ∀ d, d ≠ c → t.can d = s.can d

end Sys2Proof.Machine

/-- R369, R378, R379: the states of a CAN controller: off, integrating, active, passive, bus off and recovering; and its
error counters.
R367, R370, R372 to R374, R379, R381: a frame received goes where its filter says, into the receive FIFO, of which it is
lost when full, or the high-priority buffer; the first frame of a TOA part is kept apart, for 100 ms; a read takes the oldest
frame. -/
def Obligations.CanStatesAndReception : Prop :=
  (∀ (s : State) (c : Fin 2),
    (s.canState c ≠ 0 → Runs (.canModeWrite c 0) s (fun t => t.canState c = 0 ∧ t.rd (K.CAN_MODE c) = 0 ∧
      (t.can c).fifo = [] ∧ (t.can c).hp = none ∧ AnsweredJust .ok s t ∧ OtherCan c s t)) ∧
    (∀ v : Fin 3, v ≠ 0 → s.canFault c ≠ 0 → Runs (.canModeWrite c v) s (fun t =>
      t.rd (K.CONFIG_FAULT c) = s.canFault c ∧ AnsweredJust .refused s t ∧ OnlyEntries [K.CONFIG_FAULT c] s t ∧
      OnlyParts [.dictionary, .outputs] s t)) ∧
    (∀ v : Fin 3, v ≠ 0 → s.canFault c = 0 → s.canState c = 0 → s.domainOn Dom.IFC = true → Runs (.canModeWrite c v) s (fun t => t.canState c = 1 ∧
      t.rd (K.CAN_MODE c) = v.val ∧ t.rd (K.TEC c) = 0 ∧ t.rd (K.REC c) = 0 ∧ AnsweredJust .ok s t ∧
      OnlyParts [.dictionary, .outputs] s t)) ∧
    (s.canState c = 1 → s.ioClock = true → Runs (.canIntegrated c) s (fun t => t.canState c = 2 ∧
      OnlyParts [.dictionary] s t ∧ OnlyEntries [K.CAN_STATE c] s t)) ∧
    (s.canState c = 5 → s.ioClock = true → Runs (.canRecoveryComplete c) s (fun t => t.canState c = 2 ∧
      t.rd (K.TEC c) = 0 ∧ t.rd (K.REC c) = 0 ∧ OnlyParts [.dictionary] s t ∧
      OnlyEntries [K.CAN_STATE c, K.TEC c, K.REC c] s t)) ∧
    (s.rd (K.BUSOFF_AUTO c) = 0 → s.canState c = 4 → Runs (.recover c) s (fun t => t.canState c = 5 ∧
      AnsweredJust .ok s t ∧ OnlyEntries [K.CAN_STATE c] s t)) ∧
    (∀ (error : Fin 7) (tu ru : Fin 256), s.canOn c = true → error ≠ 0 → (s.can c).active = none →
      Runs (.canError c error tu ru) s (fun t => t.rd (K.LAST_ERROR c) = error.val ∧
        t.rdN (K.TEC c) = min 256 (s.rdN (K.TEC c) + tu.val) ∧ t.rdN (K.REC c) = min 255 (s.rdN (K.REC c) + ru.val) ∧
        (255 < s.rdN (K.TEC c) + tu.val → RaisedSources [Ev.CAN_BUS_OFF] s t ∧
          t.canState c = if s.rd (K.BUSOFF_AUTO c) = 1 then 5 else 4) ∧
        (s.canState c = 2 → s.rdN (K.TEC c) + tu.val ≤ 255 → 127 < s.rdN (K.TEC c) + tu.val ∨ 127 < s.rdN (K.REC c) + ru.val →
          t.canState c = 3) ∧
        (s.canState c = 2 → s.rdN (K.TEC c) + tu.val ≤ 127 → s.rdN (K.REC c) + ru.val ≤ 127 → t.canState c = 2) ∧
        OtherCan c s t))) ∧
  (∀ (s : State) (c : Fin 2),
    (∀ (id : BitVec 32) (dlc : Fin 16) rtr esi data time wire now, s.canOn c = true →
      (bit id.toNat 30 = true → rtr = false ∧ s.rd (K.FD_ENABLE c) ≠ 0) →
      let n := if rtr then 0 else dlcBytes (bit id.toNat 30) dlc.val
      let f : CanFrame := { id := id.toNat, dlc := dlc.val, flags := b2n rtr + 2 * b2n esi, time := time * 25 / 2, data := padTo n data }
      let toa := s.rd (K.TOA_ENABLE c) = 1 ∧ sameId id.toNat (s.rdN (K.TOA_RX_ID c)) = true
      (¬ toa → Runs (.canFrameReceived c id dlc rtr esi data time wire now) s (fun t =>
        (s.canRoute c id.toNat = 1 → (s.can c).fifo.length < 32 → (t.can c).fifo = (s.can c).fifo ++ [f]) ∧
        (s.canRoute c id.toNat = 1 → 32 ≤ (s.can c).fifo.length → (t.can c).fifo = (s.can c).fifo ∧ (t.can c).lossy = true) ∧
        (s.canRoute c id.toNat = 2 → (t.can c).hp = some f ∧ (t.can c).fifo = (s.can c).fifo) ∧
        (s.canRoute c id.toNat ≠ 1 → s.canRoute c id.toNat ≠ 2 → (t.can c).hp = (s.can c).hp ∧
          (t.can c).fifo = (s.can c).fifo) ∧
        (s.rdN (K.REC c) ≤ 127 → t.rdN (K.REC c) = s.rdN (K.REC c) - 1) ∧
        (127 < s.rdN (K.REC c) → 119 ≤ t.rdN (K.REC c) ∧ t.rdN (K.REC c) ≤ 127) ∧ OtherCan c s t)) ∧
      (toa → bit (uAt f.data 0 1) 7 = true → bit (uAt f.data 0 1) 6 = false → uAt f.data 0 1 % 64 = 0 →
        Runs (.canFrameReceived c id dlc rtr esi data time wire now) s (fun t =>
          (t.can c).rx = some (f.data.drop 1, 1, max s.clk.now now) ∧ (t.can c).fifo = (s.can c).fifo ∧ OtherCan c s t))) ∧
    (∀ b i start now, (s.can c).rx = some (b, i, start) → (s.at now).elapsed start 100000000 = true →
      Runs (.canToaPartTimeout c now) s (fun t => (t.can c).rx = none ∧ OnlyEntries [K.TOA_PART_ERRORS c] s t ∧
        OnlyParts [.clock, .cans, .dictionary] s t ∧ OtherCan c s t)) ∧
    (∀ f r, (s.can c).fifo = f :: r → Runs (.rxFifoRead c) s (fun t => t.out = .value f.entry :: s.out ∧
      (t.can c).fifo = r ∧ t.rd (K.RX_FIFO_LEVEL c) = r.length ∧ OtherCan c s t)) ∧
    ((s.can c).fifo = [] → Runs (.rxFifoRead c) s (fun t => t.out = .value [] :: s.out ∧ OnlyParts [.outputs] s t)) ∧
    (∀ f, (s.can c).hp = some f → Runs (.hpRead c) s (fun t => t.out = .value f.entry :: s.out ∧
      (t.can c).hp = none ∧ t.rd (K.HP_FULL c) = 0 ∧ OtherCan c s t)) ∧
    ((s.can c).hp = none → Runs (.hpRead c) s (fun t => t.out = .value [] :: s.out ∧ OnlyParts [.outputs] s t)))

/-- R374 to R378: a frame to send waits in buffer 2 until the bus allows its start, or is cancelled; a frame that loses
arbitration waits again, is cancelled or fails, by what was asked; one that ends without error is TRANSMITTED. -/
def Obligations.CanTransmission : Prop :=
  ∀ (s : State) (c : Fin 2),
    (∀ b, b.length ≠ 80 → Runs (.txFrame c b) s (fun t => AnsweredJust .length s t ∧ OnlyParts [.outputs] s t)) ∧
    (∀ b, b.length = 80 → s.txEntryOk c b = false → Runs (.txFrame c b) s (fun t => AnsweredJust .range s t ∧
      OnlyParts [.outputs] s t)) ∧
    (∀ b, b.length = 80 → s.txEntryOk c b = true → s.rd (K.CAN_MODE c) = 1 → (s.can c).buf2.busy = false →
      Runs (.txFrame c b) s (fun t => (t.can c).buf2.state = .pending ∧
        ((t.can c).buf2.frame).map (fun f => (f.id, f.dlc, f.flags)) = some (uAt b 0 4, uAt b 4 1, uAt b 5 1) ∧
        (t.can c).buf0 = (s.can c).buf0 ∧ (t.can c).buf1 = (s.can c).buf1 ∧ AnsweredJust .ok s t ∧ OtherCan c s t)) ∧
    (∀ b, b.length = 80 → s.txEntryOk c b = true → s.rd (K.CAN_MODE c) ≠ 1 ∨ (s.can c).buf2.busy = true →
      Runs (.txFrame c b) s (fun t => AnsweredJust .refused s t ∧ OnlyParts [.outputs] s t)) ∧
    ((s.can c).buf2.state = .pending → Runs (.txCancel c) s (fun t => (t.can c).buf2.state = .cancelled ∧
      AnsweredJust .ok s t ∧ OtherCan c s t)) ∧
    ((s.can c).buf2.state = .active → Runs (.txCancel c) s (fun t => (t.can c).buf2.state = .active ∧
      (t.can c).buf2.cancel = true ∧ AnsweredJust .ok s t ∧ OnlyParts [.cans, .outputs] s t)) ∧
    (s.canOn c = true → s.rd (K.CAN_MODE c) = 1 → (s.can c).active = none →
      (∀ b f, (s.canLoad c).canPick c = some (b, f) → Runs (.canTxSelect c) s (fun t =>
        ((t.can c).buf b).state = .active ∧ ((t.can c).buf b).frame = some f ∧ t.out = .canFrame c f :: s.out ∧
        OtherCan c s t)) ∧
      ((s.canLoad c).canPick c = none → Runs (.canTxSelect c) s (fun t => t.out = s.out ∧ OtherCan c s t))) ∧
    (∀ b, (s.can c).active = some b →
      (((s.can c).buf b).cancel = true → Runs (.canArbitrationLost c) s (fun t =>
        ((t.can c).buf b).state = .cancelled ∧ t.raised = s.raised ∧ OtherCan c s t)) ∧
      (((s.can c).buf b).cancel = false → s.rd (K.ONE_SHOT c b) = 1 → Runs (.canArbitrationLost c) s (fun t =>
        ((t.can c).buf b).state = .failed ∧ ((t.can c).buf b).cause = 7 ∧ RaisedSources [Ev.CAN_TX_FAILED] s t ∧
        OtherCan c s t)) ∧
      (((s.can c).buf b).cancel = false → s.rd (K.ONE_SHOT c b) ≠ 1 → Runs (.canArbitrationLost c) s (fun t =>
        ((t.can c).buf b).state = .pending ∧ ((t.can c).buf b).frame = ((s.can c).buf b).frame ∧
        t.raised = s.raised ∧ OtherCan c s t)) ∧
      (∀ f wire delay, ((s.can c).buf b).frame = some f → Runs (.canTxComplete c wire delay) s (fun t =>
        ((t.can c).buf b).state = .transmitted ∧ t.rdN (K.TEC c) = s.rdN (K.TEC c) - 1 ∧
        (s.rdN (K.TX_FRAMES_6A02 c) < odMax (K.TX_FRAMES_6A02 c) →
          t.rd (K.TX_FRAMES_6A02 c) = s.rdN (K.TX_FRAMES_6A02 c) + 1) ∧ OtherCan c s t)))

/-! ### Analogue inputs (spec/16) -/

namespace Sys2Proof.Machine

/-- No modulator but `m` differs between the two states. -/
def OtherModulators (m : Nat) (s t : State) : Prop := ∀ j, j ≠ m → t.modl j = s.modl j

/-- The instant at which the step of a modulator ends: its outputs so far after the start (R388). -/
def stepEnd (x : Modulator) : Rat := x.start + (x.k : Rat) * (x.dec : Rat) * modClock

end Sys2Proof.Machine

/-- R390 to R393: a start begins a scan of the enabled channels, lowest first, and completes at once with none; it is an
overrun in a scan and is held in an injected conversion; with START_SOURCE PTP_TIME and no lock it is skipped. A request injects a
conversion in IDLE, goes before a scan that started in the same modulator clock, and is dropped otherwise. A completed step goes on with the next channel, or the scan is over.
R385, R386, R388, R398: an output's code is the rounded quotient, saturated to 24 bits, in the channel's readouts once
the filter has settled; it enters the result FIFO as FIFO_MODE says unless that is full; and a read takes the oldest entry. -/
def Obligations.AdcScansAndResults : Prop :=
  (∀ (s : State) (m : Fin 2) (edge : Fin 15626) (now : Nat), s.domainOn Dom.IFC = true → s.ioClock = true →
    (s.rdN (K.START_SOURCE m) = 1 → s.modState m = 0 →
      (∀ c r, s.adcEnabled m = c :: r → Runs (.adcScanStart m edge now) s (fun t => t.modState m = 1 ∧
        (t.modl m).chan = c ∧ (t.modl m).rest = r ∧ (t.modl m).start = (s.at now).edgeAt edge ∧ (t.modl m).k = 0 ∧
        (t.modl m).valid = 0 ∧ OnlyParts [.clock, .dictionary, .modulators] s t ∧ OnlyEntries [K.MOD_STATE m] s t ∧
        OtherModulators m s t)) ∧
      (s.adcEnabled m = [] → Runs (.adcScanStart m edge now) s (fun t => t.modState m = 0 ∧
        t.rd (K.SCAN_COUNT m) = wrapU 32 (s.rd (K.SCAN_COUNT m) + 1) ∧ t.mods = s.mods))) ∧
    (s.rdN (K.START_SOURCE m) = 3 → s.power ≠ 0 → ((s.at now).netNow - s.rdN (K.CYCLE_DELAY m)) % s.ct = 0 →
      ((s.at now).netNow - s.rdN (K.CYCLE_DELAY m)) / s.ct % s.rdN (K.CYCLE_DIVIDER m) = 0 →
      (s.modState m = 1 → Runs (.adcScanStart m edge now) s (fun t => RaisedJust [(Ev.ADC_SCAN_OVERRUN, m.val, 0)] s t ∧
        (s.rdN (K.SCAN_OVERRUNS m) < odMax (K.SCAN_OVERRUNS m) →
          t.rd (K.SCAN_OVERRUNS m) = s.rdN (K.SCAN_OVERRUNS m) + 1) ∧ t.mods = s.mods ∧
        OnlyEntries [K.SCAN_OVERRUNS m] s t)) ∧
      (s.modState m = 2 → Runs (.adcScanStart m edge now) s (fun t => (t.modl m).held = true ∧
        OnlyParts [.clock, .modulators] s t ∧ OtherModulators m s t))) ∧
    (s.rdN (K.START_SOURCE m) = 5 → s.rd K.EXT_STATE ≠ 1 → (s.modl m).unlocked = false →
      Runs (.adcScanStart m edge now) s (fun t => (t.modl m).unlocked = true ∧ t.modState m = s.modState m ∧
        RaisedSources [Ev.ADC_PTP_UNLOCKED] s t ∧ OnlyEntries [K.PTP_STARTS_SKIPPED m] s t)) ∧
    (s.rd (K.INJ_SOURCE m) = 2 →
      (s.modState m = 0 → Runs (.injRequest m edge now) s (fun t => t.modState m = 2 ∧
        (t.modl m).chan = s.rdN (K.INJ_CHANNEL m) ∧ (t.modl m).samples = 1 ∧ AnsweredJust .ok s t ∧
        OtherModulators m s t)) ∧
      (s.modState m ≠ 0 → s.scanJustBegan m ((s.at now).edgeAt edge) = false →
        Runs (.injRequest m edge now) s (fun t => t.mods = s.mods ∧
        RaisedSources [Ev.ADC_INJ_DROPPED] s t ∧ AnsweredJust .ok s t ∧ OnlyEntries [K.INJ_DROPPED m] s t)) ∧
      (s.scanJustBegan m ((s.at now).edgeAt edge) = true → Runs (.injRequest m edge now) s (fun t => t.modState m = 2 ∧
        (t.modl m).chan = s.rdN (K.INJ_CHANNEL m) ∧ (t.modl m).held = true ∧ AnsweredJust .ok s t ∧
        OtherModulators m s t))) ∧
    (s.modState m = 1 → (s.modl m).samples ≤ (s.modl m).valid →
      (∀ c r, (s.modl m).rest = c :: r → Runs (.adcStepComplete m) s (fun t => (t.modl m).chan = c ∧
        (t.modl m).rest = r ∧ (t.modl m).start = stepEnd (s.modl m) ∧ (t.modl m).valid = 0 ∧
        OnlyParts [.modulators] s t ∧ OtherModulators m s t)) ∧
      ((s.modl m).rest = [] → s.rd (K.START_SOURCE m) ≠ 1 → Runs (.adcStepComplete m) s (fun t => t.modState m = 0 ∧
        t.rd (K.SCAN_COUNT m) = wrapU 32 (s.rd (K.SCAN_COUNT m) + 1) ∧ OnlyParts [.dictionary] s t ∧
        OnlyEntries [K.SCAN_COUNT m, K.MOD_STATE m] s t))) ∧
    (s.modState m = 2 → (s.modl m).samples ≤ (s.modl m).valid → (s.modl m).held = false →
      Runs (.adcStepComplete m) s (fun t => t.modState m = 0 ∧ OnlyEntries [K.MOD_STATE m] s t ∧ OtherModulators m s t))) ∧
  (∀ (s : State) (m : Fin 2),
    (∀ (vdiff vref : Rat) (now : Nat), s.modState m ≠ 0 → (s.modl m).valid < (s.modl m).samples → s.ioClock = true →
      (s.modl m).ext = false →
      Runs (.adcOutput m vdiff vref false now) s (fun t => (t.modl m).k = (s.modl m).k + 1 ∧
        ((s.modl m).order ≤ (s.modl m).k + 1 → (t.modl m).valid = (s.modl m).valid + 1 ∧
          t.rd (K.CH_CODE (s.modl m).chan) =
            satS 24 (roundHalfUp (vdiff * ((2 ^ (s.modl m).gain : Nat) : Rat) / (5 / 4) * 8388608))) ∧
        ((s.modl m).k + 1 < (s.modl m).order → (t.modl m).valid = (s.modl m).valid ∧
          t.rd (K.CH_CODE (s.modl m).chan) = s.rd (K.CH_CODE (s.modl m).chan)) ∧
        (s.rdN (K.FIFO_MODE m) = 0 → (t.modl m).fifo = (s.modl m).fifo) ∧
        (s.rdN (K.FIFO_MODE m) = 2 → (s.modl m).fifo.length < 256 → ∃ e, (t.modl m).fifo = (s.modl m).fifo ++ [e] ∧
          e.length = 16 ∧ t.rd (K.FIFO_LEVEL_6C00 m) = ((s.modl m).fifo.length + 1 : Nat)) ∧
        (s.rdN (K.FIFO_MODE m) = 2 → 256 ≤ (s.modl m).fifo.length → (t.modl m).fifo = (s.modl m).fifo ∧
          (t.modl m).lossy = true) ∧ OtherModulators m s t)) ∧
    (∀ e r, (s.modl m).fifo = e :: r → Runs (.resultRead m) s (fun t => t.out = .value e :: s.out ∧
      (t.modl m).fifo = r ∧ t.rd (K.FIFO_LEVEL_6C00 m) = r.length ∧
      OnlyParts [.modulators, .dictionary, .outputs] s t ∧ OnlyEntries [K.FIFO_LEVEL_6C00 m] s t ∧
      OtherModulators m s t)) ∧
    ((s.modl m).fifo = [] → Runs (.resultRead m) s (fun t => t.out = .value [] :: s.out ∧ OnlyParts [.outputs] s t)))

/-! ### Acquisition, trace and counters (spec/17) -/

/-- R407 to R409, R412: the life of an acquisition: started, refused with its code, armed once PRETRIGGER rows are stored,
triggered by force, by a pin or by the time limit, done when its rows are kept and processed, or ended.
R145, R406: a release of ACQ_PROCESS processes every row stored, in its place: none is lost and none changes its cycle
or its instant. -/
def Obligations.AcquisitionLife : Prop :=
  (∀ s : State,
    (s.domainOn Dom.ACQ = true → s.acqRefuse = 0 → Runs .acqStart s (fun t =>
      t.rd K.ACQ_STATE = (if s.rdN K.PRETRIGGER = 0 then 2 else 1) ∧ t.acq.rows = [] ∧ t.acq.startCycle = s.clk.cyc + 1 ∧
      t.rd K.TRIG_TIME = 0 ∧ t.rd K.EARLY_TRIGGERS = 0 ∧ AnsweredJust .ok s t ∧
      OnlyParts [.dictionary, .acquisition, .acqUse, .outputs] s t)) ∧
    (s.domainOn Dom.ACQ = true → s.acqRefuse ≠ 0 → Runs .acqStart s (fun t => t.rd K.ACQ_REFUSAL = s.acqRefuse ∧
      AnsweredJust .refused s t ∧ OnlyParts [.dictionary, .outputs] s t ∧ OnlyEntries [K.ACQ_REFUSAL] s t)) ∧
    (s.acqBusy = true → Runs .acqStop s (fun t => t.rd K.ACQ_STATE = 5 ∧ AnsweredJust .ok s t ∧
      OnlyEntries [K.ACQ_STATE] s t ∧ OnlyParts [.dictionary, .outputs] s t)) ∧
    (s.rd K.ACQ_STATE = 1 → Runs .forceTrigger s (fun t => t.rd K.ACQ_STATE = 1 ∧ AnsweredJust .ok s t ∧
      OnlyEntries [K.EARLY_TRIGGERS] s t ∧ (s.rdN K.EARLY_TRIGGERS < odMax K.EARLY_TRIGGERS →
        t.rd K.EARLY_TRIGGERS = s.rdN K.EARLY_TRIGGERS + 1))) ∧
    (s.rd K.ACQ_STATE = 2 → Runs .forceTrigger s (fun t => t.rd K.ACQ_STATE = 3 ∧ t.rd K.TRIG_TIME = s.netStart ∧
      t.acq.rows = s.acq.rows ∧ (s.cascadeOut = [] → t.rd K.TRIG_FLAGS = 0 ∧ t.acq.pulses = s.acq.pulses) ∧
      t.acq.pulses.length = s.acq.pulses.length + s.cascadeOut.length ∧ AnsweredJust .ok s t)) ∧
    (s.rd K.ACQ_STATE = 1 → s.rdN K.PRETRIGGER ≤ s.acq.count → Runs .pretriggerFilled s (fun t =>
      t.rd K.ACQ_STATE = 2 ∧ t.acq.armedAt = s.clk.now ∧ OnlyParts [.dictionary, .acquisition] s t ∧
      OnlyEntries [K.ACQ_STATE] s t)) ∧
    (∀ now, s.rd K.ACQ_STATE = 2 → s.rd K.AUTO_TIMEOUT ≠ 0 →
      (s.at now).elapsed s.acq.armedAt (1000000 * s.rdN K.AUTO_TIMEOUT) = true → Runs (.autoTimeoutExpiry now) s (fun t =>
        t.rd K.ACQ_STATE = 3 ∧ t.rd K.TRIG_FLAGS = 1 ∧ t.rd K.TRIG_TIME = (s.at now).netNow ∧
        OnlyEntries [K.ACQ_STATE, K.TRIG_FLAGS, K.TRIG_TIME, K.PRE_ROWS] s t)) ∧
    (∀ (pin : Fin 4) now, s.rd (K.TRIG_IO_MODE pin) = 1 → s.rd K.ACQ_STATE = 2 → s.rd K.TRIG_KIND = 6 →
      s.rdN K.TRIG_REF = pin.val → Runs (.trigIoEdge pin now) s (fun t => t.rd K.ACQ_STATE = 3 ∧ t.rd K.TRIG_FLAGS = 0 ∧
        t.rd K.TRIG_TIME = max 0 (((s.at now).netNow : Int) - s.rd (K.TRIG_IN_DELAY pin) - s.rd K.CASCADE_LATENCY) ∧
        t.acq.pulses = s.acq.pulses)) ∧
    (s.rd K.ACQ_STATE = 3 → s.acqKept = true →
      ((s.acq.rows.drop (s.acq.first - s.acq.dropped)).take (s.rdN K.LENGTH)).all (·.processed) = true →
      Runs .acqDone s (fun t => t.rd K.ACQ_STATE = 4 ∧ RaisedSources [Ev.ACQ_DONE] s t ∧
        t.acq.rows = (s.acq.rows.drop (s.acq.first - s.acq.dropped)).take (s.rdN K.LENGTH) ∧
        OnlyEntries [K.ACQ_STATE] s t)) ∧
    (s.acqBusy = true → s.acq.overrun = true → Runs .acqOverrun s (fun t => t.rd K.ACQ_STATE = 5 ∧
      RaisedSources [Ev.ACQ_OVERRUN] s t ∧ t.acq = s.acq)) ∧
    (∀ (pin : Fin 4) now e,
      s.acq.pulses.find? (fun e => e.1 == pin.val && Nat.ble e.2 (s.at now).netNow) = some e →
      Runs (.cascadePulse pin now) s (fun t => t.out = .trigOut pin (max s.clk.now now) :: s.out ∧
        t.acq.pulses = s.acq.pulses.erase e ∧ OnlyParts [.clock, .acquisition, .outputs] s t))) ∧
  (∀ s : State, s.domainOn Dom.ACQ = true → s.acqBusy = true → Runs .acqProcess s (fun t =>
    (∀ x ∈ t.acq.rows, x.processed = true) ∧ t.acq.rows.map (·.cycle) = s.acq.rows.map (·.cycle) ∧
    t.acq.rows.map (·.instant) = s.acq.rows.map (·.instant) ∧ t.acq.rows.map (·.invalid) = s.acq.rows.map (·.invalid) ∧
    (∀ (i : Nat) x, s.acq.rows[i]? = some x → x.processed = true → t.acq.rows[i]? = some x)))

/-- R413, R414: the row of a running trace enters its ring; a freeze, by a cause or by command, lets POST_FAULT_ROWS rows
follow, after which the trace is frozen; a release empties it.
R415 to R417: the performance counters are run, stopped and cleared, and the wrap of one is flagged; at the end of a
bandwidth window its results show and the next begins, and a window that began late shows nothing. -/
def Obligations.TracesAndCounters : Prop :=
  (∀ s : State,
    (∀ a : Fin 128,
      (s.traceState a = 1 → s.domainOn Dom.ACQ = true → s.axState a ≠ 0 →
        s.clk.cyc % max 1 (s.rdN (K.TRACE_DIV a)) = 0 → Runs (.traceRow a) s (fun t =>
          SMap.find (t.trace a).ring (s.trace a).next = some (s.traceWords a) ∧
          (t.trace a).next = ((s.trace a).next + 1) % s.traceDepth a ∧
          (t.trace a).count = min (s.traceDepth a) ((s.trace a).count + 1) ∧ (∀ b, b ≠ a.val → t.trace b = s.trace b) ∧
          OnlyParts [.traces] s t)) ∧
      (∀ c : Fin 4, c ≠ 0 → bit (s.rdN (K.FREEZE_ON a)) (c.val - 1) = true → s.freezeHolds a c = true →
        s.traceState a = 1 → Runs (.traceFreezeCause a c) s (fun t => t.traceState a = 2 ∧
          t.rd (K.FREEZE_CAUSE a) = c.val ∧ t.rd (K.FREEZE_CYCLE a) = s.cycle ∧
          (t.trace a).remaining = s.rdN (K.POST_FAULT_ROWS a) ∧ (∀ b, b ≠ a.val → t.trace b = s.trace b))) ∧
      (s.traceState a = 2 → (s.trace a).remaining = 0 → Runs (.traceFrozen a) s (fun t => t.traceState a = 3 ∧
        RaisedSources [Ev.TRACE_FROZEN] s t ∧ t.traces = s.traces)) ∧
      (s.traceState a = 1 → Runs (.freeze a) s (fun t => t.traceState a = 2 ∧ t.rd (K.FREEZE_CAUSE a) = 4 ∧
        AnsweredJust .ok s t ∧ (∀ b, b ≠ a.val → t.trace b = s.trace b))) ∧
      Runs (.release a) s (fun t => t.trace a = {} ∧ t.rd (K.TRACE_STATE a) = 0 ∧ AnsweredJust .ok s t ∧
        OnlyEntries [K.TRACE_STATE a] s t ∧ (∀ b, b ≠ a.val → t.trace b = s.trace b))) ∧
    Runs .freezeAll s (fun t => AnsweredJust .ok s t ∧ ∀ a, a < 128 →
      (s.traceState a = 1 → t.traceState a = 2 ∧ t.rd (K.FREEZE_CAUSE a) = 4) ∧
      (s.traceState a ≠ 1 → t.traceState a = s.traceState a ∧ t.trace a = s.trace a)) ∧
    Runs .releaseAll s (fun t => AnsweredJust .ok s t ∧ t.raised = s.raised ∧ ∀ a, a < 128 →
      t.trace a = {} ∧ t.rd (K.TRACE_STATE a) = 0)) ∧
  (∀ s : State,
    (s.domainOn Dom.ACQ = true → Runs .counterRun s (fun t => t.rd K.COUNTERS_RUNNING = 1 ∧ AnsweredJust .ok s t ∧
      OnlyParts [.dictionary, .outputs] s t ∧ OnlyEntries [K.COUNTERS_RUNNING] s t)) ∧
    (s.domainOn Dom.ACQ = false → Runs .counterRun s (fun t => AnsweredJust .refused s t ∧ OnlyParts [.outputs] s t)) ∧
    Runs .counterStop s (fun t => t.rd K.COUNTERS_RUNNING = 0 ∧ AnsweredJust .ok s t ∧
      OnlyEntries [K.COUNTERS_RUNNING] s t) ∧
    Runs .counterClear s (fun t => t.counters.live = [] ∧ t.counters.flags = 0 ∧ t.counters.latched = [] ∧
      (∀ j, j < 53 → t.rd (K.PEAK_UTIL j) = 0) ∧ t.counters.windowStart = s.counters.windowStart ∧
      t.rd K.COUNTERS_RUNNING = s.rd K.COUNTERS_RUNNING ∧ AnsweredJust .ok s t ∧
      OnlyParts [.counters, .dictionary, .outputs] s t) ∧
    (∀ c : Fin 64, c.val ∈ s.counters.wrapped → Runs (.counterOverflow c) s (fun t => bit t.counters.flags c = true ∧
      (∀ d, d ≠ c.val → bit t.counters.flags d = bit s.counters.flags d) ∧ t.counters.wrapped = s.counters.wrapped.erase c ∧
      RaisedSources [Ev.COUNTER_OVERFLOW] s t)) ∧
    (∀ now, s.domainOn Dom.ACQ = true → s.power ≠ 0 →
      (s.counters.windowStart / s.windowNs + 1) * s.windowNs ≤ (s.at now).netNow →
      Runs (.windowEnd now) s (fun t =>
        t.counters.windowStart = (s.at now).netNow / s.windowNs * s.windowNs ∧ t.counters.rxBytes = [] ∧
        t.counters.txWire = [] ∧ t.counters.live = s.counters.live ∧
        (s.counters.windowStart % s.windowNs ≠ 0 → t.od = s.od) ∧
        (s.counters.windowStart % s.windowNs = 0 → ∀ j, j < 53 →
          t.rd (K.RX_BYTES_WINDOW j) = (SMap.get s.counters.rxBytes 0 j % 2 ^ 32 : Nat) ∧
          t.rd (K.RX_UTIL j) = s.utilOf (SMap.get s.counters.rxWire 0 j) ∧
          t.rd (K.TX_UTIL j) = s.utilOf (SMap.get s.counters.txWire 0 j)))))

/-- R416: with CHAIN set for a pair, the odd counter counts its event and carries each overflow into the even one, whose own
event is ignored; COUNTER64 reads the pair as the cycle start latched it. -/
def Obligations.ChainedCounters : Prop :=
  ∀ (s : State) (k : Fin 32), s.rd (K.CHAIN k.val) = 1 →
    (∀ code sel, s.perfHits code sel (2 * k.val) = false) ∧
    (∀ code, s.rdN (K.COUNTER_EVENT (2 * k.val + 1)) = code → s.rdN (K.COUNTER_SELECT (2 * k.val + 1)) = 0xFFFF →
      ∀ sel, s.perfHits code sel (2 * k.val + 1) = true) ∧
    (∀ n, SMap.get s.counters.live 0 (2 * k.val) < 2 ^ 32 →
      SMap.get (s.perfAdd (2 * k.val + 1) n).counters.live 0 (2 * k.val + 1) =
        (SMap.get s.counters.live 0 (2 * k.val + 1) + n) % 2 ^ 32 ∧
      SMap.get (s.perfAdd (2 * k.val + 1) n).counters.live 0 (2 * k.val) =
        (SMap.get s.counters.live 0 (2 * k.val) + (SMap.get s.counters.live 0 (2 * k.val + 1) + n) / 2 ^ 32) % 2 ^ 32) ∧
    s.nextStart.counters.latched = s.counters.live ∧
    s.entryValue 0x7605 (k.val + 1) =
      (SMap.get s.counters.latched 0 (2 * k.val) * 2 ^ 32 + SMap.get s.counters.latched 0 (2 * k.val + 1) : Nat)

/-! ### The Lighthouse (spec/18) -/

namespace Sys2Proof.Machine

/-- The degraded mode holds the scope of an element with a failed channel. -/
def HasScope (s : State) (cause ref chan : Nat) : Prop :=
  ∃ c ∈ s.lh.scopes, c.cause = cause ∧ c.ref = ref ∧ chan ∈ c.failed

end Sys2Proof.Machine

/-- R426 to R428, R442: a safe input takes a channel's level, counts its test pulses, of which the second in a row that
stays high is a fault of the channel, and becomes faulty when its channels have disagreed for SI_DISCREPANCY.
R431, R442: a test pulse of a safe output: passed, a fault of one switch, or an output that reads on with both
switches off, which puts every axis it serves into STO. -/
def Obligations.SafeInputsAndOutputs : Prop :=
  (∀ (s : State) (k : Fin 16) (now : Nat), s.lhAlive = true → s.cf (K.SI_MODE k) ≠ 0 →
    (∀ chB level, Runs (.siChannelChange k chB level now) s (fun t =>
      (chB = false → (t.si k).a = level ∧ (t.si k).b = (s.si k).b) ∧
      (chB = true → (t.si k).b = level ∧ (t.si k).a = (s.si k).a) ∧
      bit (t.rdN (K.SI_RAW k)) (b2n chB) = level ∧
      t.rd (K.SI_STATE k) = (if (t.si k).dis then 3 else if t.siDemand k then 2 else 1) ∧
      (∀ j, j ≠ k.val → t.si j = s.si j) ∧ OnlyParts [.clock, .dictionary, .lighthouse] s t ∧
      OnlyEntries [K.SI_RAW k, K.SI_STATE k, K.SI_FAULT k] s t)) ∧
    (s.cf (K.SI_TEST_PULSE k) ≠ 0 →
      Runs (.siTestPulse k false false now) s (fun t => (t.si k).stayA = 0 ∧ (t.si k).passA = (s.si k).passA + 1 ∧
        OnlyParts [.clock, .lighthouse] s t) ∧
      Runs (.siTestPulse k true false now) s (fun t => (t.si k).stayB = 0 ∧ (t.si k).passB = (s.si k).passB + 1 ∧
        OnlyParts [.clock, .lighthouse] s t) ∧
      ((s.si k).stayA = 0 → Runs (.siTestPulse k false true now) s (fun t => (t.si k).stayA = 1 ∧
        OnlyParts [.clock, .lighthouse] s t)) ∧
      (1 ≤ (s.si k).stayA → (s.si k).faultA = false → Runs (.siTestPulse k false true now) s (fun t =>
        (t.si k).faultA = true ∧ HasScope t 1 k 0 ∧ (∃ e ∈ t.raised, e.source = Ev.SI_FAULT ∧ e.data0 = k.val ∧ e.data1 = 2) ∧
        t.recorder.rides.length = s.recorder.rides.length + 1)) ∧
      (1 ≤ (s.si k).stayB → (s.si k).faultB = false → Runs (.siTestPulse k true true now) s (fun t =>
        (t.si k).faultB = true ∧ HasScope t 1 k 1 ∧
        (∃ e ∈ t.raised, e.source = Ev.SI_FAULT ∧ e.data0 = k.val ∧ e.data1 = 3)))) ∧
    (∀ t0, (s.si k).disSince = some t0 → (s.si k).dis = false → (s.si k).faultA = false → (s.si k).faultB = false →
      (s.at now).elapsed t0 (1000000 * s.cfN (K.SI_DISCREPANCY k)) = true → Runs (.siDiscrepancy k now) s (fun t =>
        (t.si k).dis = true ∧ t.rd (K.SI_STATE k) = 3 ∧ t.rd (K.SI_FAULT k) = 1 ∧ RaisedJust [(Ev.SI_FAULT, k.val, 1)] s t))) ∧
  (∀ (s : State) (o : Fin 8) (now : Nat), s.lhState = LH.RUN → s.cf (K.SO_SOURCE o) ≠ 0 →
    (s.cf (K.SO_TEST_PULSE o) ≠ 0 → s.rd (K.SO_STATE o) = 1 →
      Runs (.soTestPulse o false 0 now) s (fun t => (t.so o).passHigh = (s.so o).passHigh + 1 ∧
        OnlyParts [.clock, .lighthouse] s t) ∧
      Runs (.soTestPulse o true 0 now) s (fun t => (t.so o).passLow = (s.so o).passLow + 1 ∧
        OnlyParts [.clock, .lighthouse] s t) ∧
      (∀ low (r : Fin 4), r = 1 ∨ r = 2 →
        s.lh.scopes.any (fun c => c.cause == 2 && c.ref == o.val && c.failed.contains (b2n low)) = false →
        Runs (.soTestPulse o low r now) s (fun t => HasScope t 2 o (b2n low) ∧
          (s.rd (K.SO_FAULT o) = 0 → t.rd (K.SO_FAULT o) = if low then 2 else 1) ∧
          (∃ e ∈ t.raised, e.source = Ev.SO_FAULT ∧ e.data0 = o.val ∧ e.data1 = if low then 2 else 1)))) ∧
    (∀ low, s.rd (K.SO_FAULT o) ≠ 3 → Runs (.soTestPulse o low 3 now) s (fun t => t.rd (K.SO_FAULT o) = 3 ∧
      t.rd (K.SO_STATE o) = 2 ∧ (∃ e ∈ t.raised, e.source = Ev.SO_FAULT ∧ e.data0 = o.val ∧ e.data1 = 3) ∧
      ∀ a, a < 128 → s.inScope { cause := 2, ref := o, failed := [], second := true } a = true → s.safety a < SS.STO →
        t.safety a = SS.STO ∧ t.rd (K.STO_CAUSE a) = 8)))

/-- R429, R432, R433: after a cycle of the Lighthouse in RUN the demand of every group is the greatest its inputs make,
and every axis on which STO is demanded is in STO. -/
def Obligations.LighthouseCycleMeetsDemands : Prop :=
  ∀ (s : State) (now : Nat), s.lhState = LH.RUN → Runs (.lighthouseCycle now) s (fun t =>
    (∀ g, g < 8 → t.rdN (K.GROUP_DEMAND g) =
      ((List.range 16).filter (fun k => bit (t.cfN (K.SI_GROUPS k)) g)).foldl (fun m k => max m (t.siGives k)) 0) ∧
    (∀ a, a < 128 → t.demand a = SS.STO → t.safety a = SS.STO))

/-- R81, R433, R436 to R439, R442: what the Lighthouse does when a time of an axis or an island has passed, and when a
cross-check or a channel fails. -/
def Obligations.SafetyMonitors : Prop :=
  ∀ (s : State) (a : Fin 128) (now : Nat),
    (s.lhState = LH.RUN → s.safety a = SS.SLS →
      (s.at now).elapsed (s.lhAxis a).since (1000000 * s.cfN (K.SLS_RAMP_TIME (s.lhAxis a).group)) = true →
      Runs (.slsRampExpiry a now) s (fun t => (t.lhAxis a).monitored = true ∧ OnlyParts [.clock, .lighthouse] s t)) ∧
    (s.lhState = LH.RUN → s.safety a = SS.SS1 → (s.lhAxis a).timed = true →
      (s.at now).elapsed (s.lhAxis a).since (1000000 * s.cfN (K.SS1_TIME (s.lhAxis a).group)) = true →
      Runs (.ss1Timeout a now) s (fun t => t.safety a = SS.STO ∧ t.rd (K.STO_CAUSE a) = 2 ∧ OtherAxes a s t ∧
        ∀ b, b < 128 → b ≠ a.val → t.safety b = s.safety b)) ∧
    (∀ n : Fin 24, s.lhState = LH.RUN → (s.at now).scLost n = true → s.lh.lost.contains n.val = false →
      (s.axesOf n).isEmpty = false → Runs (.scLossTimeout n now) s (fun t => n.val ∈ t.lh.lost ∧
        (∀ b ∈ s.axesOf n, 5 ∈ (t.lhAxis b).latched) ∧
        RaisedSources ((s.axesOf n).map (fun _ => Ev.SAFE_COMM_LOSS)) s t)) ∧
    (s.lhState = LH.RUN → s.cfN (K.XCHK_CYCLES a) ≤ (s.lhAxis a).xrun → (s.lhAxis a).latched.contains 6 = false →
      Runs (.xchkMismatch a) s (fun t => 6 ∈ (t.lhAxis a).latched ∧ RaisedJust [(Ev.XCHK_MISMATCH, a.val, 6)] s t ∧
        OnlyParts [.lighthouse, .raised] s t)) ∧
    (s.lhState = LH.RUN → s.cfN K.XCHK_MISS_MAX < (s.lhAxis a).xmiss → Runs (.xchkMissing a) s (fun t =>
      HasScope t 4 a 0)) ∧
    (∀ p : Fin 48, (s.port p).lost = false → s.rdN K.CHANNEL_LOSS_CYCLES ≤ (s.port p).missRun → 0 < (s.port p).missRun →
      Runs (.channelLost p) s (fun t => (t.port p).lost = true ∧ (∀ q, q ≠ p.val → t.port q = s.port q) ∧
        (∃ e ∈ t.raised, e.source = Ev.CHANNEL_LOST ∧ e.data0 = portIsland p ∧ e.data1 = portChannel p) ∧
        (s.lhState = LH.RUN → HasScope t 3 (portIsland p) (portChannel p)))) ∧
    ((s.lhAxis a).sbcHold = true → (s.at now).elapsed (s.lhAxis a).stoAt (1000000 * s.cfN (K.SBC_DELAY a)) = true →
      Runs (.sbcDelayExpiry a now) s (fun t => (t.lhAxis a).sbcHold = false ∧
        OnlyParts [.clock, .lighthouse, .dictionary] s t)) ∧
    (∀ c j, s.scOf a = some (c, j) → s.lhState = LH.RUN → SS.STO ≤ s.safety a → (s.lhAxis a).readback = false →
      bit c.axes j = false → (s.at now).elapsed (max (s.lhAxis a).stoAt s.lh.startedAt) 10000000 = true →
      Runs (.stoReadbackFail a now) s (fun t => (t.lhAxis a).readback = true ∧ RaisedSources [Ev.STO_READBACK_FAIL] s t ∧
        OnlyParts [.clock, .lighthouse, .raised] s t))

/-- R424, R425: the Lighthouse powers up into STARTUP with every axis locked, runs when its self-test has passed and its
inputs have settled, and on a fault demands STO of every axis.
R429, R435, R443: a reset takes every locked axis without a demand back to RUN and leaves the others, and a press of a
RESET input does so for the axes of its groups; the limit of degraded mode, and its acknowledgement. -/
def Obligations.LighthouseStatesAndResets : Prop :=
  (∀ (s : State) (now : Nat),
    (s.lhState = LH.OFF → s.domainOn Dom.LH = true → Runs (.lhPowered now) s (fun t => t.lhState = LH.STARTUP ∧
      t.rd K.DEGRADED_STATE = 0 ∧ t.lh.scopes = [] ∧ t.lh.tested = false ∧
      ∀ a, a < 128 → t.safety a = SS.LOCKED ∧ t.rd (K.STO_CAUSE a) = 10)) ∧
    (s.lhState = LH.STARTUP → Runs (.lhSelfTestComplete false now) s (fun t => t.lhState = LH.SAFE_FAULT ∧
      t.rd K.LH_FAULT_CAUSE = 4 ∧ (∃ e ∈ t.raised, e.source = Ev.LH_FAULT ∧ e.data1 = 4) ∧
      ∀ a, a < 128 → t.safety a = SS.STO ∧ t.rd (K.STO_CAUSE a) = 9)) ∧
    (s.lhState = LH.STARTUP →
      (∀ k, k < 16 → s.cf (K.SI_MODE k) = 0 ∨
        (s.at now).elapsed s.lh.startedAt (100000 * s.cfN (K.SI_FILTER k)) = true) →
      Runs (.lhSelfTestComplete true now) s (fun t => t.lhState = LH.RUN ∧ t.lh.runAt = max s.clk.now now ∧
        ∀ a, a < 128 → t.safety a = SS.LOCKED ∧ t.rd (K.STO_CAUSE a) = 10)) ∧
    (s.lhState = LH.STARTUP →
      (∃ k, k < 16 ∧ s.cf (K.SI_MODE k) ≠ 0 ∧
        (s.at now).elapsed s.lh.startedAt (100000 * s.cfN (K.SI_FILTER k)) = false) →
      Runs (.lhSelfTestComplete true now) s (fun t => t.lh.tested = true ∧ OnlyParts [.clock, .lighthouse] s t)) ∧
    (∀ c : Fin 4, s.lhState = LH.RUN → c ≠ 0 → Runs (.lhFault c now) s (fun t => t.lhState = LH.SAFE_FAULT ∧
      t.rd K.LH_FAULT_CAUSE = c.val ∧ (∃ e ∈ t.raised, e.source = Ev.LH_FAULT ∧ e.data1 = c.val) ∧
      ∀ a, a < 128 → t.safety a = SS.STO ∧ t.rd (K.STO_CAUSE a) = 9))) ∧
  (∀ s : State,
    (s.lhState = LH.RUN → Runs .safetyReset s (fun t => AnsweredJust .ok s t ∧ t.raised = s.raised ∧ ∀ a, a < 128 →
      (s.safety a = SS.LOCKED → s.demand a = 0 → t.safety a = SS.RUN ∧ t.rd (K.STO_CAUSE a) = 0) ∧
      (s.safety a ≠ SS.LOCKED ∨ s.demand a ≠ 0 → t.safety a = s.safety a))) ∧
    (∀ k : Fin 16, s.lhState = LH.RUN → (s.si k).press = true → Runs (.safetyResetPress k) s (fun t =>
      (t.si k).press = false ∧ ∀ a, a < 128 →
        ((s.groupsOf a).any (fun g => bit (s.cfN (K.SI_GROUPS k)) g) = true → s.safety a = SS.LOCKED → s.demand a = 0 →
          t.safety a = SS.RUN) ∧
        ((s.groupsOf a).any (fun g => bit (s.cfN (K.SI_GROUPS k)) g) = false → t.safety a = s.safety a))) ∧
    (∀ now, s.rd K.DEGRADED_STATE = 1 →
      (s.at now).elapsed s.lh.degradedAt (1000000000 * s.cfN K.DEGRADED_TIME) = true →
      Runs (.degradedTimeExpiry now) s (fun t => t.rd K.DEGRADED_STATE = 2 ∧ RaisedSources [Ev.SAFETY_DEGRADED_END] s t ∧
        OnlyParts [.clock, .dictionary, .raised] s t ∧ OnlyEntries [K.DEGRADED_STATE] s t)) ∧
    (s.rd K.DEGRADED_STATE ≠ 0 → s.lh.scopes.all s.scopeGone = true → Runs .safetyAck s (fun t =>
      t.rd K.DEGRADED_STATE = 0 ∧ t.rd K.DEGRADED_CAUSE = 0 ∧ t.rd K.DEGRADED_REF = 0 ∧ t.lh.scopes = [] ∧
      RaisedSources [Ev.SAFETY_DEGRADED_END] s t ∧ AnsweredJust .ok s t)) ∧
    (s.rd K.DEGRADED_STATE = 0 ∨ s.lh.scopes.all s.scopeGone = false → Runs .safetyAck s (fun t =>
      AnsweredJust .ok s t ∧ OnlyParts [.outputs] s t)))

/-- R445, R447 to R449: the signature of the other head, the Safety Officer's password with its lockout, and the
acknowledging, discarding and clearing of the safety parameters. -/
def Obligations.SafetyParameters : Prop :=
  ∀ (s : State) (w : Who) (now : Nat),
    (∀ peer : BitVec 32, s.dual.on = true → s.straitUp = true → Runs (.safetySigCompare peer) s (fun t =>
      t.rd K.PEER_SIG = peer.toNat ∧
      RaisedSources (if peer.toNat = safetySig s.cf then [] else [Ev.SAFETY_SIG_MISMATCH]) s t)) ∧
    (∀ new, passwordOk new = true →
      (s.rd K.PASSWORD_STATE = 0 → w.role.val < 4 → Runs (.passwordNew w new now) s (fun t =>
        AnsweredJust .role s t ∧ OnlyParts [.clock, .outputs] s t)) ∧
      (s.rd K.PASSWORD_STATE = 0 → 4 ≤ w.role.val → Runs (.passwordNew w new now) s (fun t =>
        t.lh.password = some new ∧ t.rd K.PASSWORD_STATE = 1 ∧ RaisedSources [Ev.PASSWORD_CHANGE] s t ∧
        AnsweredJust .ok s t)) ∧
      (∀ p q, s.rd K.PASSWORD_STATE = 1 → 3 ≤ w.role.val → s.lh.password = some p → w.pw = some q →
        (p = q → Runs (.passwordNew w new now) s (fun t => t.lh.password = some new ∧ AnsweredJust .ok s t)) ∧
        (p ≠ q → Runs (.passwordNew w new now) s (fun t => t.lh.password = some p ∧
          RaisedSources [Ev.SAFETY_PASSWORD_FAIL] s t ∧ AnsweredJust .password s t ∧
          ((s.lh.wrong.filter (fun u => Nat.blt (max s.clk.now now) (u + 60000000000))).length < 4 →
            t.rd K.PASSWORD_STATE = 1) ∧
          (4 ≤ (s.lh.wrong.filter (fun u => Nat.blt (max s.clk.now now) (u + 60000000000))).length →
            t.rd K.PASSWORD_STATE = 2 ∧ t.lh.lockUntil = max s.clk.now now + 300000000000)))) ∧
      (s.rd K.PASSWORD_STATE = 2 → 3 ≤ w.role.val → Runs (.passwordNew w new now) s (fun t =>
        AnsweredJust .password s t ∧ OnlyParts [.clock, .outputs] s t))) ∧
    (s.rd K.PASSWORD_STATE = 2 → s.lh.lockUntil ≤ max s.clk.now now → Runs (.passwordLockoutEnd now) s (fun t =>
      t.rd K.PASSWORD_STATE = 1 ∧ OnlyParts [.clock, .dictionary] s t ∧ OnlyEntries [K.PASSWORD_STATE] s t)) ∧
    (∀ v : BitVec 32, 3 ≤ w.role.val → s.lockBar w = false →
      (v.toNat = safetySig s.pend → s.safetyQuiet = true → Runs (.safetySigAck w v now) s (fun t =>
        t.lh.activate = some (s.od.filter (fun e => isSafety e.1), { w with pw := none }) ∧ t.act = s.act ∧
        AnsweredJust .ok s t)) ∧
      (v.toNat ≠ safetySig s.pend ∨ s.safetyQuiet = false → Runs (.safetySigAck w v now) s (fun t =>
        AnsweredJust .refused s t ∧ OnlyParts [.clock, .outputs] s t))) ∧
    (3 ≤ w.role.val → s.lockBar w = false → DictWf s.od → DictWf s.act → Runs (.safetyDiscard w) s (fun t =>
      AnsweredJust .ok s t ∧ OnlyParts [.dictionary, .outputs] s t ∧
      ∀ k, t.rd k = if isSafety k then s.cf k else s.rd k)) ∧
    (4 ≤ w.role.val → s.lockBar w = false → s.safetyQuiet = true → DictWf s.od → DictWf s.act →
      Runs (.safetyClear w 0x5346434C now) s (fun t => t.lh.password = none ∧ t.rd K.PASSWORD_STATE = 0 ∧
        RaisedSources [Ev.SAFETY_PARAM_CHANGE] s t ∧ AnsweredJust .ok s t ∧
        (∀ k, isSafety k = true → t.rd k = odDefault k ∧ t.cf k = odDefault k) ∧
        (∀ k, isSafety k = false → k ≠ K.PASSWORD_STATE → t.rd k = s.rd k ∧ t.cf k = s.cf k)))

/-! ### Power (spec/20) -/

namespace Sys2Proof.Machine

/-- A write of a power object is refused with a cause and changes nothing else. -/
def PowerRefused (code : Nat) (s t : State) : Prop :=
  t.rd K.POWER_REFUSAL = code ∧ AnsweredJust .refused s t ∧ OnlyEntries [K.POWER_REFUSAL] s t ∧
  OnlyParts [.dictionary, .outputs] s t

/-- A transition to a power state is in progress, with a domain in the state `st`. -/
def Underway (target d st : Nat) (t : State) : Prop :=
  t.power_.trans.map (·.target) = some target ∧ t.rd K.IN_TRANSITION = 1 ∧ t.rd (K.DOMAIN_STATE d) = st

end Sys2Proof.Machine

/-- R473, R474: the writes of POWER_CMD, CLUSTER_SELECT, ACQ_SELECT and TRIP_CLEAR: refused with the cause where one bars
them, and else begun with the first domain; a power-up or power-down that completes begins the next, and after the last the
power state is the target's. -/
def Obligations.PowerTransitions : Prop :=
  ∀ s : State,
    (s.inTransition = true → Runs .powerCmdStandby s (PowerRefused 4 s) ∧ Runs .powerCmdConfig s (PowerRefused 4 s) ∧
      Runs .powerCmdRun s (PowerRefused 4 s) ∧ (∀ v, Runs (.clusterSelectWrite v) s (PowerRefused 4 s)) ∧
      (∀ v, Runs (.acqSelectWrite v) s (PowerRefused 4 s))) ∧
    (s.inTransition = false → s.draining = false →
      (s.power = 0 → Runs .powerCmdStandby s (fun t => AnsweredJust .ok s t ∧ OnlyParts [.outputs] s t)) ∧
      (s.power = 1 → Runs .powerCmdConfig s (fun t => AnsweredJust .ok s t ∧ OnlyParts [.outputs] s t)) ∧
      (s.power = 2 → Runs .powerCmdRun s (fun t => AnsweredJust .ok s t ∧ OnlyParts [.outputs] s t)) ∧
      (s.power = 0 → s.rd K.TRIP_LATCHED = 1 → Runs .powerCmdConfig s (PowerRefused 1 s) ∧ Runs .powerCmdRun s (PowerRefused 1 s)) ∧
      (s.power = 0 → s.rd K.TRIP_LATCHED ≠ 1 → Runs .powerCmdConfig s (fun t => Underway 1 Dom.CORE 1 t ∧ t.out = s.out ∧
        RaisedJust [(Ev.DOMAIN_STATE, Dom.CORE, 1)] s t)) ∧
      (s.power = 1 → s.enough (s.rdN K.CLUSTER_SELECT) = false → Runs .powerCmdRun s (PowerRefused 2 s)) ∧
      (s.power = 1 → s.enough (s.rdN K.CLUSTER_SELECT) = true → (∀ d r, d < 16 → s.runUp = .up d :: r → Runs .powerCmdRun s (fun t =>
        Underway 2 d 1 t ∧ t.rd K.SKERRY_CLOCK = s.ageing.clock ∧ t.out = s.out ∧
        RaisedJust [(Ev.DOMAIN_STATE, d, 1)] s t))) ∧
      (s.power = 1 → s.netState = N.OFF → Runs .powerCmdStandby s (Underway 0 Dom.NET_B 4)) ∧
      (s.power = 2 → s.axesQuiet = false → Runs .powerCmdStandby s (PowerRefused 3 s) ∧ Runs .powerCmdConfig s (PowerRefused 3 s))) ∧
    (∀ v : Fin 256, s.inTransition = false →
      (s.power ≠ 2 → Runs (.clusterSelectWrite v) s (fun t => t.rd K.CLUSTER_SELECT = v.val ∧ AnsweredJust .ok s t ∧
        OnlyEntries [K.CLUSTER_SELECT] s t ∧ OnlyParts [.dictionary, .outputs] s t)) ∧
      (s.power = 2 → (∃ j, j < 8 ∧ s.cluster j = 1 ∧ bit v.val j = false) → s.enough v.val = false →
        Runs (.clusterSelectWrite v) s (PowerRefused 2 s))) ∧
    (s.inTransition = false → (∀ v : Bool, s.power ≠ 2 → Runs (.acqSelectWrite v) s (fun t => t.rd K.ACQ_SELECT = b2i v ∧
        AnsweredJust .ok s t ∧ OnlyEntries [K.ACQ_SELECT] s t ∧ OnlyParts [.dictionary, .outputs] s t)) ∧
      (s.power = 2 → s.rd (K.DOMAIN_STATE Dom.ACQ) = 0 → Runs (.acqSelectWrite true) s (fun t => Underway 2 Dom.ACQ 1 t ∧
        t.rd K.ACQ_SELECT = 1 ∧ t.out = s.out))) ∧
    (s.power = 0 → (1200 < s.rd K.TJ_NOW → Runs .tripClear s (PowerRefused 1 s)) ∧
      (s.rd K.TJ_NOW ≤ 1200 → Runs .tripClear s (fun t => t.rd K.TRIP_LATCHED = 0 ∧ AnsweredJust .ok s t ∧
        OnlyEntries [K.TRIP_LATCHED] s t ∧ OnlyParts [.dictionary, .outputs] s t))) ∧
    (∀ x now, s.power_.trans = some x →
      (∀ d r, x.steps = .up Dom.CORE :: .up d :: r → d < 16 → d ≠ Dom.CORE → Runs (.domainStateChange now) s (fun t =>
        t.rd (K.DOMAIN_STATE Dom.CORE) = 2 ∧ t.rd (K.DOMAIN_STATE d) = 1 ∧ t.clk.cycNext = some 0 ∧
        t.power_.trans.map (·.steps) = some (.up d :: r) ∧
        RaisedJust [(Ev.DOMAIN_STATE, Dom.CORE, 2), (Ev.DOMAIN_STATE, d, 1)] s t)) ∧
      (x.steps = [.up Dom.CORE] → x.later = [] → s.draining = false → (∀ n, n < 10 → (s.session n).reqs = []) →
        x.own = true → x.target ≠ x.from_ → x.from_ ≠ 2 → Runs (.domainStateChange now) s (fun t => t.power_.trans = none ∧
          t.rd K.IN_TRANSITION = 0 ∧ t.rd K.POWER_STATE = x.target ∧ t.rd (K.DOMAIN_STATE Dom.CORE) = 2 ∧
          AnsweredJust .ok s t ∧ RaisedSources [Ev.DOMAIN_STATE, Ev.POWER_STATE] s t))) ∧
    (∀ j : Fin 8, s.rd (K.DOMAIN_STATE (3 + j.val)) = 3 → s.power_.trans = none →
      (∀ u ∈ s.ferry.tasks, ∀ k, u.phase.skerry = some k → k / 8 ≠ j.val) → Runs (.clusterDrainComplete j) s (fun t =>
        t.rd (K.DOMAIN_STATE (3 + j.val)) = 0 ∧ t.cluster j = 0 ∧ (∀ i, i < 8 → t.skerry (8 * j.val + i) = 0) ∧
        RaisedJust [(Ev.DOMAIN_STATE, 3 + j.val, 0)] s t))

/-- R467 to R472: a rail judged unhealthy moves every domain that draws it to the other feed where that is healthy for it;
a rail judged healthy starts the hold time; a domain whose hold time has run returns to its preferred feed; and a force moves
every domain for which the forced feed is healthy.
R476: a reading of the junction temperature, its peak and its warning; at 140 °C outside STANDBY every domain outside
STANDBY is switched off and the trip is latched. -/
def Obligations.PowerFeedsAndThermal : Prop :=
  (∀ s : State,
    (∀ (feed : Fin 2) (rail : Fin 6) (cause : Fin 3) (mv : Fin 65536) (now : Nat),
      Runs (.feedUnhealthy feed rail cause mv now) s (fun t => t.rd (feedVolt feed.val rail.val) = mv.val ∧
        t.railBad feed.val rail.val = true ∧
        (s.forced = none → ∀ d ∈ switched,
          (s.feedOf d = feed.val → rail.val ∈ railsOf d → t.feedOk (1 - feed.val) d = true → t.feedOf d = 1 - feed.val) ∧
          (t.feedOk (s.feedOf d) d = true → t.feedOf d = s.feedOf d)))) ∧
    (∀ (feed : Fin 2) (rail : Fin 6) (mv : Fin 65536) (now : Nat),
      Runs (.feedHealthy feed rail mv now) s (fun t => t.rd (feedVolt feed.val rail.val) = mv.val ∧
        t.rd (feedKey feed.val rail.val) = 1 ∧ t.railBad feed.val rail.val = false ∧
        (s.railBad feed.val rail.val = false → OnlyEntries [feedVolt feed.val rail.val, feedKey feed.val rail.val] s t ∧
          OnlyParts [.clock, .dictionary] s t) ∧
        (s.railBad feed.val rail.val = true → ∀ d ∈ switched, rail.val ∈ railsOf d → t.feedOk feed.val d = true →
          SMap.get t.power_.healthySince 0 (16 * feed.val + d) = t.clk.now))) ∧
    (∀ now : Nat, Runs (.feedRevert now) s (fun t => ∀ d ∈ switched,
      t.feedOf d = if (s.at now).revertDue d then s.preferredOf d else s.feedOf d)) ∧
    (∀ (a b : Bool) (now : Nat), Runs (.feedForceChange a b now) s (fun t => t.rd K.FORCE_STATE = b2n a + 2 * b2n b ∧
      (a = true → b = false → ∀ d ∈ switched, s.feedOk 0 d = true → t.feedOf d = 0) ∧
      (a = false → b = true → ∀ d ∈ switched, s.feedOk 1 d = true → t.feedOf d = 1) ∧
      (a = b → ∀ d ∈ switched, s.feedOk (s.feedOf d) d = true → t.feedOf d = s.feedOf d)))) ∧
  (∀ (s : State) (tj : BitVec 16) (now : Nat),
    (tj.toInt < 1400 → s.power_.warned = false →
      (tj.toInt < s.rd K.THERMAL_WARN → Runs (.thermalTrip tj now) s (fun t => t.rd K.TJ_NOW = tj.toInt ∧
        t.rd K.TJ_PEAK = max tj.toInt (s.rd K.TJ_PEAK) ∧ OnlyEntries [K.TJ_NOW, K.TJ_PEAK] s t ∧
        OnlyParts [.clock, .dictionary] s t)) ∧
      (s.rd K.THERMAL_WARN ≤ tj.toInt → Runs (.thermalTrip tj now) s (fun t => t.rd K.TJ_NOW = tj.toInt ∧
        t.power_.warned = true ∧ RaisedSources [Ev.THERMAL_WARNING] s t))) ∧
    (1400 ≤ tj.toInt → s.power ≠ 0 → Runs (.thermalTrip tj now) s (fun t => t.rd K.TJ_NOW = tj.toInt ∧
      t.rd K.TRIP_LATCHED = 1 ∧ t.power = 0 ∧ t.inTransition = false ∧ ∀ d ∈ runDomains, t.rd (K.DOMAIN_STATE d) = 0)) ∧
    (s.power_.warned = false → s.rd K.THERMAL_WARN ≤ tj.toInt → Runs (.thermalWarning tj now) s (fun t =>
      t.rd K.TJ_NOW = tj.toInt ∧ t.power_.warned = true ∧ RaisedSources [Ev.THERMAL_WARNING] s t ∧
      OnlyEntries [K.TJ_NOW, K.TJ_PEAK] s t)) ∧
    (s.power_.warned = true → Runs (.thermalWarning tj now) s (fun t => t.rd K.TJ_NOW = tj.toInt ∧
      (t.power_.warned = true ↔ s.rd K.THERMAL_WARN - 50 < tj.toInt) ∧ t.raised = s.raised)))

/-! ### Clocks, reset and boot (spec/21) -/

namespace Sys2Proof.Machine

/-- The head is held in reset by a cause: every domain but AON is off, nothing is active, and of the dictionary, the
recorder's ring, the password and what was given out nothing is lost that a reset keeps. -/
def HeldInReset (cause : Nat) (s t : State) : Prop :=
  t.boot.state = .inReset ∧ t.rd K.RESET_CAUSE = cause ∧ t.power = 0 ∧ t.netState = N.OFF ∧ (∀ d, d < 16 → t.rd (K.DOMAIN_STATE d) = 0) ∧
  t.axes = [] ∧ t.act = [] ∧ t.raised = [] ∧ t.sessions = [] ∧ t.ferry = {} ∧ t.recorder.ring = s.recorder.ring ∧
  t.lh.password = s.lh.password ∧ (∀ k, lifeKey k = true → t.rd k = s.rd k)

end Sys2Proof.Machine

/-- R480, R481, R483 to R486, R495, R496: what resets the head, with its cause; RESET_CMD only with every axis quiet; a PLL
that loses lock and locks again; and the instructions of the TAP. -/
def Obligations.ClocksAndResets : Prop :=
  ∀ (s : State) (now : Nat), s.boot.state ≠ .inReset → (∀ x ∈ s.raised, x.source < 256) →
    Runs (.refclkLoss now) s (fun t => HeldInReset 4 s t ∧ t.out = s.out) ∧
    Runs .powerOnReset s (fun t => HeldInReset 1 s t ∧ t.out = s.out ∧ t.recorder.fifo = []) ∧
    Runs (.nresetPin now) s (fun t => HeldInReset 2 s t ∧ t.out = s.out ∧ t.clk.now = max s.clk.now now) ∧
    Runs (.brownout now) s (fun t => HeldInReset 3 s t ∧ t.out = s.out) ∧
    (s.supOn = true → Runs (.supervisorWatchdog now) s (fun t => HeldInReset 6 s t ∧ t.out = s.out)) ∧
    (s.supOn = false → Runs (.supervisorWatchdog now) s (fun t => OnlyParts [.clock] s t)) ∧
    (s.boot.tapHolds = true → Runs (.resetCmd now) s (fun t => AnsweredJust .busy s t ∧ OnlyParts [.clock, .outputs] s t)) ∧
    (s.boot.tapHolds = false → s.axesQuiet = true → Runs (.resetCmd now) s (fun t => HeldInReset 8 s t ∧ AnsweredJust .ok s t)) ∧
    (s.boot.tapHolds = false → s.axesQuiet = false → Runs (.resetCmd now) s (fun t => AnsweredJust .refused s t ∧
      OnlyParts [.clock, .outputs] s t)) ∧
    (∀ pll : Fin 6, bit (s.rdN K.PLL_LOCKED) pll.val = true →
      (pll.val ≤ 1 → Runs (.pllUnlock pll now) s (fun t => HeldInReset 5 s t ∧ t.out = s.out)) ∧
      (pll.val = 5 → Runs (.pllUnlock pll now) s (fun t => t.rd K.PLL_LOCKED = setBit (s.rdN K.PLL_LOCKED) 5 false ∧
        RaisedSources [Ev.PLL_UNLOCK] s t ∧ OnlyEntries [K.PLL_LOCKED] s t ∧
        OnlyParts [.clock, .dictionary, .raised, .freeCount] s t))) ∧
    (∀ pll : Fin 6, Runs (.pllRelock pll now) s (fun t => t.rd K.PLL_LOCKED = setBit (s.rdN K.PLL_LOCKED) pll.val true ∧
      OnlyEntries [K.PLL_LOCKED] s t ∧ OnlyParts [.clock, .dictionary] s t)) ∧
    (∀ i : Fin 7,
      (3 ≤ i.val → i.val ≤ 5 → s.boot.tapHolds = false → Runs (.tapInstruction i now) s (fun t => HeldInReset 9 s t ∧
        t.boot.tapHolds = true ∧ t.out = s.out)) ∧
      (3 ≤ i.val → i.val ≤ 5 → s.boot.tapHolds = true → Runs (.tapInstruction i now) s (fun t => OnlyParts [.clock] s t)) ∧
      (i.val = 1 → Runs (.tapInstruction i now) s (fun t => t.boot = { s.boot with tapHolds := false } ∧
        t.out = .value (leBytes 4 (0x0412_856F % 2 ^ 28 + 2 ^ 28 * (Config.siliconRev % 16))) :: s.out ∧
        OnlyParts [.clock, .boot, .outputs] s t)) ∧
      (i.val = 0 ∨ i.val = 2 ∨ i.val = 6 → Runs (.tapInstruction i now) s (fun t =>
        t.boot = { s.boot with tapHolds := false } ∧ OnlyParts [.clock, .boot] s t)))

/-- R335, R460, R488, R489, R516: released from reset the head records it and, where no feed is healthy for SUP, stops; else it
reads both headers; it loads the slot that a valid
header and BOOT_PREFER name, or stops where neither is valid; a payload with the header's length and hash is booted, another
one leads to the other slot or to a stop; and boot ends with the interface on, where some feed is healthy for it, and, without a pointer word, with default
settings, or with those of the image that the pointer names. -/
def Obligations.BootSequence : Prop :=
  ∀ s : State,
    (∀ (h0 h1 : Bytes) (ddr : Bool) (now : Nat), s.boot.state = .inReset → s.boot.tapHolds = false →
      s.canPower 1 = false → Runs (.resetRelease h0 h1 ddr now) s (fun t => t.boot.state = .stopped ∧ t.domainOn 1 = false ∧
        (∃ e ∈ t.recorder.fifo, e.code = Rc.RESET ∧ e.data0 = s.rdN K.RESET_CAUSE))) ∧
    (∀ (h0 h1 : Bytes) (ddr : Bool) (now : Nat), s.boot.state = .inReset → s.boot.tapHolds = false → s.canPower 1 = true →
      Runs (.resetRelease h0 h1 ddr now) s (fun t => t.boot.headers = [h0, h1] ∧ t.rd K.FLASH_MODE = b2i ddr ∧
        t.rd (K.SLOT_STATUS 0) = s.headerStatus h0 ∧ t.rd (K.SLOT_STATUS 1) = s.headerStatus h1 ∧
        (∃ e ∈ t.recorder.fifo, e.code = Rc.RESET ∧ e.data0 = s.rdN K.RESET_CAUSE) ∧
        (s.headerStatus h0 = 0 → s.rd K.BOOT_PREFER = 0 → t.boot.state = .loading ∧ t.boot.trying = 0 ∧ t.domainOn 1 = true) ∧
        (s.headerStatus h0 ≠ 0 → s.headerStatus h1 = 0 → s.rd K.BOOT_PREFER = 0 → t.boot.state = .loading ∧
          t.boot.trying = 1 ∧ t.domainOn 1 = true) ∧
        (s.headerStatus h0 ≠ 0 → s.headerStatus h1 ≠ 0 → s.rd K.BOOT_PREFER = 0 ∨ s.rd K.BOOT_PREFER = 1 →
          t.boot.state = .stopped ∧ t.domainOn 1 = false))) ∧
    (∀ payload, s.boot.state = .loading → s.boot.trying < 2 → Runs (.imageHashCheck payload) s (fun t =>
      if payloadOk (s.headerOf s.boot.trying) payload then
        t.boot = { s.boot with state := .image } ∧ t.rd K.BOOT_SLOT = s.boot.trying ∧
        OnlyParts [.dictionary, .boot] s t ∧ OnlyEntries [K.BOOT_SLOT] s t
      else if s.rd (K.SLOT_STATUS (1 - s.boot.trying)) = 0 ∧ s.boot.tried.contains (1 - s.boot.trying) = false then
        t.boot.state = .loading ∧ t.boot.trying = 1 - s.boot.trying ∧ t.rd (K.SLOT_STATUS s.boot.trying) = 5
      else t.boot.state = .stopped ∧ t.domainOn 1 = false ∧ t.rd (K.SLOT_STATUS s.boot.trying) = 5)) ∧
    (∀ (aOk bOk : Bool) (now : Nat), s.boot.state = .image →
      (s.mram.pointer = none → Runs (.bootComplete aOk bOk now) s (fun t => t.boot.state = .running ∧
        (s.canPower Dom.IFC = true → t.domainOn Dom.IFC = true) ∧ t.rd K.BOOT_IMAGE_SOURCE = 2 ∧ ∃ e ∈ t.raised, e.source = Ev.STORE_IMAGE_INVALID)) ∧
      (∀ i n, s.mram.pointer = some (0, n) → s.mram.slotA = some i → aOk = true → i.seq = n →
        Runs (.bootComplete aOk bOk now) s (fun t => t.boot.state = .running ∧ t.rd K.ACTIVE_SLOT = 0 ∧
          t.rd K.IMAGE_SEQUENCE = i.seq)))

/-- R490, R491, R494, R495: the fused security version and the revoked keys change only as the running image allows; an
update goes from BEGIN over erasing, receiving and verifying to READY or FAILED; a trust anchor is installed; DEBUG_LOCK
locks. -/
def Obligations.FirmwareAndFuses : Prop :=
  ∀ s : State,
    (∀ (w : Who) (n : Fin 256),
      (n.val < s.rdN K.FUSED_SV ∨ 64 < n.val → Runs (.rollbackAdvance w n) s (fun t => AnsweredJust .range s t ∧
        OnlyParts [.outputs] s t)) ∧
      (s.rdN K.FUSED_SV ≤ n.val → n.val ≤ 64 → hdrSecurity s.runningHeader < n.val → Runs (.rollbackAdvance w n) s (fun t =>
        AnsweredJust .refused s t ∧ RaisedSources [Ev.ROLLBACK_REJECTED] s t ∧ OnlyParts [.raised, .freeCount, .outputs] s t)) ∧
      (s.rdN K.FUSED_SV ≤ n.val → n.val ≤ 64 → n.val ≤ hdrSecurity s.runningHeader → Runs (.rollbackAdvance w n) s (fun t =>
        t.rd K.FUSED_SV = n.val ∧ AnsweredJust .ok s t ∧ RaisedSources [Ev.FIRMWARE_UPDATE] s t ∧
        OnlyEntries [K.FUSED_SV] s t))) ∧
    (∀ (w : Who) (keys : Fin 256),
      (16 ≤ keys.val → Runs (.keyRevoke w keys) s (fun t => AnsweredJust .range s t ∧ OnlyParts [.outputs] s t)) ∧
      (keys.val < 16 → bit keys.val (uAt s.runningHeader 6 1) = true → Runs (.keyRevoke w keys) s (fun t =>
        AnsweredJust .refused s t ∧ t.rd K.KEY_REVOKED = s.rd K.KEY_REVOKED ∧ RaisedSources [Ev.FIRMWARE_UPDATE] s t)) ∧
      (keys.val < 16 → bit keys.val (uAt s.runningHeader 6 1) = false → Runs (.keyRevoke w keys) s (fun t =>
        t.rd K.KEY_REVOKED = Nat.lor (s.rdN K.KEY_REVOKED) keys.val ∧ AnsweredJust .ok s t ∧
        OnlyEntries [K.KEY_REVOKED] s t))) ∧
    (∀ w : Who, Runs (.debugLock w) s (fun t => t.rd K.DEBUG_STATE = 1 ∧ AnsweredJust .ok s t ∧
      RaisedSources [Ev.DEBUG_LOCK] s t ∧ OnlyEntries [K.DEBUG_STATE] s t)) ∧
    (∀ v : Fin 2, Runs (.bootPreferWrite v) s (fun t => t.rd K.BOOT_PREFER = v.val ∧ AnsweredJust .ok s t ∧
      OnlyEntries [K.BOOT_PREFER] s t ∧ OnlyParts [.dictionary, .outputs] s t)) ∧
    (s.fwState = 0 ∨ s.fwState = 4 ∨ s.fwState = 5 → Runs .fwUpdateBegin s (fun t => t.rd K.FW_UPDATE_STATE = 1 ∧
      t.rd K.RECEIVED = 0 ∧ t.out = .answer .ok :: .flashErase s.spareSlot :: s.out ∧
      OnlyEntries [K.FW_UPDATE_STATE, K.RECEIVED] s t)) ∧
    (s.fwState = 1 ∨ s.fwState = 3 → Runs .fwUpdateBegin s (fun t => AnsweredJust .busy s t ∧ OnlyParts [.outputs] s t) ∧
      Runs .fwUpdateCommit s (fun t => AnsweredJust .busy s t ∧ OnlyParts [.outputs] s t)) ∧
    (s.fwState = 1 → Runs .fwEraseComplete s (fun t => t.rd K.FW_UPDATE_STATE = 2 ∧ OnlyParts [.dictionary] s t ∧
      OnlyEntries [K.FW_UPDATE_STATE] s t)) ∧
    (∀ b : Bytes,
      (s.fwState = 2 → uAt b 0 4 = s.rdN K.RECEIVED → 4 < b.length → b.length ≤ 4100 →
        uAt b 0 4 + (b.length - 4) ≤ 8388608 → Runs (.fwUpdateData b) s (fun t =>
          t.rd K.RECEIVED = uAt b 0 4 + ((b.length - 4 : Nat) : Int) ∧
          t.out = .answer .ok :: .flashProgram s.spareSlot (uAt b 0 4) (b.drop 4) :: s.out ∧
          OnlyEntries [K.RECEIVED] s t)) ∧
      (s.fwState ≠ 2 ∨ uAt b 0 4 ≠ s.rdN K.RECEIVED → Runs (.fwUpdateData b) s (fun t => AnsweredJust .refused s t ∧
        OnlyParts [.outputs] s t))) ∧
    (s.fwState = 2 → Runs .fwUpdateCommit s (fun t => t.rd K.FW_UPDATE_STATE = 3 ∧ AnsweredJust .ok s t ∧
      OnlyEntries [K.FW_UPDATE_STATE] s t)) ∧
    (∀ header payload, s.fwState = 3 → Runs (.fwVerifyComplete header payload) s (fun t =>
      if s.headerStatus header = 0 ∧ payloadOk header payload = true then
        t.rd K.FW_UPDATE_STATE = 4 ∧ t.rd K.FW_UPDATE_RESULT = 0 ∧ t.rd K.BOOT_PREFER = s.spareSlot ∧
        RaisedSources [Ev.FIRMWARE_UPDATE] s t ∧ OnlyParts [.dictionary, .raised] s t
      else t.rd K.FW_UPDATE_STATE = 5 ∧ t.rd K.BOOT_PREFER = s.rd K.BOOT_PREFER ∧
        t.rd K.FW_UPDATE_RESULT = (if s.headerStatus header = 0 then 5 else s.headerStatus header : Nat))) ∧
    (s.fwState = 1 ∨ s.fwState = 2 → Runs .fwUpdateAbort s (fun t => t.rd K.FW_UPDATE_STATE = 0 ∧ AnsweredJust .ok s t ∧
      OnlyEntries [K.FW_UPDATE_STATE] s t)) ∧
    (s.fwState ≠ 1 → s.fwState ≠ 2 → Runs .fwUpdateAbort s (fun t => AnsweredJust .refused s t ∧ OnlyParts [.outputs] s t)) ∧
    (∀ (w : Who) (k : Fin 4) (der : Bytes),
      (1024 < der.length → Runs (.trustAnchorWrite w k der) s (fun t => AnsweredJust .length s t ∧ OnlyParts [.outputs] s t)) ∧
      (der.length ≤ 1024 → Runs (.trustAnchorWrite w k der) s (fun t => t.rdB (K.TRUST_ANCHOR k) = der ∧
        (s.commissioning = false → AnsweredJust .ok s t ∧ RaisedSources [Ev.CERT_CHANGE] s t ∧
          OnlyParts [.texts, .raised, .freeCount, .outputs] s t) ∧
        (der ≠ [] → t.commissioning = false))))

/-! ### Ageing and margin plans (spec/22) -/

/-- R499 to R504: a measurement is taken over; a plan that differs from the active one is proposed under the next number,
and never lowers the trim nor raises the clock; it applies when it is accepted by its number; the supply follows in single
steps, and rows are re-mapped one by one. -/
def Obligations.AgeingAndPlans : Prop :=
  ∀ s : State,
    (∀ now : Nat,
      (∀ (d : Fin 16) (v : Fin 65536), d.val = 0 ∨ s.domainOn d.val = true → Runs (.ageingMeasurement (.degradation d v) now) s
        (fun t => t.rd (K.DEGRADATION d) = v.val ∧ OnlyParts [.clock, .dictionary] s t ∧
          OnlyEntries [K.DEGRADATION d] s t)) ∧
      (∀ (worst : Fin 65536) (rows : Nat), Runs (.ageingMeasurement (.mram worst rows) now) s (fun t =>
        t.rd K.WORST_ROW_WEAR = worst.val ∧ t.ageing.wornRows = rows ∧ OnlyEntries [K.WORST_ROW_WEAR] s t)) ∧
      (∀ (p : Fin 49) (v : Fin 256), p.val < 48 → (s.port p.val).linkUp = true → Runs (.ageingMeasurement (.eye p v) now) s
        (fun t => t.rd (K.EYE_OPENING p) = v.val ∧ p.val ∈ t.ageing.scanned ∧ OnlyEntries [K.EYE_OPENING p] s t)) ∧
      (∀ v : Int, s.ptpLocked = true → Runs (.ageingMeasurement (.drift v) now) s (fun t => t.rd K.REF_DRIFT = satS 32 v ∧
        OnlyEntries [K.REF_DRIFT] s t)) ∧
      (∀ busy : Rat,
        (s.ageing.computedAt + 86400000000000 * s.rdN K.PLAN_INTERVAL ≤ max s.clk.now now →
          Runs (.planIntervalExpiry busy now) s (fun t => t.ageing.lastPlan = s.ageing.lastPlan + 1 ∧
            t.ageing.computedAt = max s.clk.now now)) ∧
        (max s.clk.now now < s.ageing.computedAt + 86400000000000 * s.rdN K.PLAN_INTERVAL →
          Runs (.planIntervalExpiry busy now) s (fun t => OnlyParts [.clock] s t))) ∧
      (s.boot.state = .running → s.ageing.vid ≠ s.rdN K.TRIM_ACTIVE / 5 → (∀ w ∈ s.ageing.vidAt, w + 1000000 ≤ max s.clk.now now) →
        Runs (.vidStep now) s (fun t => t.ageing.vidAt = some (max s.clk.now now) ∧ t.out = .vid t.ageing.vid :: s.out ∧
          t.ageing.vid = (if s.ageing.vid < s.rdN K.TRIM_ACTIVE / 5 then s.ageing.vid + 1 else s.ageing.vid - 1) ∧
          OnlyParts [.clock, .ageing, .outputs] s t))) ∧
    (s.rdN K.TRIM_ACTIVE ≤ s.planNew.trim ∧ s.planNew.clock ≤ s.ageing.clock ∧ s.rdN K.SPARES_USED ≤ s.planNew.spares) ∧
    (∀ busy : Rat,
      (s.planNew = s.planActive → Runs (.planCompute busy) s (fun t => t.ageing.lastPlan = s.ageing.lastPlan + 1 ∧
        t.ageing.proposal = s.ageing.proposal ∧ t.rd K.PLAN_STATE = s.rd K.PLAN_STATE ∧ AnsweredJust .ok s t)) ∧
      (s.planNew ≠ s.planActive → s.rd K.AUTO_ACCEPT ≠ 1 → Runs (.planCompute busy) s (fun t =>
        t.ageing.lastPlan = s.ageing.lastPlan + 1 ∧ t.ageing.proposal = some (s.ageing.lastPlan + 1, s.planNew) ∧
        t.rd K.PLAN_STATE = 1 ∧ t.rd K.TRIM_PROPOSED = s.planNew.trim ∧ t.rd K.CLOCK_PROPOSED = s.planNew.clock ∧
        t.rd K.TRIM_ACTIVE = s.rd K.TRIM_ACTIVE ∧ t.rd K.PLAN_NUMBER = s.ageing.lastPlan + 1 ∧ AnsweredJust .ok s t))) ∧
    (∀ n : BitVec 32,
      (∀ p, s.ageing.proposal = some (n.toNat, p) → Runs (.planAccept n) s (fun t => t.rd K.TRIM_ACTIVE = p.trim ∧
        t.ageing.clock = p.clock ∧ t.rd K.PLAN_STATE = 0 ∧ t.ageing.proposal = none ∧ AnsweredJust .ok s t ∧
        RaisedSources [Ev.MARGIN_PLAN_ACCEPTED] s t)) ∧
      ((∀ x ∈ s.ageing.proposal, x.1 ≠ n.toNat) → Runs (.planAccept n) s (fun t => AnsweredJust .refused s t ∧
        OnlyParts [.outputs] s t))) ∧
    Runs .planReject s (fun t => t.rd K.PLAN_STATE = 0 ∧ t.ageing.proposal = none ∧ AnsweredJust .ok s t ∧
      OnlyEntries [K.PLAN_STATE, K.PLAN_NUMBER] s t ∧ t.raised = s.raised) ∧
    (s.ageing.sparesDue ≠ 0 → Runs .mramSpareUsed s (fun t => t.rd K.SPARES_USED = s.rdN K.SPARES_USED + 1 ∧
      t.ageing.sparesDue = s.ageing.sparesDue - 1 ∧ RaisedSources [Ev.MRAM_SPARE_USED] s t ∧ OnlyEntries [K.SPARES_USED] s t))

/-- R502: a plan's computation raises AGEING_ALARM with DATA0 for each cause that holds and for no other: a degradation above
12.00 %, a negative HEADROOM, more than 56 spare rows in use, an eye below 0.20 UI at preset 7, a reference drift beyond
±50 ppm; and the plan is computed all the same. -/
def Obligations.AgeingAlarms : Prop :=
  ∀ (s : State) (busy : Rat), Runs (.planCompute busy) s (fun t => t.ageing.lastPlan = s.ageing.lastPlan + 1 ∧
    ∃ r, t.raised = s.raised ++ r ∧ ∀ c : Nat, (∃ e ∈ r, e.source = Ev.AGEING_ALARM ∧ e.data0 = c) ↔
      (c = 1 ∧ 1200 < t.worstAgeing) ∨ (c = 2 ∧ t.rd K.HEADROOM < 0) ∨ (c = 3 ∧ 56 < t.rdN K.SPARES_USED) ∨
      (c = 4 ∧ ∃ p ∈ t.ageing.scanned, t.rdN (K.EYE_OPENING p) < 20 ∧ t.rdN (K.EQ_PRESET p) = 7) ∨
      (c = 5 ∧ (t.rd K.REF_DRIFT < -5000 ∨ 5000 < t.rd K.REF_DRIFT)))
end

