-- ==== Sys2Proof/Laws/Crc.lean ====
section
/-! SUPPORT. The CRC and the signatures made of it fit in 32 bits. -/

namespace Sys2Proof.Machine

theorem crcBit_lt {c : Nat} (h : c < 2 ^ 32) : crcBit c < 2 ^ 32 := by
  unfold crcBit
  split
  · exact Nat.xor_lt_two_pow (by omega) (by decide)
  · omega

theorem crcByte_lt {c : Nat} (b : Byte) (h : c < 2 ^ 32) : crcByte c b < 2 ^ 32 := by
  have hb : Nat.xor c b.toNat < 2 ^ 32 := Nat.xor_lt_two_pow h (by have := b.isLt; omega)
  exact crcBit_lt <| crcBit_lt <| crcBit_lt <| crcBit_lt <| crcBit_lt <| crcBit_lt <| crcBit_lt <| crcBit_lt hb

theorem crcRun_lt {c : Nat} (l : Bytes) (h : c < 2 ^ 32) : crcRun c l < 2 ^ 32 := by
  induction l generalizing c with
  | nil => exact h
  | cons b r ih => exact ih (crcByte_lt b h)

/-- A CRC-32C is a 32-bit number (R109). -/
theorem crc32c_lt (l : Bytes) : crc32c l < 2 ^ 32 := Nat.xor_lt_two_pow (crcRun_lt l (by decide)) (by decide)

/-- So is the signature of a set of safety parameters (R447). -/
theorem safetySig_lt (g : Nat → Int) : safetySig g < 2 ^ 32 := crc32c_lt _

end Sys2Proof.Machine
end

