-- ==== Sys2Proof/Laws/Store.lean ====
section
/-! SUPPORT. Sparse stores: what a read gives after a write, and that every operation keeps the canonical form. -/

namespace Sys2Proof.Machine

variable {α : Type}

/-! ### Reads after writes -/

@[simp] theorem SMap.find_insert_same (m : SMap α) (k : Nat) (v : α) : SMap.find (SMap.insert m k v) k = some v := by
  induction m with
  | nil => simp [SMap.insert, SMap.find]
  | cons e r ih =>
    obtain ⟨k', v'⟩ := e
    simp only [SMap.insert]
    split
    · simp [SMap.find]
    · split
      · simp [SMap.find]
      · rename_i h; simp [SMap.find, h, ih]

theorem SMap.find_insert_other (m : SMap α) {k j : Nat} (v : α) (h : j ≠ k) :
    SMap.find (SMap.insert m k v) j = SMap.find m j := by
  induction m with
  | nil => simp [SMap.insert, SMap.find, h]
  | cons e r ih =>
    obtain ⟨k', v'⟩ := e
    simp only [SMap.insert]
    split
    · simp [SMap.find, h]
    · split
      · rename_i hk; subst hk; simp [SMap.find, h]
      · simp [SMap.find, ih]

@[simp] theorem SMap.find_erase_same (m : SMap α) (k : Nat) : SMap.find (SMap.erase m k) k = none := by
  induction m with
  | nil => rfl
  | cons e r ih =>
    obtain ⟨k', v'⟩ := e
    by_cases h : k' = k
    · subst h; simpa [SMap.erase] using ih
    · have : k ≠ k' := fun x => h x.symm
      simpa [SMap.erase, h, SMap.find, this] using ih

theorem SMap.find_erase_other (m : SMap α) {k j : Nat} (h : j ≠ k) :
    SMap.find (SMap.erase m k) j = SMap.find m j := by
  induction m with
  | nil => rfl
  | cons e r ih =>
    obtain ⟨k', v'⟩ := e
    by_cases hk : k' = k
    · subst hk; simpa [SMap.erase, SMap.find, h] using ih
    · simp only [SMap.erase, ne_eq, hk, not_false_eq_true, decide_true, List.filter_cons_of_pos, SMap.find]
      split
      · rfl
      · exact ih

@[simp] theorem SMap.get_put_same [DecidableEq α] (m : SMap α) (d : α) (k : Nat) (v : α) :
    SMap.get (SMap.put m d k v) d k = v := by
  unfold SMap.get SMap.put; split <;> simp_all

theorem SMap.get_put_other [DecidableEq α] (m : SMap α) (d d' : α) {k j : Nat} (v : α) (h : j ≠ k) :
    SMap.get (SMap.put m d k v) d' j = SMap.get m d' j := by
  unfold SMap.get SMap.put
  split
  · rw [SMap.find_erase_other _ h]
  · rw [SMap.find_insert_other _ _ h]

@[simp] theorem SMap.get_nil (d : α) (k : Nat) : SMap.get ([] : SMap α) d k = d := rfl

/-! ### The canonical form -/

theorem SMap.wf_nil (d : Nat → α) : SMap.Wf d [] := by simp [SMap.Wf]

theorem SMap.mem_insert {m : SMap α} {k : Nat} {v : α} {e : Nat × α} (h : e ∈ SMap.insert m k v) :
    e = (k, v) ∨ e ∈ m := by
  induction m with
  | nil => simpa [SMap.insert] using h
  | cons x r ih =>
    obtain ⟨k', v'⟩ := x
    simp only [SMap.insert] at h
    split at h
    · simpa using h
    · split at h
      · rcases List.mem_cons.1 h with h | h
        · exact .inl h
        · exact .inr (List.mem_cons_of_mem _ h)
      · rcases List.mem_cons.1 h with h | h
        · exact .inr (h ▸ List.mem_cons_self)
        · rcases ih h with h | h
          · exact .inl h
          · exact .inr (List.mem_cons_of_mem _ h)

theorem SMap.sorted_insert {m : SMap α} (k : Nat) (v : α) (h : m.Pairwise (fun x y => x.1 < y.1)) :
    (SMap.insert m k v).Pairwise (fun x y => x.1 < y.1) := by
  induction m with
  | nil => simp [SMap.insert]
  | cons x r ih =>
    obtain ⟨k', v'⟩ := x
    obtain ⟨h1, h2⟩ := List.pairwise_cons.1 h
    simp only [SMap.insert]
    split
    · rename_i hk
      refine List.pairwise_cons.2 ⟨fun e he => ?_, h⟩
      rcases List.mem_cons.1 he with rfl | he
      · exact hk
      · exact Nat.lt_trans hk (h1 e he)
    · split
      · rename_i hk; subst hk; exact List.pairwise_cons.2 ⟨h1, h2⟩
      · refine List.pairwise_cons.2 ⟨fun e he => ?_, ih h2⟩
        rcases SMap.mem_insert he with rfl | he
        · show k' < k; omega
        · exact h1 e he

/-- Listing a value that is not what an unlisted key reads as keeps the form. -/
theorem SMap.wf_insert {d : Nat → α} {m : SMap α} {k : Nat} {v : α} (h : SMap.Wf d m) (hv : v ≠ d k) :
    SMap.Wf d (SMap.insert m k v) := by
  refine ⟨SMap.sorted_insert k v h.1, fun e he => ?_⟩
  rcases SMap.mem_insert he with rfl | he
  · exact hv
  · exact h.2 e he

/-- Dropping entries keeps the form. -/
theorem SMap.wf_filter {d : Nat → α} {m : SMap α} (p : Nat × α → Bool) (h : SMap.Wf d m) : SMap.Wf d (m.filter p) :=
  ⟨h.1.filter _, fun e he => h.2 e (List.mem_filter.1 he).1⟩

theorem SMap.wf_erase {d : Nat → α} {m : SMap α} (k : Nat) (h : SMap.Wf d m) : SMap.Wf d (SMap.erase m k) :=
  SMap.wf_filter _ h

/-- A write keeps the form. -/
theorem SMap.wf_put [DecidableEq α] {d : Nat → α} {m : SMap α} (k : Nat) (v : α) (h : SMap.Wf d m) :
    SMap.Wf d (SMap.put m (d k) k v) := by
  unfold SMap.put
  split
  · exact SMap.wf_erase k h
  · exact SMap.wf_insert h ‹_›

/-- Writing several entries keeps the form. -/
theorem SMap.wf_insertAll {d : Nat → α} {m src : SMap α} (h : SMap.Wf d m) (hs : ∀ e ∈ src, e.2 ≠ d e.1) :
    SMap.Wf d (src.foldl (fun a e => SMap.insert a e.1 e.2) m) := by
  induction src generalizing m with
  | nil => exact h
  | cons e r ih =>
    exact ih (SMap.wf_insert h (hs e List.mem_cons_self)) (fun x hx => hs x (List.mem_cons_of_mem _ hx))

end Sys2Proof.Machine
end

