-- ==== Sys2Proof/Laws/State.lean ====
section
/-! SUPPORT. What the named updates of the state leave and what they give: one lemma per field per update. -/

namespace Sys2Proof.Machine

variable (s : State)

/-! ### Shorter names -/

@[simp] theorem State.wrN_eq (k v : Nat) : s.wrN k v = s.wr k v := rfl
@[simp] theorem State.rdN_eq (k : Nat) : s.rdN k = (s.rd k).toNat := rfl
@[simp] theorem State.cfN_eq (k : Nat) : s.cfN k = (s.cf k).toNat := rfl
@[simp] theorem State.raise_eq (n a b : Nat) : s.raise n a b = s.raiseX n a b [] := rfl
@[simp] theorem State.updPort_eq (p : Nat) (f : Port → Port) : s.updPort p f = s.setPort p (f (s.port p)) := rfl
@[simp] theorem State.updIsland_eq (n : Nat) (f : Island → Island) : s.updIsland n f = s.setIsland n (f (s.island n)) := rfl
@[simp] theorem State.updAxis_eq (a : Nat) (f : Axis → Axis) : s.updAxis a f = s.setAxis a (f (s.axis a)) := rfl
@[simp] theorem State.updEnc_eq (c : Nat) (f : Enc → Enc) : s.updEnc c f = s.setEnc c (f (s.enc c)) := rfl

/-! ### Reads of what was written -/

@[simp] theorem State.rd_wr_same (k : Nat) (v : Int) : (s.wr k v).rd k = v := SMap.get_put_same ..
theorem State.rd_wr_other {k j : Nat} (v : Int) (h : j ≠ k) : (s.wr k v).rd j = s.rd j := SMap.get_put_other _ _ _ _ h
/-- A read after a write, by whether the entries are the same. -/
theorem State.rd_wr (k j : Nat) (v : Int) : (s.wr k v).rd j = if j = k then v else s.rd j := by
  by_cases h : j = k
  · subst h; simp
  · simp [h, State.rd_wr_other]
@[simp] theorem State.rdB_wrB_same (k : Nat) (v : Bytes) : (s.wrB k v).rdB k = v := SMap.get_put_same ..
theorem State.rdB_wrB_other {k j : Nat} (v : Bytes) (h : j ≠ k) : (s.wrB k v).rdB j = s.rdB j :=
  SMap.get_put_other _ _ _ _ h
@[simp] theorem State.port_setPort_same (p : Nat) (x : Port) : (s.setPort p x).port p = x := SMap.get_put_same ..
theorem State.port_setPort_other {p j : Nat} (x : Port) (h : j ≠ p) : (s.setPort p x).port j = s.port j :=
  SMap.get_put_other _ _ _ _ h
@[simp] theorem State.island_setIsland_same (n : Nat) (x : Island) : (s.setIsland n x).island n = x :=
  SMap.get_put_same ..
theorem State.island_setIsland_other {n j : Nat} (x : Island) (h : j ≠ n) : (s.setIsland n x).island j = s.island j :=
  SMap.get_put_other _ _ _ _ h
@[simp] theorem State.axis_setAxis_same (a : Nat) (x : Axis) : (s.setAxis a x).axis a = x := SMap.get_put_same ..
theorem State.axis_setAxis_other {a j : Nat} (x : Axis) (h : j ≠ a) : (s.setAxis a x).axis j = s.axis j :=
  SMap.get_put_other _ _ _ _ h
@[simp] theorem State.master_setMaster_same (m : Nat) (x : Master) : (s.setMaster m x).master m = x :=
  SMap.get_put_same ..
theorem State.master_setMaster_other {m j : Nat} (x : Master) (h : j ≠ m) :
    (s.setMaster m x).master j = s.master j := SMap.get_put_other _ _ _ _ h
@[simp] theorem State.enc_setEnc_same (c : Nat) (x : Enc) : (s.setEnc c x).enc c = x := SMap.get_put_same ..
theorem State.enc_setEnc_other {c j : Nat} (x : Enc) (h : j ≠ c) : (s.setEnc c x).enc j = s.enc j :=
  SMap.get_put_other _ _ _ _ h


/-! ### wr -/

@[simp] theorem State.wr_clk (k : Nat) (v : Int) : (s.wr k v).clk = s.clk := rfl
@[simp] theorem State.wr_odB (k : Nat) (v : Int) : (s.wr k v).odB = s.odB := rfl
@[simp] theorem State.wr_act (k : Nat) (v : Int) : (s.wr k v).act = s.act := rfl
@[simp] theorem State.wr_com (k : Nat) (v : Int) : (s.wr k v).com = s.com := rfl
@[simp] theorem State.wr_raised (k : Nat) (v : Int) : (s.wr k v).raised = s.raised := rfl
@[simp] theorem State.wr_channels (k : Nat) (v : Int) : (s.wr k v).channels = s.channels := rfl
@[simp] theorem State.wr_recorder (k : Nat) (v : Int) : (s.wr k v).recorder = s.recorder := rfl
@[simp] theorem State.wr_counters (k : Nat) (v : Int) : (s.wr k v).counters = s.counters := rfl
@[simp] theorem State.wr_acq (k : Nat) (v : Int) : (s.wr k v).acq = s.acq := rfl
@[simp] theorem State.wr_traces (k : Nat) (v : Int) : (s.wr k v).traces = s.traces := rfl
@[simp] theorem State.wr_ports (k : Nat) (v : Int) : (s.wr k v).ports = s.ports := rfl
@[simp] theorem State.wr_islands (k : Nat) (v : Int) : (s.wr k v).islands = s.islands := rfl
@[simp] theorem State.wr_net (k : Nat) (v : Int) : (s.wr k v).net = s.net := rfl
@[simp] theorem State.wr_dual (k : Nat) (v : Int) : (s.wr k v).dual = s.dual := rfl
@[simp] theorem State.wr_ferry (k : Nat) (v : Int) : (s.wr k v).ferry = s.ferry := rfl
@[simp] theorem State.wr_axes (k : Nat) (v : Int) : (s.wr k v).axes = s.axes := rfl
@[simp] theorem State.wr_encs (k : Nat) (v : Int) : (s.wr k v).encs = s.encs := rfl
@[simp] theorem State.wr_masters (k : Nat) (v : Int) : (s.wr k v).masters = s.masters := rfl
@[simp] theorem State.wr_rxPts (k : Nat) (v : Int) : (s.wr k v).rxPts = s.rxPts := rfl
@[simp] theorem State.wr_pubIn (k : Nat) (v : Int) : (s.wr k v).pubIn = s.pubIn := rfl
@[simp] theorem State.wr_pubOut (k : Nat) (v : Int) : (s.wr k v).pubOut = s.pubOut := rfl
@[simp] theorem State.wr_outPts (k : Nat) (v : Int) : (s.wr k v).outPts = s.outPts := rfl
@[simp] theorem State.wr_wheel (k : Nat) (v : Int) : (s.wr k v).wheel = s.wheel := rfl
@[simp] theorem State.wr_sentActs (k : Nat) (v : Int) : (s.wr k v).sentActs = s.sentActs := rfl
@[simp] theorem State.wr_wheelStarts (k : Nat) (v : Int) : (s.wr k v).wheelStarts = s.wheelStarts := rfl
@[simp] theorem State.wr_fpLoaded (k : Nat) (v : Int) : (s.wr k v).fpLoaded = s.fpLoaded := rfl
@[simp] theorem State.wr_fm (k : Nat) (v : Int) : (s.wr k v).fm = s.fm := rfl
@[simp] theorem State.wr_acqUse (k : Nat) (v : Int) : (s.wr k v).acqUse = s.acqUse := rfl
@[simp] theorem State.wr_lh (k : Nat) (v : Int) : (s.wr k v).lh = s.lh := rfl
@[simp] theorem State.wr_mods (k : Nat) (v : Int) : (s.wr k v).mods = s.mods := rfl
@[simp] theorem State.wr_adcFlags (k : Nat) (v : Int) : (s.wr k v).adcFlags = s.adcFlags := rfl
@[simp] theorem State.wr_out (k : Nat) (v : Int) : (s.wr k v).out = s.out := rfl
@[simp] theorem State.wr_placed (k : Nat) (v : Int) : (s.wr k v).placed = s.placed := rfl
@[simp] theorem State.wr_mram (k : Nat) (v : Int) : (s.wr k v).mram = s.mram := rfl
@[simp] theorem State.wr_sessions (k : Nat) (v : Int) : (s.wr k v).sessions = s.sessions := rfl
@[simp] theorem State.wr_uplink (k : Nat) (v : Int) : (s.wr k v).uplink = s.uplink := rfl
@[simp] theorem State.wr_cans (k : Nat) (v : Int) : (s.wr k v).cans = s.cans := rfl
@[simp] theorem State.wr_power_ (k : Nat) (v : Int) : (s.wr k v).power_ = s.power_ := rfl
@[simp] theorem State.wr_boot (k : Nat) (v : Int) : (s.wr k v).boot = s.boot := rfl
@[simp] theorem State.wr_ageing (k : Nat) (v : Int) : (s.wr k v).ageing = s.ageing := rfl
@[simp] theorem State.wr_free (k : Nat) (v : Int) : (s.wr k v).free = s.free := rfl
@[simp] theorem State.wr_pending (k : Nat) (v : Int) : (s.wr k v).pending = s.pending := rfl
@[simp] theorem State.wr_od (k : Nat) (v : Int) : (s.wr k v).od = SMap.put s.od (odDefault k) k v := rfl
@[simp] theorem State.cf_wr (k : Nat) (v : Int) (j : Nat) : (s.wr k v).cf j = s.cf j := rfl
@[simp] theorem State.rdB_wr (k : Nat) (v : Int) (j : Nat) : (s.wr k v).rdB j = s.rdB j := rfl
@[simp] theorem State.port_wr (k : Nat) (v : Int) (j : Nat) : (s.wr k v).port j = s.port j := rfl
@[simp] theorem State.island_wr (k : Nat) (v : Int) (j : Nat) : (s.wr k v).island j = s.island j := rfl
@[simp] theorem State.axis_wr (k : Nat) (v : Int) (j : Nat) : (s.wr k v).axis j = s.axis j := rfl
@[simp] theorem State.master_wr (k : Nat) (v : Int) (j : Nat) : (s.wr k v).master j = s.master j := rfl
@[simp] theorem State.enc_wr (k : Nat) (v : Int) (j : Nat) : (s.wr k v).enc j = s.enc j := rfl

/-! ### wrB -/

@[simp] theorem State.wrB_clk (k : Nat) (v : Bytes) : (s.wrB k v).clk = s.clk := rfl
@[simp] theorem State.wrB_od (k : Nat) (v : Bytes) : (s.wrB k v).od = s.od := rfl
@[simp] theorem State.wrB_act (k : Nat) (v : Bytes) : (s.wrB k v).act = s.act := rfl
@[simp] theorem State.wrB_com (k : Nat) (v : Bytes) : (s.wrB k v).com = s.com := rfl
@[simp] theorem State.wrB_raised (k : Nat) (v : Bytes) : (s.wrB k v).raised = s.raised := rfl
@[simp] theorem State.wrB_channels (k : Nat) (v : Bytes) : (s.wrB k v).channels = s.channels := rfl
@[simp] theorem State.wrB_recorder (k : Nat) (v : Bytes) : (s.wrB k v).recorder = s.recorder := rfl
@[simp] theorem State.wrB_counters (k : Nat) (v : Bytes) : (s.wrB k v).counters = s.counters := rfl
@[simp] theorem State.wrB_acq (k : Nat) (v : Bytes) : (s.wrB k v).acq = s.acq := rfl
@[simp] theorem State.wrB_traces (k : Nat) (v : Bytes) : (s.wrB k v).traces = s.traces := rfl
@[simp] theorem State.wrB_ports (k : Nat) (v : Bytes) : (s.wrB k v).ports = s.ports := rfl
@[simp] theorem State.wrB_islands (k : Nat) (v : Bytes) : (s.wrB k v).islands = s.islands := rfl
@[simp] theorem State.wrB_net (k : Nat) (v : Bytes) : (s.wrB k v).net = s.net := rfl
@[simp] theorem State.wrB_dual (k : Nat) (v : Bytes) : (s.wrB k v).dual = s.dual := rfl
@[simp] theorem State.wrB_ferry (k : Nat) (v : Bytes) : (s.wrB k v).ferry = s.ferry := rfl
@[simp] theorem State.wrB_axes (k : Nat) (v : Bytes) : (s.wrB k v).axes = s.axes := rfl
@[simp] theorem State.wrB_encs (k : Nat) (v : Bytes) : (s.wrB k v).encs = s.encs := rfl
@[simp] theorem State.wrB_masters (k : Nat) (v : Bytes) : (s.wrB k v).masters = s.masters := rfl
@[simp] theorem State.wrB_rxPts (k : Nat) (v : Bytes) : (s.wrB k v).rxPts = s.rxPts := rfl
@[simp] theorem State.wrB_pubIn (k : Nat) (v : Bytes) : (s.wrB k v).pubIn = s.pubIn := rfl
@[simp] theorem State.wrB_pubOut (k : Nat) (v : Bytes) : (s.wrB k v).pubOut = s.pubOut := rfl
@[simp] theorem State.wrB_outPts (k : Nat) (v : Bytes) : (s.wrB k v).outPts = s.outPts := rfl
@[simp] theorem State.wrB_wheel (k : Nat) (v : Bytes) : (s.wrB k v).wheel = s.wheel := rfl
@[simp] theorem State.wrB_sentActs (k : Nat) (v : Bytes) : (s.wrB k v).sentActs = s.sentActs := rfl
@[simp] theorem State.wrB_wheelStarts (k : Nat) (v : Bytes) : (s.wrB k v).wheelStarts = s.wheelStarts := rfl
@[simp] theorem State.wrB_fpLoaded (k : Nat) (v : Bytes) : (s.wrB k v).fpLoaded = s.fpLoaded := rfl
@[simp] theorem State.wrB_fm (k : Nat) (v : Bytes) : (s.wrB k v).fm = s.fm := rfl
@[simp] theorem State.wrB_acqUse (k : Nat) (v : Bytes) : (s.wrB k v).acqUse = s.acqUse := rfl
@[simp] theorem State.wrB_lh (k : Nat) (v : Bytes) : (s.wrB k v).lh = s.lh := rfl
@[simp] theorem State.wrB_mods (k : Nat) (v : Bytes) : (s.wrB k v).mods = s.mods := rfl
@[simp] theorem State.wrB_adcFlags (k : Nat) (v : Bytes) : (s.wrB k v).adcFlags = s.adcFlags := rfl
@[simp] theorem State.wrB_out (k : Nat) (v : Bytes) : (s.wrB k v).out = s.out := rfl
@[simp] theorem State.wrB_placed (k : Nat) (v : Bytes) : (s.wrB k v).placed = s.placed := rfl
@[simp] theorem State.wrB_mram (k : Nat) (v : Bytes) : (s.wrB k v).mram = s.mram := rfl
@[simp] theorem State.wrB_sessions (k : Nat) (v : Bytes) : (s.wrB k v).sessions = s.sessions := rfl
@[simp] theorem State.wrB_uplink (k : Nat) (v : Bytes) : (s.wrB k v).uplink = s.uplink := rfl
@[simp] theorem State.wrB_cans (k : Nat) (v : Bytes) : (s.wrB k v).cans = s.cans := rfl
@[simp] theorem State.wrB_power_ (k : Nat) (v : Bytes) : (s.wrB k v).power_ = s.power_ := rfl
@[simp] theorem State.wrB_boot (k : Nat) (v : Bytes) : (s.wrB k v).boot = s.boot := rfl
@[simp] theorem State.wrB_ageing (k : Nat) (v : Bytes) : (s.wrB k v).ageing = s.ageing := rfl
@[simp] theorem State.wrB_free (k : Nat) (v : Bytes) : (s.wrB k v).free = s.free := rfl
@[simp] theorem State.wrB_pending (k : Nat) (v : Bytes) : (s.wrB k v).pending = s.pending := rfl
@[simp] theorem State.wrB_odB (k : Nat) (v : Bytes) : (s.wrB k v).odB = SMap.put s.odB [] k v := rfl
@[simp] theorem State.rd_wrB (k : Nat) (v : Bytes) (j : Nat) : (s.wrB k v).rd j = s.rd j := rfl
@[simp] theorem State.cf_wrB (k : Nat) (v : Bytes) (j : Nat) : (s.wrB k v).cf j = s.cf j := rfl
@[simp] theorem State.port_wrB (k : Nat) (v : Bytes) (j : Nat) : (s.wrB k v).port j = s.port j := rfl
@[simp] theorem State.island_wrB (k : Nat) (v : Bytes) (j : Nat) : (s.wrB k v).island j = s.island j := rfl
@[simp] theorem State.axis_wrB (k : Nat) (v : Bytes) (j : Nat) : (s.wrB k v).axis j = s.axis j := rfl
@[simp] theorem State.master_wrB (k : Nat) (v : Bytes) (j : Nat) : (s.wrB k v).master j = s.master j := rfl
@[simp] theorem State.enc_wrB (k : Nat) (v : Bytes) (j : Nat) : (s.wrB k v).enc j = s.enc j := rfl

/-! ### at -/

@[simp] theorem State.at_od (t : Nat) : (s.at t).od = s.od := rfl
@[simp] theorem State.at_odB (t : Nat) : (s.at t).odB = s.odB := rfl
@[simp] theorem State.at_act (t : Nat) : (s.at t).act = s.act := rfl
@[simp] theorem State.at_com (t : Nat) : (s.at t).com = s.com := rfl
@[simp] theorem State.at_raised (t : Nat) : (s.at t).raised = s.raised := rfl
@[simp] theorem State.at_channels (t : Nat) : (s.at t).channels = s.channels := rfl
@[simp] theorem State.at_recorder (t : Nat) : (s.at t).recorder = s.recorder := rfl
@[simp] theorem State.at_counters (t : Nat) : (s.at t).counters = s.counters := rfl
@[simp] theorem State.at_acq (t : Nat) : (s.at t).acq = s.acq := rfl
@[simp] theorem State.at_traces (t : Nat) : (s.at t).traces = s.traces := rfl
@[simp] theorem State.at_ports (t : Nat) : (s.at t).ports = s.ports := rfl
@[simp] theorem State.at_islands (t : Nat) : (s.at t).islands = s.islands := rfl
@[simp] theorem State.at_net (t : Nat) : (s.at t).net = s.net := rfl
@[simp] theorem State.at_dual (t : Nat) : (s.at t).dual = s.dual := rfl
@[simp] theorem State.at_ferry (t : Nat) : (s.at t).ferry = s.ferry := rfl
@[simp] theorem State.at_axes (t : Nat) : (s.at t).axes = s.axes := rfl
@[simp] theorem State.at_encs (t : Nat) : (s.at t).encs = s.encs := rfl
@[simp] theorem State.at_masters (t : Nat) : (s.at t).masters = s.masters := rfl
@[simp] theorem State.at_rxPts (t : Nat) : (s.at t).rxPts = s.rxPts := rfl
@[simp] theorem State.at_pubIn (t : Nat) : (s.at t).pubIn = s.pubIn := rfl
@[simp] theorem State.at_pubOut (t : Nat) : (s.at t).pubOut = s.pubOut := rfl
@[simp] theorem State.at_outPts (t : Nat) : (s.at t).outPts = s.outPts := rfl
@[simp] theorem State.at_wheel (t : Nat) : (s.at t).wheel = s.wheel := rfl
@[simp] theorem State.at_sentActs (t : Nat) : (s.at t).sentActs = s.sentActs := rfl
@[simp] theorem State.at_wheelStarts (t : Nat) : (s.at t).wheelStarts = s.wheelStarts := rfl
@[simp] theorem State.at_fpLoaded (t : Nat) : (s.at t).fpLoaded = s.fpLoaded := rfl
@[simp] theorem State.at_fm (t : Nat) : (s.at t).fm = s.fm := rfl
@[simp] theorem State.at_acqUse (t : Nat) : (s.at t).acqUse = s.acqUse := rfl
@[simp] theorem State.at_lh (t : Nat) : (s.at t).lh = s.lh := rfl
@[simp] theorem State.at_mods (t : Nat) : (s.at t).mods = s.mods := rfl
@[simp] theorem State.at_adcFlags (t : Nat) : (s.at t).adcFlags = s.adcFlags := rfl
@[simp] theorem State.at_out (t : Nat) : (s.at t).out = s.out := rfl
@[simp] theorem State.at_placed (t : Nat) : (s.at t).placed = s.placed := rfl
@[simp] theorem State.at_mram (t : Nat) : (s.at t).mram = s.mram := rfl
@[simp] theorem State.at_sessions (t : Nat) : (s.at t).sessions = s.sessions := rfl
@[simp] theorem State.at_uplink (t : Nat) : (s.at t).uplink = s.uplink := rfl
@[simp] theorem State.at_cans (t : Nat) : (s.at t).cans = s.cans := rfl
@[simp] theorem State.at_power_ (t : Nat) : (s.at t).power_ = s.power_ := rfl
@[simp] theorem State.at_boot (t : Nat) : (s.at t).boot = s.boot := rfl
@[simp] theorem State.at_ageing (t : Nat) : (s.at t).ageing = s.ageing := rfl
@[simp] theorem State.at_free (t : Nat) : (s.at t).free = s.free := rfl
@[simp] theorem State.at_pending (t : Nat) : (s.at t).pending = s.pending := rfl
@[simp] theorem State.at_clk (t : Nat) : (s.at t).clk = { s.clk with now := max s.clk.now t } := rfl
@[simp] theorem State.rd_at (t : Nat) (j : Nat) : (s.at t).rd j = s.rd j := rfl
@[simp] theorem State.cf_at (t : Nat) (j : Nat) : (s.at t).cf j = s.cf j := rfl
@[simp] theorem State.rdB_at (t : Nat) (j : Nat) : (s.at t).rdB j = s.rdB j := rfl
@[simp] theorem State.port_at (t : Nat) (j : Nat) : (s.at t).port j = s.port j := rfl
@[simp] theorem State.island_at (t : Nat) (j : Nat) : (s.at t).island j = s.island j := rfl
@[simp] theorem State.axis_at (t : Nat) (j : Nat) : (s.at t).axis j = s.axis j := rfl
@[simp] theorem State.master_at (t : Nat) (j : Nat) : (s.at t).master j = s.master j := rfl
@[simp] theorem State.enc_at (t : Nat) (j : Nat) : (s.at t).enc j = s.enc j := rfl

/-! ### raiseX -/

@[simp] theorem State.raiseX_clk (a b c : Nat) (x : Bytes) : (s.raiseX a b c x).clk = s.clk := rfl
@[simp] theorem State.raiseX_od (a b c : Nat) (x : Bytes) : (s.raiseX a b c x).od = s.od := rfl
@[simp] theorem State.raiseX_odB (a b c : Nat) (x : Bytes) : (s.raiseX a b c x).odB = s.odB := rfl
@[simp] theorem State.raiseX_act (a b c : Nat) (x : Bytes) : (s.raiseX a b c x).act = s.act := rfl
@[simp] theorem State.raiseX_com (a b c : Nat) (x : Bytes) : (s.raiseX a b c x).com = s.com := rfl
@[simp] theorem State.raiseX_channels (a b c : Nat) (x : Bytes) : (s.raiseX a b c x).channels = s.channels := rfl
@[simp] theorem State.raiseX_recorder (a b c : Nat) (x : Bytes) : (s.raiseX a b c x).recorder = s.recorder := rfl
@[simp] theorem State.raiseX_counters (a b c : Nat) (x : Bytes) : (s.raiseX a b c x).counters = s.counters := rfl
@[simp] theorem State.raiseX_acq (a b c : Nat) (x : Bytes) : (s.raiseX a b c x).acq = s.acq := rfl
@[simp] theorem State.raiseX_traces (a b c : Nat) (x : Bytes) : (s.raiseX a b c x).traces = s.traces := rfl
@[simp] theorem State.raiseX_ports (a b c : Nat) (x : Bytes) : (s.raiseX a b c x).ports = s.ports := rfl
@[simp] theorem State.raiseX_islands (a b c : Nat) (x : Bytes) : (s.raiseX a b c x).islands = s.islands := rfl
@[simp] theorem State.raiseX_net (a b c : Nat) (x : Bytes) : (s.raiseX a b c x).net = s.net := rfl
@[simp] theorem State.raiseX_dual (a b c : Nat) (x : Bytes) : (s.raiseX a b c x).dual = s.dual := rfl
@[simp] theorem State.raiseX_ferry (a b c : Nat) (x : Bytes) : (s.raiseX a b c x).ferry = s.ferry := rfl
@[simp] theorem State.raiseX_axes (a b c : Nat) (x : Bytes) : (s.raiseX a b c x).axes = s.axes := rfl
@[simp] theorem State.raiseX_encs (a b c : Nat) (x : Bytes) : (s.raiseX a b c x).encs = s.encs := rfl
@[simp] theorem State.raiseX_masters (a b c : Nat) (x : Bytes) : (s.raiseX a b c x).masters = s.masters := rfl
@[simp] theorem State.raiseX_rxPts (a b c : Nat) (x : Bytes) : (s.raiseX a b c x).rxPts = s.rxPts := rfl
@[simp] theorem State.raiseX_pubIn (a b c : Nat) (x : Bytes) : (s.raiseX a b c x).pubIn = s.pubIn := rfl
@[simp] theorem State.raiseX_pubOut (a b c : Nat) (x : Bytes) : (s.raiseX a b c x).pubOut = s.pubOut := rfl
@[simp] theorem State.raiseX_outPts (a b c : Nat) (x : Bytes) : (s.raiseX a b c x).outPts = s.outPts := rfl
@[simp] theorem State.raiseX_wheel (a b c : Nat) (x : Bytes) : (s.raiseX a b c x).wheel = s.wheel := rfl
@[simp] theorem State.raiseX_sentActs (a b c : Nat) (x : Bytes) : (s.raiseX a b c x).sentActs = s.sentActs := rfl
@[simp] theorem State.raiseX_wheelStarts (a b c : Nat) (x : Bytes) : (s.raiseX a b c x).wheelStarts = s.wheelStarts := rfl
@[simp] theorem State.raiseX_fpLoaded (a b c : Nat) (x : Bytes) : (s.raiseX a b c x).fpLoaded = s.fpLoaded := rfl
@[simp] theorem State.raiseX_fm (a b c : Nat) (x : Bytes) : (s.raiseX a b c x).fm = s.fm := rfl
@[simp] theorem State.raiseX_acqUse (a b c : Nat) (x : Bytes) : (s.raiseX a b c x).acqUse = s.acqUse := rfl
@[simp] theorem State.raiseX_lh (a b c : Nat) (x : Bytes) : (s.raiseX a b c x).lh = s.lh := rfl
@[simp] theorem State.raiseX_mods (a b c : Nat) (x : Bytes) : (s.raiseX a b c x).mods = s.mods := rfl
@[simp] theorem State.raiseX_adcFlags (a b c : Nat) (x : Bytes) : (s.raiseX a b c x).adcFlags = s.adcFlags := rfl
@[simp] theorem State.raiseX_out (a b c : Nat) (x : Bytes) : (s.raiseX a b c x).out = s.out := rfl
@[simp] theorem State.raiseX_placed (a b c : Nat) (x : Bytes) : (s.raiseX a b c x).placed = s.placed := rfl
@[simp] theorem State.raiseX_mram (a b c : Nat) (x : Bytes) : (s.raiseX a b c x).mram = s.mram := rfl
@[simp] theorem State.raiseX_sessions (a b c : Nat) (x : Bytes) : (s.raiseX a b c x).sessions = s.sessions := rfl
@[simp] theorem State.raiseX_uplink (a b c : Nat) (x : Bytes) : (s.raiseX a b c x).uplink = s.uplink := rfl
@[simp] theorem State.raiseX_cans (a b c : Nat) (x : Bytes) : (s.raiseX a b c x).cans = s.cans := rfl
@[simp] theorem State.raiseX_power_ (a b c : Nat) (x : Bytes) : (s.raiseX a b c x).power_ = s.power_ := rfl
@[simp] theorem State.raiseX_boot (a b c : Nat) (x : Bytes) : (s.raiseX a b c x).boot = s.boot := rfl
@[simp] theorem State.raiseX_ageing (a b c : Nat) (x : Bytes) : (s.raiseX a b c x).ageing = s.ageing := rfl
@[simp] theorem State.raiseX_free (a b c : Nat) (x : Bytes) : (s.raiseX a b c x).free = s.free := rfl
@[simp] theorem State.raiseX_pending (a b c : Nat) (x : Bytes) : (s.raiseX a b c x).pending = s.pending := rfl
@[simp] theorem State.rd_raiseX (a b c : Nat) (x : Bytes) (j : Nat) : (s.raiseX a b c x).rd j = s.rd j := rfl
@[simp] theorem State.cf_raiseX (a b c : Nat) (x : Bytes) (j : Nat) : (s.raiseX a b c x).cf j = s.cf j := rfl
@[simp] theorem State.rdB_raiseX (a b c : Nat) (x : Bytes) (j : Nat) : (s.raiseX a b c x).rdB j = s.rdB j := rfl
@[simp] theorem State.port_raiseX (a b c : Nat) (x : Bytes) (j : Nat) : (s.raiseX a b c x).port j = s.port j := rfl
@[simp] theorem State.island_raiseX (a b c : Nat) (x : Bytes) (j : Nat) : (s.raiseX a b c x).island j = s.island j := rfl
@[simp] theorem State.axis_raiseX (a b c : Nat) (x : Bytes) (j : Nat) : (s.raiseX a b c x).axis j = s.axis j := rfl
@[simp] theorem State.master_raiseX (a b c : Nat) (x : Bytes) (j : Nat) : (s.raiseX a b c x).master j = s.master j := rfl
@[simp] theorem State.enc_raiseX (a b c : Nat) (x : Bytes) (j : Nat) : (s.raiseX a b c x).enc j = s.enc j := rfl

/-! ### emit -/

@[simp] theorem State.emit_clk (o : Out) : (s.emit o).clk = s.clk := rfl
@[simp] theorem State.emit_od (o : Out) : (s.emit o).od = s.od := rfl
@[simp] theorem State.emit_odB (o : Out) : (s.emit o).odB = s.odB := rfl
@[simp] theorem State.emit_act (o : Out) : (s.emit o).act = s.act := rfl
@[simp] theorem State.emit_com (o : Out) : (s.emit o).com = s.com := rfl
@[simp] theorem State.emit_raised (o : Out) : (s.emit o).raised = s.raised := rfl
@[simp] theorem State.emit_channels (o : Out) : (s.emit o).channels = s.channels := rfl
@[simp] theorem State.emit_recorder (o : Out) : (s.emit o).recorder = s.recorder := rfl
@[simp] theorem State.emit_counters (o : Out) : (s.emit o).counters = s.counters := rfl
@[simp] theorem State.emit_acq (o : Out) : (s.emit o).acq = s.acq := rfl
@[simp] theorem State.emit_traces (o : Out) : (s.emit o).traces = s.traces := rfl
@[simp] theorem State.emit_ports (o : Out) : (s.emit o).ports = s.ports := rfl
@[simp] theorem State.emit_islands (o : Out) : (s.emit o).islands = s.islands := rfl
@[simp] theorem State.emit_net (o : Out) : (s.emit o).net = s.net := rfl
@[simp] theorem State.emit_dual (o : Out) : (s.emit o).dual = s.dual := rfl
@[simp] theorem State.emit_ferry (o : Out) : (s.emit o).ferry = s.ferry := rfl
@[simp] theorem State.emit_axes (o : Out) : (s.emit o).axes = s.axes := rfl
@[simp] theorem State.emit_encs (o : Out) : (s.emit o).encs = s.encs := rfl
@[simp] theorem State.emit_masters (o : Out) : (s.emit o).masters = s.masters := rfl
@[simp] theorem State.emit_rxPts (o : Out) : (s.emit o).rxPts = s.rxPts := rfl
@[simp] theorem State.emit_pubIn (o : Out) : (s.emit o).pubIn = s.pubIn := rfl
@[simp] theorem State.emit_pubOut (o : Out) : (s.emit o).pubOut = s.pubOut := rfl
@[simp] theorem State.emit_outPts (o : Out) : (s.emit o).outPts = s.outPts := rfl
@[simp] theorem State.emit_wheel (o : Out) : (s.emit o).wheel = s.wheel := rfl
@[simp] theorem State.emit_sentActs (o : Out) : (s.emit o).sentActs = s.sentActs := rfl
@[simp] theorem State.emit_wheelStarts (o : Out) : (s.emit o).wheelStarts = s.wheelStarts := rfl
@[simp] theorem State.emit_fpLoaded (o : Out) : (s.emit o).fpLoaded = s.fpLoaded := rfl
@[simp] theorem State.emit_fm (o : Out) : (s.emit o).fm = s.fm := rfl
@[simp] theorem State.emit_acqUse (o : Out) : (s.emit o).acqUse = s.acqUse := rfl
@[simp] theorem State.emit_lh (o : Out) : (s.emit o).lh = s.lh := rfl
@[simp] theorem State.emit_mods (o : Out) : (s.emit o).mods = s.mods := rfl
@[simp] theorem State.emit_adcFlags (o : Out) : (s.emit o).adcFlags = s.adcFlags := rfl
@[simp] theorem State.emit_placed (o : Out) : (s.emit o).placed = s.placed := rfl
@[simp] theorem State.emit_mram (o : Out) : (s.emit o).mram = s.mram := rfl
@[simp] theorem State.emit_sessions (o : Out) : (s.emit o).sessions = s.sessions := rfl
@[simp] theorem State.emit_uplink (o : Out) : (s.emit o).uplink = s.uplink := rfl
@[simp] theorem State.emit_cans (o : Out) : (s.emit o).cans = s.cans := rfl
@[simp] theorem State.emit_power_ (o : Out) : (s.emit o).power_ = s.power_ := rfl
@[simp] theorem State.emit_boot (o : Out) : (s.emit o).boot = s.boot := rfl
@[simp] theorem State.emit_ageing (o : Out) : (s.emit o).ageing = s.ageing := rfl
@[simp] theorem State.emit_free (o : Out) : (s.emit o).free = s.free := rfl
@[simp] theorem State.emit_pending (o : Out) : (s.emit o).pending = s.pending := rfl
@[simp] theorem State.emit_out (o : Out) : (s.emit o).out = o :: s.out := rfl
@[simp] theorem State.rd_emit (o : Out) (j : Nat) : (s.emit o).rd j = s.rd j := rfl
@[simp] theorem State.cf_emit (o : Out) (j : Nat) : (s.emit o).cf j = s.cf j := rfl
@[simp] theorem State.rdB_emit (o : Out) (j : Nat) : (s.emit o).rdB j = s.rdB j := rfl
@[simp] theorem State.port_emit (o : Out) (j : Nat) : (s.emit o).port j = s.port j := rfl
@[simp] theorem State.island_emit (o : Out) (j : Nat) : (s.emit o).island j = s.island j := rfl
@[simp] theorem State.axis_emit (o : Out) (j : Nat) : (s.emit o).axis j = s.axis j := rfl
@[simp] theorem State.master_emit (o : Out) (j : Nat) : (s.emit o).master j = s.master j := rfl
@[simp] theorem State.enc_emit (o : Out) (j : Nat) : (s.emit o).enc j = s.enc j := rfl

/-! ### setPort -/

@[simp] theorem State.setPort_clk (p : Nat) (x : Port) : (s.setPort p x).clk = s.clk := rfl
@[simp] theorem State.setPort_od (p : Nat) (x : Port) : (s.setPort p x).od = s.od := rfl
@[simp] theorem State.setPort_odB (p : Nat) (x : Port) : (s.setPort p x).odB = s.odB := rfl
@[simp] theorem State.setPort_act (p : Nat) (x : Port) : (s.setPort p x).act = s.act := rfl
@[simp] theorem State.setPort_com (p : Nat) (x : Port) : (s.setPort p x).com = s.com := rfl
@[simp] theorem State.setPort_raised (p : Nat) (x : Port) : (s.setPort p x).raised = s.raised := rfl
@[simp] theorem State.setPort_channels (p : Nat) (x : Port) : (s.setPort p x).channels = s.channels := rfl
@[simp] theorem State.setPort_recorder (p : Nat) (x : Port) : (s.setPort p x).recorder = s.recorder := rfl
@[simp] theorem State.setPort_counters (p : Nat) (x : Port) : (s.setPort p x).counters = s.counters := rfl
@[simp] theorem State.setPort_acq (p : Nat) (x : Port) : (s.setPort p x).acq = s.acq := rfl
@[simp] theorem State.setPort_traces (p : Nat) (x : Port) : (s.setPort p x).traces = s.traces := rfl
@[simp] theorem State.setPort_islands (p : Nat) (x : Port) : (s.setPort p x).islands = s.islands := rfl
@[simp] theorem State.setPort_net (p : Nat) (x : Port) : (s.setPort p x).net = s.net := rfl
@[simp] theorem State.setPort_dual (p : Nat) (x : Port) : (s.setPort p x).dual = s.dual := rfl
@[simp] theorem State.setPort_ferry (p : Nat) (x : Port) : (s.setPort p x).ferry = s.ferry := rfl
@[simp] theorem State.setPort_axes (p : Nat) (x : Port) : (s.setPort p x).axes = s.axes := rfl
@[simp] theorem State.setPort_encs (p : Nat) (x : Port) : (s.setPort p x).encs = s.encs := rfl
@[simp] theorem State.setPort_masters (p : Nat) (x : Port) : (s.setPort p x).masters = s.masters := rfl
@[simp] theorem State.setPort_rxPts (p : Nat) (x : Port) : (s.setPort p x).rxPts = s.rxPts := rfl
@[simp] theorem State.setPort_pubIn (p : Nat) (x : Port) : (s.setPort p x).pubIn = s.pubIn := rfl
@[simp] theorem State.setPort_pubOut (p : Nat) (x : Port) : (s.setPort p x).pubOut = s.pubOut := rfl
@[simp] theorem State.setPort_outPts (p : Nat) (x : Port) : (s.setPort p x).outPts = s.outPts := rfl
@[simp] theorem State.setPort_wheel (p : Nat) (x : Port) : (s.setPort p x).wheel = s.wheel := rfl
@[simp] theorem State.setPort_sentActs (p : Nat) (x : Port) : (s.setPort p x).sentActs = s.sentActs := rfl
@[simp] theorem State.setPort_wheelStarts (p : Nat) (x : Port) : (s.setPort p x).wheelStarts = s.wheelStarts := rfl
@[simp] theorem State.setPort_fpLoaded (p : Nat) (x : Port) : (s.setPort p x).fpLoaded = s.fpLoaded := rfl
@[simp] theorem State.setPort_fm (p : Nat) (x : Port) : (s.setPort p x).fm = s.fm := rfl
@[simp] theorem State.setPort_acqUse (p : Nat) (x : Port) : (s.setPort p x).acqUse = s.acqUse := rfl
@[simp] theorem State.setPort_lh (p : Nat) (x : Port) : (s.setPort p x).lh = s.lh := rfl
@[simp] theorem State.setPort_mods (p : Nat) (x : Port) : (s.setPort p x).mods = s.mods := rfl
@[simp] theorem State.setPort_adcFlags (p : Nat) (x : Port) : (s.setPort p x).adcFlags = s.adcFlags := rfl
@[simp] theorem State.setPort_out (p : Nat) (x : Port) : (s.setPort p x).out = s.out := rfl
@[simp] theorem State.setPort_placed (p : Nat) (x : Port) : (s.setPort p x).placed = s.placed := rfl
@[simp] theorem State.setPort_mram (p : Nat) (x : Port) : (s.setPort p x).mram = s.mram := rfl
@[simp] theorem State.setPort_sessions (p : Nat) (x : Port) : (s.setPort p x).sessions = s.sessions := rfl
@[simp] theorem State.setPort_uplink (p : Nat) (x : Port) : (s.setPort p x).uplink = s.uplink := rfl
@[simp] theorem State.setPort_cans (p : Nat) (x : Port) : (s.setPort p x).cans = s.cans := rfl
@[simp] theorem State.setPort_power_ (p : Nat) (x : Port) : (s.setPort p x).power_ = s.power_ := rfl
@[simp] theorem State.setPort_boot (p : Nat) (x : Port) : (s.setPort p x).boot = s.boot := rfl
@[simp] theorem State.setPort_ageing (p : Nat) (x : Port) : (s.setPort p x).ageing = s.ageing := rfl
@[simp] theorem State.setPort_free (p : Nat) (x : Port) : (s.setPort p x).free = s.free := rfl
@[simp] theorem State.setPort_pending (p : Nat) (x : Port) : (s.setPort p x).pending = s.pending := rfl
@[simp] theorem State.setPort_ports (p : Nat) (x : Port) : (s.setPort p x).ports = SMap.put s.ports {} p x := rfl
@[simp] theorem State.rd_setPort (p : Nat) (x : Port) (j : Nat) : (s.setPort p x).rd j = s.rd j := rfl
@[simp] theorem State.cf_setPort (p : Nat) (x : Port) (j : Nat) : (s.setPort p x).cf j = s.cf j := rfl
@[simp] theorem State.rdB_setPort (p : Nat) (x : Port) (j : Nat) : (s.setPort p x).rdB j = s.rdB j := rfl
@[simp] theorem State.island_setPort (p : Nat) (x : Port) (j : Nat) : (s.setPort p x).island j = s.island j := rfl
@[simp] theorem State.axis_setPort (p : Nat) (x : Port) (j : Nat) : (s.setPort p x).axis j = s.axis j := rfl
@[simp] theorem State.master_setPort (p : Nat) (x : Port) (j : Nat) : (s.setPort p x).master j = s.master j := rfl
@[simp] theorem State.enc_setPort (p : Nat) (x : Port) (j : Nat) : (s.setPort p x).enc j = s.enc j := rfl

/-! ### setIsland -/

@[simp] theorem State.setIsland_clk (n : Nat) (x : Island) : (s.setIsland n x).clk = s.clk := rfl
@[simp] theorem State.setIsland_od (n : Nat) (x : Island) : (s.setIsland n x).od = s.od := rfl
@[simp] theorem State.setIsland_odB (n : Nat) (x : Island) : (s.setIsland n x).odB = s.odB := rfl
@[simp] theorem State.setIsland_act (n : Nat) (x : Island) : (s.setIsland n x).act = s.act := rfl
@[simp] theorem State.setIsland_com (n : Nat) (x : Island) : (s.setIsland n x).com = s.com := rfl
@[simp] theorem State.setIsland_raised (n : Nat) (x : Island) : (s.setIsland n x).raised = s.raised := rfl
@[simp] theorem State.setIsland_channels (n : Nat) (x : Island) : (s.setIsland n x).channels = s.channels := rfl
@[simp] theorem State.setIsland_recorder (n : Nat) (x : Island) : (s.setIsland n x).recorder = s.recorder := rfl
@[simp] theorem State.setIsland_counters (n : Nat) (x : Island) : (s.setIsland n x).counters = s.counters := rfl
@[simp] theorem State.setIsland_acq (n : Nat) (x : Island) : (s.setIsland n x).acq = s.acq := rfl
@[simp] theorem State.setIsland_traces (n : Nat) (x : Island) : (s.setIsland n x).traces = s.traces := rfl
@[simp] theorem State.setIsland_ports (n : Nat) (x : Island) : (s.setIsland n x).ports = s.ports := rfl
@[simp] theorem State.setIsland_net (n : Nat) (x : Island) : (s.setIsland n x).net = s.net := rfl
@[simp] theorem State.setIsland_dual (n : Nat) (x : Island) : (s.setIsland n x).dual = s.dual := rfl
@[simp] theorem State.setIsland_ferry (n : Nat) (x : Island) : (s.setIsland n x).ferry = s.ferry := rfl
@[simp] theorem State.setIsland_axes (n : Nat) (x : Island) : (s.setIsland n x).axes = s.axes := rfl
@[simp] theorem State.setIsland_encs (n : Nat) (x : Island) : (s.setIsland n x).encs = s.encs := rfl
@[simp] theorem State.setIsland_masters (n : Nat) (x : Island) : (s.setIsland n x).masters = s.masters := rfl
@[simp] theorem State.setIsland_rxPts (n : Nat) (x : Island) : (s.setIsland n x).rxPts = s.rxPts := rfl
@[simp] theorem State.setIsland_pubIn (n : Nat) (x : Island) : (s.setIsland n x).pubIn = s.pubIn := rfl
@[simp] theorem State.setIsland_pubOut (n : Nat) (x : Island) : (s.setIsland n x).pubOut = s.pubOut := rfl
@[simp] theorem State.setIsland_outPts (n : Nat) (x : Island) : (s.setIsland n x).outPts = s.outPts := rfl
@[simp] theorem State.setIsland_wheel (n : Nat) (x : Island) : (s.setIsland n x).wheel = s.wheel := rfl
@[simp] theorem State.setIsland_sentActs (n : Nat) (x : Island) : (s.setIsland n x).sentActs = s.sentActs := rfl
@[simp] theorem State.setIsland_wheelStarts (n : Nat) (x : Island) : (s.setIsland n x).wheelStarts = s.wheelStarts := rfl
@[simp] theorem State.setIsland_fpLoaded (n : Nat) (x : Island) : (s.setIsland n x).fpLoaded = s.fpLoaded := rfl
@[simp] theorem State.setIsland_fm (n : Nat) (x : Island) : (s.setIsland n x).fm = s.fm := rfl
@[simp] theorem State.setIsland_acqUse (n : Nat) (x : Island) : (s.setIsland n x).acqUse = s.acqUse := rfl
@[simp] theorem State.setIsland_lh (n : Nat) (x : Island) : (s.setIsland n x).lh = s.lh := rfl
@[simp] theorem State.setIsland_mods (n : Nat) (x : Island) : (s.setIsland n x).mods = s.mods := rfl
@[simp] theorem State.setIsland_adcFlags (n : Nat) (x : Island) : (s.setIsland n x).adcFlags = s.adcFlags := rfl
@[simp] theorem State.setIsland_out (n : Nat) (x : Island) : (s.setIsland n x).out = s.out := rfl
@[simp] theorem State.setIsland_placed (n : Nat) (x : Island) : (s.setIsland n x).placed = s.placed := rfl
@[simp] theorem State.setIsland_mram (n : Nat) (x : Island) : (s.setIsland n x).mram = s.mram := rfl
@[simp] theorem State.setIsland_sessions (n : Nat) (x : Island) : (s.setIsland n x).sessions = s.sessions := rfl
@[simp] theorem State.setIsland_uplink (n : Nat) (x : Island) : (s.setIsland n x).uplink = s.uplink := rfl
@[simp] theorem State.setIsland_cans (n : Nat) (x : Island) : (s.setIsland n x).cans = s.cans := rfl
@[simp] theorem State.setIsland_power_ (n : Nat) (x : Island) : (s.setIsland n x).power_ = s.power_ := rfl
@[simp] theorem State.setIsland_boot (n : Nat) (x : Island) : (s.setIsland n x).boot = s.boot := rfl
@[simp] theorem State.setIsland_ageing (n : Nat) (x : Island) : (s.setIsland n x).ageing = s.ageing := rfl
@[simp] theorem State.setIsland_free (n : Nat) (x : Island) : (s.setIsland n x).free = s.free := rfl
@[simp] theorem State.setIsland_pending (n : Nat) (x : Island) : (s.setIsland n x).pending = s.pending := rfl
@[simp] theorem State.setIsland_islands (n : Nat) (x : Island) : (s.setIsland n x).islands = SMap.put s.islands {} n x := rfl
@[simp] theorem State.rd_setIsland (n : Nat) (x : Island) (j : Nat) : (s.setIsland n x).rd j = s.rd j := rfl
@[simp] theorem State.cf_setIsland (n : Nat) (x : Island) (j : Nat) : (s.setIsland n x).cf j = s.cf j := rfl
@[simp] theorem State.rdB_setIsland (n : Nat) (x : Island) (j : Nat) : (s.setIsland n x).rdB j = s.rdB j := rfl
@[simp] theorem State.port_setIsland (n : Nat) (x : Island) (j : Nat) : (s.setIsland n x).port j = s.port j := rfl
@[simp] theorem State.axis_setIsland (n : Nat) (x : Island) (j : Nat) : (s.setIsland n x).axis j = s.axis j := rfl
@[simp] theorem State.master_setIsland (n : Nat) (x : Island) (j : Nat) : (s.setIsland n x).master j = s.master j := rfl
@[simp] theorem State.enc_setIsland (n : Nat) (x : Island) (j : Nat) : (s.setIsland n x).enc j = s.enc j := rfl

/-! ### setAxis -/

@[simp] theorem State.setAxis_clk (a : Nat) (x : Axis) : (s.setAxis a x).clk = s.clk := rfl
@[simp] theorem State.setAxis_od (a : Nat) (x : Axis) : (s.setAxis a x).od = s.od := rfl
@[simp] theorem State.setAxis_odB (a : Nat) (x : Axis) : (s.setAxis a x).odB = s.odB := rfl
@[simp] theorem State.setAxis_act (a : Nat) (x : Axis) : (s.setAxis a x).act = s.act := rfl
@[simp] theorem State.setAxis_com (a : Nat) (x : Axis) : (s.setAxis a x).com = s.com := rfl
@[simp] theorem State.setAxis_raised (a : Nat) (x : Axis) : (s.setAxis a x).raised = s.raised := rfl
@[simp] theorem State.setAxis_channels (a : Nat) (x : Axis) : (s.setAxis a x).channels = s.channels := rfl
@[simp] theorem State.setAxis_recorder (a : Nat) (x : Axis) : (s.setAxis a x).recorder = s.recorder := rfl
@[simp] theorem State.setAxis_counters (a : Nat) (x : Axis) : (s.setAxis a x).counters = s.counters := rfl
@[simp] theorem State.setAxis_acq (a : Nat) (x : Axis) : (s.setAxis a x).acq = s.acq := rfl
@[simp] theorem State.setAxis_traces (a : Nat) (x : Axis) : (s.setAxis a x).traces = s.traces := rfl
@[simp] theorem State.setAxis_ports (a : Nat) (x : Axis) : (s.setAxis a x).ports = s.ports := rfl
@[simp] theorem State.setAxis_islands (a : Nat) (x : Axis) : (s.setAxis a x).islands = s.islands := rfl
@[simp] theorem State.setAxis_net (a : Nat) (x : Axis) : (s.setAxis a x).net = s.net := rfl
@[simp] theorem State.setAxis_dual (a : Nat) (x : Axis) : (s.setAxis a x).dual = s.dual := rfl
@[simp] theorem State.setAxis_ferry (a : Nat) (x : Axis) : (s.setAxis a x).ferry = s.ferry := rfl
@[simp] theorem State.setAxis_encs (a : Nat) (x : Axis) : (s.setAxis a x).encs = s.encs := rfl
@[simp] theorem State.setAxis_masters (a : Nat) (x : Axis) : (s.setAxis a x).masters = s.masters := rfl
@[simp] theorem State.setAxis_rxPts (a : Nat) (x : Axis) : (s.setAxis a x).rxPts = s.rxPts := rfl
@[simp] theorem State.setAxis_pubIn (a : Nat) (x : Axis) : (s.setAxis a x).pubIn = s.pubIn := rfl
@[simp] theorem State.setAxis_pubOut (a : Nat) (x : Axis) : (s.setAxis a x).pubOut = s.pubOut := rfl
@[simp] theorem State.setAxis_outPts (a : Nat) (x : Axis) : (s.setAxis a x).outPts = s.outPts := rfl
@[simp] theorem State.setAxis_wheel (a : Nat) (x : Axis) : (s.setAxis a x).wheel = s.wheel := rfl
@[simp] theorem State.setAxis_sentActs (a : Nat) (x : Axis) : (s.setAxis a x).sentActs = s.sentActs := rfl
@[simp] theorem State.setAxis_wheelStarts (a : Nat) (x : Axis) : (s.setAxis a x).wheelStarts = s.wheelStarts := rfl
@[simp] theorem State.setAxis_fpLoaded (a : Nat) (x : Axis) : (s.setAxis a x).fpLoaded = s.fpLoaded := rfl
@[simp] theorem State.setAxis_fm (a : Nat) (x : Axis) : (s.setAxis a x).fm = s.fm := rfl
@[simp] theorem State.setAxis_acqUse (a : Nat) (x : Axis) : (s.setAxis a x).acqUse = s.acqUse := rfl
@[simp] theorem State.setAxis_lh (a : Nat) (x : Axis) : (s.setAxis a x).lh = s.lh := rfl
@[simp] theorem State.setAxis_mods (a : Nat) (x : Axis) : (s.setAxis a x).mods = s.mods := rfl
@[simp] theorem State.setAxis_adcFlags (a : Nat) (x : Axis) : (s.setAxis a x).adcFlags = s.adcFlags := rfl
@[simp] theorem State.setAxis_out (a : Nat) (x : Axis) : (s.setAxis a x).out = s.out := rfl
@[simp] theorem State.setAxis_placed (a : Nat) (x : Axis) : (s.setAxis a x).placed = s.placed := rfl
@[simp] theorem State.setAxis_mram (a : Nat) (x : Axis) : (s.setAxis a x).mram = s.mram := rfl
@[simp] theorem State.setAxis_sessions (a : Nat) (x : Axis) : (s.setAxis a x).sessions = s.sessions := rfl
@[simp] theorem State.setAxis_uplink (a : Nat) (x : Axis) : (s.setAxis a x).uplink = s.uplink := rfl
@[simp] theorem State.setAxis_cans (a : Nat) (x : Axis) : (s.setAxis a x).cans = s.cans := rfl
@[simp] theorem State.setAxis_power_ (a : Nat) (x : Axis) : (s.setAxis a x).power_ = s.power_ := rfl
@[simp] theorem State.setAxis_boot (a : Nat) (x : Axis) : (s.setAxis a x).boot = s.boot := rfl
@[simp] theorem State.setAxis_ageing (a : Nat) (x : Axis) : (s.setAxis a x).ageing = s.ageing := rfl
@[simp] theorem State.setAxis_free (a : Nat) (x : Axis) : (s.setAxis a x).free = s.free := rfl
@[simp] theorem State.setAxis_pending (a : Nat) (x : Axis) : (s.setAxis a x).pending = s.pending := rfl
@[simp] theorem State.setAxis_axes (a : Nat) (x : Axis) : (s.setAxis a x).axes = SMap.put s.axes {} a x := rfl
@[simp] theorem State.rd_setAxis (a : Nat) (x : Axis) (j : Nat) : (s.setAxis a x).rd j = s.rd j := rfl
@[simp] theorem State.cf_setAxis (a : Nat) (x : Axis) (j : Nat) : (s.setAxis a x).cf j = s.cf j := rfl
@[simp] theorem State.rdB_setAxis (a : Nat) (x : Axis) (j : Nat) : (s.setAxis a x).rdB j = s.rdB j := rfl
@[simp] theorem State.port_setAxis (a : Nat) (x : Axis) (j : Nat) : (s.setAxis a x).port j = s.port j := rfl
@[simp] theorem State.island_setAxis (a : Nat) (x : Axis) (j : Nat) : (s.setAxis a x).island j = s.island j := rfl
@[simp] theorem State.master_setAxis (a : Nat) (x : Axis) (j : Nat) : (s.setAxis a x).master j = s.master j := rfl
@[simp] theorem State.enc_setAxis (a : Nat) (x : Axis) (j : Nat) : (s.setAxis a x).enc j = s.enc j := rfl

/-! ### setMaster -/

@[simp] theorem State.setMaster_clk (m : Nat) (x : Master) : (s.setMaster m x).clk = s.clk := rfl
@[simp] theorem State.setMaster_od (m : Nat) (x : Master) : (s.setMaster m x).od = s.od := rfl
@[simp] theorem State.setMaster_odB (m : Nat) (x : Master) : (s.setMaster m x).odB = s.odB := rfl
@[simp] theorem State.setMaster_act (m : Nat) (x : Master) : (s.setMaster m x).act = s.act := rfl
@[simp] theorem State.setMaster_com (m : Nat) (x : Master) : (s.setMaster m x).com = s.com := rfl
@[simp] theorem State.setMaster_raised (m : Nat) (x : Master) : (s.setMaster m x).raised = s.raised := rfl
@[simp] theorem State.setMaster_channels (m : Nat) (x : Master) : (s.setMaster m x).channels = s.channels := rfl
@[simp] theorem State.setMaster_recorder (m : Nat) (x : Master) : (s.setMaster m x).recorder = s.recorder := rfl
@[simp] theorem State.setMaster_counters (m : Nat) (x : Master) : (s.setMaster m x).counters = s.counters := rfl
@[simp] theorem State.setMaster_acq (m : Nat) (x : Master) : (s.setMaster m x).acq = s.acq := rfl
@[simp] theorem State.setMaster_traces (m : Nat) (x : Master) : (s.setMaster m x).traces = s.traces := rfl
@[simp] theorem State.setMaster_ports (m : Nat) (x : Master) : (s.setMaster m x).ports = s.ports := rfl
@[simp] theorem State.setMaster_islands (m : Nat) (x : Master) : (s.setMaster m x).islands = s.islands := rfl
@[simp] theorem State.setMaster_net (m : Nat) (x : Master) : (s.setMaster m x).net = s.net := rfl
@[simp] theorem State.setMaster_dual (m : Nat) (x : Master) : (s.setMaster m x).dual = s.dual := rfl
@[simp] theorem State.setMaster_ferry (m : Nat) (x : Master) : (s.setMaster m x).ferry = s.ferry := rfl
@[simp] theorem State.setMaster_axes (m : Nat) (x : Master) : (s.setMaster m x).axes = s.axes := rfl
@[simp] theorem State.setMaster_encs (m : Nat) (x : Master) : (s.setMaster m x).encs = s.encs := rfl
@[simp] theorem State.setMaster_rxPts (m : Nat) (x : Master) : (s.setMaster m x).rxPts = s.rxPts := rfl
@[simp] theorem State.setMaster_pubIn (m : Nat) (x : Master) : (s.setMaster m x).pubIn = s.pubIn := rfl
@[simp] theorem State.setMaster_pubOut (m : Nat) (x : Master) : (s.setMaster m x).pubOut = s.pubOut := rfl
@[simp] theorem State.setMaster_outPts (m : Nat) (x : Master) : (s.setMaster m x).outPts = s.outPts := rfl
@[simp] theorem State.setMaster_wheel (m : Nat) (x : Master) : (s.setMaster m x).wheel = s.wheel := rfl
@[simp] theorem State.setMaster_sentActs (m : Nat) (x : Master) : (s.setMaster m x).sentActs = s.sentActs := rfl
@[simp] theorem State.setMaster_wheelStarts (m : Nat) (x : Master) : (s.setMaster m x).wheelStarts = s.wheelStarts := rfl
@[simp] theorem State.setMaster_fpLoaded (m : Nat) (x : Master) : (s.setMaster m x).fpLoaded = s.fpLoaded := rfl
@[simp] theorem State.setMaster_fm (m : Nat) (x : Master) : (s.setMaster m x).fm = s.fm := rfl
@[simp] theorem State.setMaster_acqUse (m : Nat) (x : Master) : (s.setMaster m x).acqUse = s.acqUse := rfl
@[simp] theorem State.setMaster_lh (m : Nat) (x : Master) : (s.setMaster m x).lh = s.lh := rfl
@[simp] theorem State.setMaster_mods (m : Nat) (x : Master) : (s.setMaster m x).mods = s.mods := rfl
@[simp] theorem State.setMaster_adcFlags (m : Nat) (x : Master) : (s.setMaster m x).adcFlags = s.adcFlags := rfl
@[simp] theorem State.setMaster_out (m : Nat) (x : Master) : (s.setMaster m x).out = s.out := rfl
@[simp] theorem State.setMaster_placed (m : Nat) (x : Master) : (s.setMaster m x).placed = s.placed := rfl
@[simp] theorem State.setMaster_mram (m : Nat) (x : Master) : (s.setMaster m x).mram = s.mram := rfl
@[simp] theorem State.setMaster_sessions (m : Nat) (x : Master) : (s.setMaster m x).sessions = s.sessions := rfl
@[simp] theorem State.setMaster_uplink (m : Nat) (x : Master) : (s.setMaster m x).uplink = s.uplink := rfl
@[simp] theorem State.setMaster_cans (m : Nat) (x : Master) : (s.setMaster m x).cans = s.cans := rfl
@[simp] theorem State.setMaster_power_ (m : Nat) (x : Master) : (s.setMaster m x).power_ = s.power_ := rfl
@[simp] theorem State.setMaster_boot (m : Nat) (x : Master) : (s.setMaster m x).boot = s.boot := rfl
@[simp] theorem State.setMaster_ageing (m : Nat) (x : Master) : (s.setMaster m x).ageing = s.ageing := rfl
@[simp] theorem State.setMaster_free (m : Nat) (x : Master) : (s.setMaster m x).free = s.free := rfl
@[simp] theorem State.setMaster_pending (m : Nat) (x : Master) : (s.setMaster m x).pending = s.pending := rfl
@[simp] theorem State.setMaster_masters (m : Nat) (x : Master) : (s.setMaster m x).masters = SMap.put s.masters {} m x := rfl
@[simp] theorem State.rd_setMaster (m : Nat) (x : Master) (j : Nat) : (s.setMaster m x).rd j = s.rd j := rfl
@[simp] theorem State.cf_setMaster (m : Nat) (x : Master) (j : Nat) : (s.setMaster m x).cf j = s.cf j := rfl
@[simp] theorem State.rdB_setMaster (m : Nat) (x : Master) (j : Nat) : (s.setMaster m x).rdB j = s.rdB j := rfl
@[simp] theorem State.port_setMaster (m : Nat) (x : Master) (j : Nat) : (s.setMaster m x).port j = s.port j := rfl
@[simp] theorem State.island_setMaster (m : Nat) (x : Master) (j : Nat) : (s.setMaster m x).island j = s.island j := rfl
@[simp] theorem State.axis_setMaster (m : Nat) (x : Master) (j : Nat) : (s.setMaster m x).axis j = s.axis j := rfl
@[simp] theorem State.enc_setMaster (m : Nat) (x : Master) (j : Nat) : (s.setMaster m x).enc j = s.enc j := rfl

/-! ### setEnc -/

@[simp] theorem State.setEnc_clk (c : Nat) (x : Enc) : (s.setEnc c x).clk = s.clk := rfl
@[simp] theorem State.setEnc_od (c : Nat) (x : Enc) : (s.setEnc c x).od = s.od := rfl
@[simp] theorem State.setEnc_odB (c : Nat) (x : Enc) : (s.setEnc c x).odB = s.odB := rfl
@[simp] theorem State.setEnc_act (c : Nat) (x : Enc) : (s.setEnc c x).act = s.act := rfl
@[simp] theorem State.setEnc_com (c : Nat) (x : Enc) : (s.setEnc c x).com = s.com := rfl
@[simp] theorem State.setEnc_raised (c : Nat) (x : Enc) : (s.setEnc c x).raised = s.raised := rfl
@[simp] theorem State.setEnc_channels (c : Nat) (x : Enc) : (s.setEnc c x).channels = s.channels := rfl
@[simp] theorem State.setEnc_recorder (c : Nat) (x : Enc) : (s.setEnc c x).recorder = s.recorder := rfl
@[simp] theorem State.setEnc_counters (c : Nat) (x : Enc) : (s.setEnc c x).counters = s.counters := rfl
@[simp] theorem State.setEnc_acq (c : Nat) (x : Enc) : (s.setEnc c x).acq = s.acq := rfl
@[simp] theorem State.setEnc_traces (c : Nat) (x : Enc) : (s.setEnc c x).traces = s.traces := rfl
@[simp] theorem State.setEnc_ports (c : Nat) (x : Enc) : (s.setEnc c x).ports = s.ports := rfl
@[simp] theorem State.setEnc_islands (c : Nat) (x : Enc) : (s.setEnc c x).islands = s.islands := rfl
@[simp] theorem State.setEnc_net (c : Nat) (x : Enc) : (s.setEnc c x).net = s.net := rfl
@[simp] theorem State.setEnc_dual (c : Nat) (x : Enc) : (s.setEnc c x).dual = s.dual := rfl
@[simp] theorem State.setEnc_ferry (c : Nat) (x : Enc) : (s.setEnc c x).ferry = s.ferry := rfl
@[simp] theorem State.setEnc_axes (c : Nat) (x : Enc) : (s.setEnc c x).axes = s.axes := rfl
@[simp] theorem State.setEnc_masters (c : Nat) (x : Enc) : (s.setEnc c x).masters = s.masters := rfl
@[simp] theorem State.setEnc_rxPts (c : Nat) (x : Enc) : (s.setEnc c x).rxPts = s.rxPts := rfl
@[simp] theorem State.setEnc_pubIn (c : Nat) (x : Enc) : (s.setEnc c x).pubIn = s.pubIn := rfl
@[simp] theorem State.setEnc_pubOut (c : Nat) (x : Enc) : (s.setEnc c x).pubOut = s.pubOut := rfl
@[simp] theorem State.setEnc_outPts (c : Nat) (x : Enc) : (s.setEnc c x).outPts = s.outPts := rfl
@[simp] theorem State.setEnc_wheel (c : Nat) (x : Enc) : (s.setEnc c x).wheel = s.wheel := rfl
@[simp] theorem State.setEnc_sentActs (c : Nat) (x : Enc) : (s.setEnc c x).sentActs = s.sentActs := rfl
@[simp] theorem State.setEnc_wheelStarts (c : Nat) (x : Enc) : (s.setEnc c x).wheelStarts = s.wheelStarts := rfl
@[simp] theorem State.setEnc_fpLoaded (c : Nat) (x : Enc) : (s.setEnc c x).fpLoaded = s.fpLoaded := rfl
@[simp] theorem State.setEnc_fm (c : Nat) (x : Enc) : (s.setEnc c x).fm = s.fm := rfl
@[simp] theorem State.setEnc_acqUse (c : Nat) (x : Enc) : (s.setEnc c x).acqUse = s.acqUse := rfl
@[simp] theorem State.setEnc_lh (c : Nat) (x : Enc) : (s.setEnc c x).lh = s.lh := rfl
@[simp] theorem State.setEnc_mods (c : Nat) (x : Enc) : (s.setEnc c x).mods = s.mods := rfl
@[simp] theorem State.setEnc_adcFlags (c : Nat) (x : Enc) : (s.setEnc c x).adcFlags = s.adcFlags := rfl
@[simp] theorem State.setEnc_out (c : Nat) (x : Enc) : (s.setEnc c x).out = s.out := rfl
@[simp] theorem State.setEnc_placed (c : Nat) (x : Enc) : (s.setEnc c x).placed = s.placed := rfl
@[simp] theorem State.setEnc_mram (c : Nat) (x : Enc) : (s.setEnc c x).mram = s.mram := rfl
@[simp] theorem State.setEnc_sessions (c : Nat) (x : Enc) : (s.setEnc c x).sessions = s.sessions := rfl
@[simp] theorem State.setEnc_uplink (c : Nat) (x : Enc) : (s.setEnc c x).uplink = s.uplink := rfl
@[simp] theorem State.setEnc_cans (c : Nat) (x : Enc) : (s.setEnc c x).cans = s.cans := rfl
@[simp] theorem State.setEnc_power_ (c : Nat) (x : Enc) : (s.setEnc c x).power_ = s.power_ := rfl
@[simp] theorem State.setEnc_boot (c : Nat) (x : Enc) : (s.setEnc c x).boot = s.boot := rfl
@[simp] theorem State.setEnc_ageing (c : Nat) (x : Enc) : (s.setEnc c x).ageing = s.ageing := rfl
@[simp] theorem State.setEnc_free (c : Nat) (x : Enc) : (s.setEnc c x).free = s.free := rfl
@[simp] theorem State.setEnc_pending (c : Nat) (x : Enc) : (s.setEnc c x).pending = s.pending := rfl
@[simp] theorem State.setEnc_encs (c : Nat) (x : Enc) : (s.setEnc c x).encs = SMap.put s.encs {} c x := rfl
@[simp] theorem State.rd_setEnc (c : Nat) (x : Enc) (j : Nat) : (s.setEnc c x).rd j = s.rd j := rfl
@[simp] theorem State.cf_setEnc (c : Nat) (x : Enc) (j : Nat) : (s.setEnc c x).cf j = s.cf j := rfl
@[simp] theorem State.rdB_setEnc (c : Nat) (x : Enc) (j : Nat) : (s.setEnc c x).rdB j = s.rdB j := rfl
@[simp] theorem State.port_setEnc (c : Nat) (x : Enc) (j : Nat) : (s.setEnc c x).port j = s.port j := rfl
@[simp] theorem State.island_setEnc (c : Nat) (x : Enc) (j : Nat) : (s.setEnc c x).island j = s.island j := rfl
@[simp] theorem State.axis_setEnc (c : Nat) (x : Enc) (j : Nat) : (s.setEnc c x).axis j = s.axis j := rfl
@[simp] theorem State.master_setEnc (c : Nat) (x : Enc) (j : Nat) : (s.setEnc c x).master j = s.master j := rfl

/-! ### updFerry -/

@[simp] theorem State.updFerry_clk (f : Ferry → Ferry) : (s.updFerry f).clk = s.clk := rfl
@[simp] theorem State.updFerry_od (f : Ferry → Ferry) : (s.updFerry f).od = s.od := rfl
@[simp] theorem State.updFerry_odB (f : Ferry → Ferry) : (s.updFerry f).odB = s.odB := rfl
@[simp] theorem State.updFerry_act (f : Ferry → Ferry) : (s.updFerry f).act = s.act := rfl
@[simp] theorem State.updFerry_com (f : Ferry → Ferry) : (s.updFerry f).com = s.com := rfl
@[simp] theorem State.updFerry_raised (f : Ferry → Ferry) : (s.updFerry f).raised = s.raised := rfl
@[simp] theorem State.updFerry_channels (f : Ferry → Ferry) : (s.updFerry f).channels = s.channels := rfl
@[simp] theorem State.updFerry_recorder (f : Ferry → Ferry) : (s.updFerry f).recorder = s.recorder := rfl
@[simp] theorem State.updFerry_counters (f : Ferry → Ferry) : (s.updFerry f).counters = s.counters := rfl
@[simp] theorem State.updFerry_acq (f : Ferry → Ferry) : (s.updFerry f).acq = s.acq := rfl
@[simp] theorem State.updFerry_traces (f : Ferry → Ferry) : (s.updFerry f).traces = s.traces := rfl
@[simp] theorem State.updFerry_ports (f : Ferry → Ferry) : (s.updFerry f).ports = s.ports := rfl
@[simp] theorem State.updFerry_islands (f : Ferry → Ferry) : (s.updFerry f).islands = s.islands := rfl
@[simp] theorem State.updFerry_net (f : Ferry → Ferry) : (s.updFerry f).net = s.net := rfl
@[simp] theorem State.updFerry_dual (f : Ferry → Ferry) : (s.updFerry f).dual = s.dual := rfl
@[simp] theorem State.updFerry_axes (f : Ferry → Ferry) : (s.updFerry f).axes = s.axes := rfl
@[simp] theorem State.updFerry_encs (f : Ferry → Ferry) : (s.updFerry f).encs = s.encs := rfl
@[simp] theorem State.updFerry_masters (f : Ferry → Ferry) : (s.updFerry f).masters = s.masters := rfl
@[simp] theorem State.updFerry_rxPts (f : Ferry → Ferry) : (s.updFerry f).rxPts = s.rxPts := rfl
@[simp] theorem State.updFerry_pubIn (f : Ferry → Ferry) : (s.updFerry f).pubIn = s.pubIn := rfl
@[simp] theorem State.updFerry_pubOut (f : Ferry → Ferry) : (s.updFerry f).pubOut = s.pubOut := rfl
@[simp] theorem State.updFerry_outPts (f : Ferry → Ferry) : (s.updFerry f).outPts = s.outPts := rfl
@[simp] theorem State.updFerry_wheel (f : Ferry → Ferry) : (s.updFerry f).wheel = s.wheel := rfl
@[simp] theorem State.updFerry_sentActs (f : Ferry → Ferry) : (s.updFerry f).sentActs = s.sentActs := rfl
@[simp] theorem State.updFerry_wheelStarts (f : Ferry → Ferry) : (s.updFerry f).wheelStarts = s.wheelStarts := rfl
@[simp] theorem State.updFerry_fpLoaded (f : Ferry → Ferry) : (s.updFerry f).fpLoaded = s.fpLoaded := rfl
@[simp] theorem State.updFerry_fm (f : Ferry → Ferry) : (s.updFerry f).fm = s.fm := rfl
@[simp] theorem State.updFerry_acqUse (f : Ferry → Ferry) : (s.updFerry f).acqUse = s.acqUse := rfl
@[simp] theorem State.updFerry_lh (f : Ferry → Ferry) : (s.updFerry f).lh = s.lh := rfl
@[simp] theorem State.updFerry_mods (f : Ferry → Ferry) : (s.updFerry f).mods = s.mods := rfl
@[simp] theorem State.updFerry_adcFlags (f : Ferry → Ferry) : (s.updFerry f).adcFlags = s.adcFlags := rfl
@[simp] theorem State.updFerry_out (f : Ferry → Ferry) : (s.updFerry f).out = s.out := rfl
@[simp] theorem State.updFerry_placed (f : Ferry → Ferry) : (s.updFerry f).placed = s.placed := rfl
@[simp] theorem State.updFerry_mram (f : Ferry → Ferry) : (s.updFerry f).mram = s.mram := rfl
@[simp] theorem State.updFerry_sessions (f : Ferry → Ferry) : (s.updFerry f).sessions = s.sessions := rfl
@[simp] theorem State.updFerry_uplink (f : Ferry → Ferry) : (s.updFerry f).uplink = s.uplink := rfl
@[simp] theorem State.updFerry_cans (f : Ferry → Ferry) : (s.updFerry f).cans = s.cans := rfl
@[simp] theorem State.updFerry_power_ (f : Ferry → Ferry) : (s.updFerry f).power_ = s.power_ := rfl
@[simp] theorem State.updFerry_boot (f : Ferry → Ferry) : (s.updFerry f).boot = s.boot := rfl
@[simp] theorem State.updFerry_ageing (f : Ferry → Ferry) : (s.updFerry f).ageing = s.ageing := rfl
@[simp] theorem State.updFerry_free (f : Ferry → Ferry) : (s.updFerry f).free = s.free := rfl
@[simp] theorem State.updFerry_pending (f : Ferry → Ferry) : (s.updFerry f).pending = s.pending := rfl
@[simp] theorem State.updFerry_ferry (f : Ferry → Ferry) : (s.updFerry f).ferry = f s.ferry := rfl
@[simp] theorem State.rd_updFerry (f : Ferry → Ferry) (j : Nat) : (s.updFerry f).rd j = s.rd j := rfl
@[simp] theorem State.cf_updFerry (f : Ferry → Ferry) (j : Nat) : (s.updFerry f).cf j = s.cf j := rfl
@[simp] theorem State.rdB_updFerry (f : Ferry → Ferry) (j : Nat) : (s.updFerry f).rdB j = s.rdB j := rfl
@[simp] theorem State.port_updFerry (f : Ferry → Ferry) (j : Nat) : (s.updFerry f).port j = s.port j := rfl
@[simp] theorem State.island_updFerry (f : Ferry → Ferry) (j : Nat) : (s.updFerry f).island j = s.island j := rfl
@[simp] theorem State.axis_updFerry (f : Ferry → Ferry) (j : Nat) : (s.updFerry f).axis j = s.axis j := rfl
@[simp] theorem State.master_updFerry (f : Ferry → Ferry) (j : Nat) : (s.updFerry f).master j = s.master j := rfl
@[simp] theorem State.enc_updFerry (f : Ferry → Ferry) (j : Nat) : (s.updFerry f).enc j = s.enc j := rfl

/-! ### updClk -/

@[simp] theorem State.updClk_od (f : Clk → Clk) : (s.updClk f).od = s.od := rfl
@[simp] theorem State.updClk_odB (f : Clk → Clk) : (s.updClk f).odB = s.odB := rfl
@[simp] theorem State.updClk_act (f : Clk → Clk) : (s.updClk f).act = s.act := rfl
@[simp] theorem State.updClk_com (f : Clk → Clk) : (s.updClk f).com = s.com := rfl
@[simp] theorem State.updClk_raised (f : Clk → Clk) : (s.updClk f).raised = s.raised := rfl
@[simp] theorem State.updClk_channels (f : Clk → Clk) : (s.updClk f).channels = s.channels := rfl
@[simp] theorem State.updClk_recorder (f : Clk → Clk) : (s.updClk f).recorder = s.recorder := rfl
@[simp] theorem State.updClk_counters (f : Clk → Clk) : (s.updClk f).counters = s.counters := rfl
@[simp] theorem State.updClk_acq (f : Clk → Clk) : (s.updClk f).acq = s.acq := rfl
@[simp] theorem State.updClk_traces (f : Clk → Clk) : (s.updClk f).traces = s.traces := rfl
@[simp] theorem State.updClk_ports (f : Clk → Clk) : (s.updClk f).ports = s.ports := rfl
@[simp] theorem State.updClk_islands (f : Clk → Clk) : (s.updClk f).islands = s.islands := rfl
@[simp] theorem State.updClk_net (f : Clk → Clk) : (s.updClk f).net = s.net := rfl
@[simp] theorem State.updClk_dual (f : Clk → Clk) : (s.updClk f).dual = s.dual := rfl
@[simp] theorem State.updClk_ferry (f : Clk → Clk) : (s.updClk f).ferry = s.ferry := rfl
@[simp] theorem State.updClk_axes (f : Clk → Clk) : (s.updClk f).axes = s.axes := rfl
@[simp] theorem State.updClk_encs (f : Clk → Clk) : (s.updClk f).encs = s.encs := rfl
@[simp] theorem State.updClk_masters (f : Clk → Clk) : (s.updClk f).masters = s.masters := rfl
@[simp] theorem State.updClk_rxPts (f : Clk → Clk) : (s.updClk f).rxPts = s.rxPts := rfl
@[simp] theorem State.updClk_pubIn (f : Clk → Clk) : (s.updClk f).pubIn = s.pubIn := rfl
@[simp] theorem State.updClk_pubOut (f : Clk → Clk) : (s.updClk f).pubOut = s.pubOut := rfl
@[simp] theorem State.updClk_outPts (f : Clk → Clk) : (s.updClk f).outPts = s.outPts := rfl
@[simp] theorem State.updClk_wheel (f : Clk → Clk) : (s.updClk f).wheel = s.wheel := rfl
@[simp] theorem State.updClk_sentActs (f : Clk → Clk) : (s.updClk f).sentActs = s.sentActs := rfl
@[simp] theorem State.updClk_wheelStarts (f : Clk → Clk) : (s.updClk f).wheelStarts = s.wheelStarts := rfl
@[simp] theorem State.updClk_fpLoaded (f : Clk → Clk) : (s.updClk f).fpLoaded = s.fpLoaded := rfl
@[simp] theorem State.updClk_fm (f : Clk → Clk) : (s.updClk f).fm = s.fm := rfl
@[simp] theorem State.updClk_acqUse (f : Clk → Clk) : (s.updClk f).acqUse = s.acqUse := rfl
@[simp] theorem State.updClk_lh (f : Clk → Clk) : (s.updClk f).lh = s.lh := rfl
@[simp] theorem State.updClk_mods (f : Clk → Clk) : (s.updClk f).mods = s.mods := rfl
@[simp] theorem State.updClk_adcFlags (f : Clk → Clk) : (s.updClk f).adcFlags = s.adcFlags := rfl
@[simp] theorem State.updClk_out (f : Clk → Clk) : (s.updClk f).out = s.out := rfl
@[simp] theorem State.updClk_placed (f : Clk → Clk) : (s.updClk f).placed = s.placed := rfl
@[simp] theorem State.updClk_mram (f : Clk → Clk) : (s.updClk f).mram = s.mram := rfl
@[simp] theorem State.updClk_sessions (f : Clk → Clk) : (s.updClk f).sessions = s.sessions := rfl
@[simp] theorem State.updClk_uplink (f : Clk → Clk) : (s.updClk f).uplink = s.uplink := rfl
@[simp] theorem State.updClk_cans (f : Clk → Clk) : (s.updClk f).cans = s.cans := rfl
@[simp] theorem State.updClk_power_ (f : Clk → Clk) : (s.updClk f).power_ = s.power_ := rfl
@[simp] theorem State.updClk_boot (f : Clk → Clk) : (s.updClk f).boot = s.boot := rfl
@[simp] theorem State.updClk_ageing (f : Clk → Clk) : (s.updClk f).ageing = s.ageing := rfl
@[simp] theorem State.updClk_free (f : Clk → Clk) : (s.updClk f).free = s.free := rfl
@[simp] theorem State.updClk_pending (f : Clk → Clk) : (s.updClk f).pending = s.pending := rfl
@[simp] theorem State.updClk_clk (f : Clk → Clk) : (s.updClk f).clk = f s.clk := rfl
@[simp] theorem State.rd_updClk (f : Clk → Clk) (j : Nat) : (s.updClk f).rd j = s.rd j := rfl
@[simp] theorem State.cf_updClk (f : Clk → Clk) (j : Nat) : (s.updClk f).cf j = s.cf j := rfl
@[simp] theorem State.rdB_updClk (f : Clk → Clk) (j : Nat) : (s.updClk f).rdB j = s.rdB j := rfl
@[simp] theorem State.port_updClk (f : Clk → Clk) (j : Nat) : (s.updClk f).port j = s.port j := rfl
@[simp] theorem State.island_updClk (f : Clk → Clk) (j : Nat) : (s.updClk f).island j = s.island j := rfl
@[simp] theorem State.axis_updClk (f : Clk → Clk) (j : Nat) : (s.updClk f).axis j = s.axis j := rfl
@[simp] theorem State.master_updClk (f : Clk → Clk) (j : Nat) : (s.updClk f).master j = s.master j := rfl
@[simp] theorem State.enc_updClk (f : Clk → Clk) (j : Nat) : (s.updClk f).enc j = s.enc j := rfl

/-! ### updNet -/

@[simp] theorem State.updNet_clk (f : Net → Net) : (s.updNet f).clk = s.clk := rfl
@[simp] theorem State.updNet_od (f : Net → Net) : (s.updNet f).od = s.od := rfl
@[simp] theorem State.updNet_odB (f : Net → Net) : (s.updNet f).odB = s.odB := rfl
@[simp] theorem State.updNet_act (f : Net → Net) : (s.updNet f).act = s.act := rfl
@[simp] theorem State.updNet_com (f : Net → Net) : (s.updNet f).com = s.com := rfl
@[simp] theorem State.updNet_raised (f : Net → Net) : (s.updNet f).raised = s.raised := rfl
@[simp] theorem State.updNet_channels (f : Net → Net) : (s.updNet f).channels = s.channels := rfl
@[simp] theorem State.updNet_recorder (f : Net → Net) : (s.updNet f).recorder = s.recorder := rfl
@[simp] theorem State.updNet_counters (f : Net → Net) : (s.updNet f).counters = s.counters := rfl
@[simp] theorem State.updNet_acq (f : Net → Net) : (s.updNet f).acq = s.acq := rfl
@[simp] theorem State.updNet_traces (f : Net → Net) : (s.updNet f).traces = s.traces := rfl
@[simp] theorem State.updNet_ports (f : Net → Net) : (s.updNet f).ports = s.ports := rfl
@[simp] theorem State.updNet_islands (f : Net → Net) : (s.updNet f).islands = s.islands := rfl
@[simp] theorem State.updNet_dual (f : Net → Net) : (s.updNet f).dual = s.dual := rfl
@[simp] theorem State.updNet_ferry (f : Net → Net) : (s.updNet f).ferry = s.ferry := rfl
@[simp] theorem State.updNet_axes (f : Net → Net) : (s.updNet f).axes = s.axes := rfl
@[simp] theorem State.updNet_encs (f : Net → Net) : (s.updNet f).encs = s.encs := rfl
@[simp] theorem State.updNet_masters (f : Net → Net) : (s.updNet f).masters = s.masters := rfl
@[simp] theorem State.updNet_rxPts (f : Net → Net) : (s.updNet f).rxPts = s.rxPts := rfl
@[simp] theorem State.updNet_pubIn (f : Net → Net) : (s.updNet f).pubIn = s.pubIn := rfl
@[simp] theorem State.updNet_pubOut (f : Net → Net) : (s.updNet f).pubOut = s.pubOut := rfl
@[simp] theorem State.updNet_outPts (f : Net → Net) : (s.updNet f).outPts = s.outPts := rfl
@[simp] theorem State.updNet_wheel (f : Net → Net) : (s.updNet f).wheel = s.wheel := rfl
@[simp] theorem State.updNet_sentActs (f : Net → Net) : (s.updNet f).sentActs = s.sentActs := rfl
@[simp] theorem State.updNet_wheelStarts (f : Net → Net) : (s.updNet f).wheelStarts = s.wheelStarts := rfl
@[simp] theorem State.updNet_fpLoaded (f : Net → Net) : (s.updNet f).fpLoaded = s.fpLoaded := rfl
@[simp] theorem State.updNet_fm (f : Net → Net) : (s.updNet f).fm = s.fm := rfl
@[simp] theorem State.updNet_acqUse (f : Net → Net) : (s.updNet f).acqUse = s.acqUse := rfl
@[simp] theorem State.updNet_lh (f : Net → Net) : (s.updNet f).lh = s.lh := rfl
@[simp] theorem State.updNet_mods (f : Net → Net) : (s.updNet f).mods = s.mods := rfl
@[simp] theorem State.updNet_adcFlags (f : Net → Net) : (s.updNet f).adcFlags = s.adcFlags := rfl
@[simp] theorem State.updNet_out (f : Net → Net) : (s.updNet f).out = s.out := rfl
@[simp] theorem State.updNet_placed (f : Net → Net) : (s.updNet f).placed = s.placed := rfl
@[simp] theorem State.updNet_mram (f : Net → Net) : (s.updNet f).mram = s.mram := rfl
@[simp] theorem State.updNet_sessions (f : Net → Net) : (s.updNet f).sessions = s.sessions := rfl
@[simp] theorem State.updNet_uplink (f : Net → Net) : (s.updNet f).uplink = s.uplink := rfl
@[simp] theorem State.updNet_cans (f : Net → Net) : (s.updNet f).cans = s.cans := rfl
@[simp] theorem State.updNet_power_ (f : Net → Net) : (s.updNet f).power_ = s.power_ := rfl
@[simp] theorem State.updNet_boot (f : Net → Net) : (s.updNet f).boot = s.boot := rfl
@[simp] theorem State.updNet_ageing (f : Net → Net) : (s.updNet f).ageing = s.ageing := rfl
@[simp] theorem State.updNet_free (f : Net → Net) : (s.updNet f).free = s.free := rfl
@[simp] theorem State.updNet_pending (f : Net → Net) : (s.updNet f).pending = s.pending := rfl
@[simp] theorem State.updNet_net (f : Net → Net) : (s.updNet f).net = f s.net := rfl
@[simp] theorem State.rd_updNet (f : Net → Net) (j : Nat) : (s.updNet f).rd j = s.rd j := rfl
@[simp] theorem State.cf_updNet (f : Net → Net) (j : Nat) : (s.updNet f).cf j = s.cf j := rfl
@[simp] theorem State.rdB_updNet (f : Net → Net) (j : Nat) : (s.updNet f).rdB j = s.rdB j := rfl
@[simp] theorem State.port_updNet (f : Net → Net) (j : Nat) : (s.updNet f).port j = s.port j := rfl
@[simp] theorem State.island_updNet (f : Net → Net) (j : Nat) : (s.updNet f).island j = s.island j := rfl
@[simp] theorem State.axis_updNet (f : Net → Net) (j : Nat) : (s.updNet f).axis j = s.axis j := rfl
@[simp] theorem State.master_updNet (f : Net → Net) (j : Nat) : (s.updNet f).master j = s.master j := rfl
@[simp] theorem State.enc_updNet (f : Net → Net) (j : Nat) : (s.updNet f).enc j = s.enc j := rfl

/-! ### updDual -/

@[simp] theorem State.updDual_clk (f : Dual → Dual) : (s.updDual f).clk = s.clk := rfl
@[simp] theorem State.updDual_od (f : Dual → Dual) : (s.updDual f).od = s.od := rfl
@[simp] theorem State.updDual_odB (f : Dual → Dual) : (s.updDual f).odB = s.odB := rfl
@[simp] theorem State.updDual_act (f : Dual → Dual) : (s.updDual f).act = s.act := rfl
@[simp] theorem State.updDual_com (f : Dual → Dual) : (s.updDual f).com = s.com := rfl
@[simp] theorem State.updDual_raised (f : Dual → Dual) : (s.updDual f).raised = s.raised := rfl
@[simp] theorem State.updDual_channels (f : Dual → Dual) : (s.updDual f).channels = s.channels := rfl
@[simp] theorem State.updDual_recorder (f : Dual → Dual) : (s.updDual f).recorder = s.recorder := rfl
@[simp] theorem State.updDual_counters (f : Dual → Dual) : (s.updDual f).counters = s.counters := rfl
@[simp] theorem State.updDual_acq (f : Dual → Dual) : (s.updDual f).acq = s.acq := rfl
@[simp] theorem State.updDual_traces (f : Dual → Dual) : (s.updDual f).traces = s.traces := rfl
@[simp] theorem State.updDual_ports (f : Dual → Dual) : (s.updDual f).ports = s.ports := rfl
@[simp] theorem State.updDual_islands (f : Dual → Dual) : (s.updDual f).islands = s.islands := rfl
@[simp] theorem State.updDual_net (f : Dual → Dual) : (s.updDual f).net = s.net := rfl
@[simp] theorem State.updDual_ferry (f : Dual → Dual) : (s.updDual f).ferry = s.ferry := rfl
@[simp] theorem State.updDual_axes (f : Dual → Dual) : (s.updDual f).axes = s.axes := rfl
@[simp] theorem State.updDual_encs (f : Dual → Dual) : (s.updDual f).encs = s.encs := rfl
@[simp] theorem State.updDual_masters (f : Dual → Dual) : (s.updDual f).masters = s.masters := rfl
@[simp] theorem State.updDual_rxPts (f : Dual → Dual) : (s.updDual f).rxPts = s.rxPts := rfl
@[simp] theorem State.updDual_pubIn (f : Dual → Dual) : (s.updDual f).pubIn = s.pubIn := rfl
@[simp] theorem State.updDual_pubOut (f : Dual → Dual) : (s.updDual f).pubOut = s.pubOut := rfl
@[simp] theorem State.updDual_outPts (f : Dual → Dual) : (s.updDual f).outPts = s.outPts := rfl
@[simp] theorem State.updDual_wheel (f : Dual → Dual) : (s.updDual f).wheel = s.wheel := rfl
@[simp] theorem State.updDual_sentActs (f : Dual → Dual) : (s.updDual f).sentActs = s.sentActs := rfl
@[simp] theorem State.updDual_wheelStarts (f : Dual → Dual) : (s.updDual f).wheelStarts = s.wheelStarts := rfl
@[simp] theorem State.updDual_fpLoaded (f : Dual → Dual) : (s.updDual f).fpLoaded = s.fpLoaded := rfl
@[simp] theorem State.updDual_fm (f : Dual → Dual) : (s.updDual f).fm = s.fm := rfl
@[simp] theorem State.updDual_acqUse (f : Dual → Dual) : (s.updDual f).acqUse = s.acqUse := rfl
@[simp] theorem State.updDual_lh (f : Dual → Dual) : (s.updDual f).lh = s.lh := rfl
@[simp] theorem State.updDual_mods (f : Dual → Dual) : (s.updDual f).mods = s.mods := rfl
@[simp] theorem State.updDual_adcFlags (f : Dual → Dual) : (s.updDual f).adcFlags = s.adcFlags := rfl
@[simp] theorem State.updDual_out (f : Dual → Dual) : (s.updDual f).out = s.out := rfl
@[simp] theorem State.updDual_placed (f : Dual → Dual) : (s.updDual f).placed = s.placed := rfl
@[simp] theorem State.updDual_mram (f : Dual → Dual) : (s.updDual f).mram = s.mram := rfl
@[simp] theorem State.updDual_sessions (f : Dual → Dual) : (s.updDual f).sessions = s.sessions := rfl
@[simp] theorem State.updDual_uplink (f : Dual → Dual) : (s.updDual f).uplink = s.uplink := rfl
@[simp] theorem State.updDual_cans (f : Dual → Dual) : (s.updDual f).cans = s.cans := rfl
@[simp] theorem State.updDual_power_ (f : Dual → Dual) : (s.updDual f).power_ = s.power_ := rfl
@[simp] theorem State.updDual_boot (f : Dual → Dual) : (s.updDual f).boot = s.boot := rfl
@[simp] theorem State.updDual_ageing (f : Dual → Dual) : (s.updDual f).ageing = s.ageing := rfl
@[simp] theorem State.updDual_free (f : Dual → Dual) : (s.updDual f).free = s.free := rfl
@[simp] theorem State.updDual_pending (f : Dual → Dual) : (s.updDual f).pending = s.pending := rfl
@[simp] theorem State.updDual_dual (f : Dual → Dual) : (s.updDual f).dual = f s.dual := rfl
@[simp] theorem State.rd_updDual (f : Dual → Dual) (j : Nat) : (s.updDual f).rd j = s.rd j := rfl
@[simp] theorem State.cf_updDual (f : Dual → Dual) (j : Nat) : (s.updDual f).cf j = s.cf j := rfl
@[simp] theorem State.rdB_updDual (f : Dual → Dual) (j : Nat) : (s.updDual f).rdB j = s.rdB j := rfl
@[simp] theorem State.port_updDual (f : Dual → Dual) (j : Nat) : (s.updDual f).port j = s.port j := rfl
@[simp] theorem State.island_updDual (f : Dual → Dual) (j : Nat) : (s.updDual f).island j = s.island j := rfl
@[simp] theorem State.axis_updDual (f : Dual → Dual) (j : Nat) : (s.updDual f).axis j = s.axis j := rfl
@[simp] theorem State.master_updDual (f : Dual → Dual) (j : Nat) : (s.updDual f).master j = s.master j := rfl
@[simp] theorem State.enc_updDual (f : Dual → Dual) (j : Nat) : (s.updDual f).enc j = s.enc j := rfl

/-! ### startRide -/

@[simp] theorem State.startRide_clk (n : Nat) : (s.startRide n).clk = s.clk := rfl
@[simp] theorem State.startRide_od (n : Nat) : (s.startRide n).od = s.od := rfl
@[simp] theorem State.startRide_odB (n : Nat) : (s.startRide n).odB = s.odB := rfl
@[simp] theorem State.startRide_act (n : Nat) : (s.startRide n).act = s.act := rfl
@[simp] theorem State.startRide_com (n : Nat) : (s.startRide n).com = s.com := rfl
@[simp] theorem State.startRide_raised (n : Nat) : (s.startRide n).raised = s.raised := rfl
@[simp] theorem State.startRide_channels (n : Nat) : (s.startRide n).channels = s.channels := rfl
@[simp] theorem State.startRide_counters (n : Nat) : (s.startRide n).counters = s.counters := rfl
@[simp] theorem State.startRide_acq (n : Nat) : (s.startRide n).acq = s.acq := rfl
@[simp] theorem State.startRide_traces (n : Nat) : (s.startRide n).traces = s.traces := rfl
@[simp] theorem State.startRide_ports (n : Nat) : (s.startRide n).ports = s.ports := rfl
@[simp] theorem State.startRide_islands (n : Nat) : (s.startRide n).islands = s.islands := rfl
@[simp] theorem State.startRide_net (n : Nat) : (s.startRide n).net = s.net := rfl
@[simp] theorem State.startRide_dual (n : Nat) : (s.startRide n).dual = s.dual := rfl
@[simp] theorem State.startRide_ferry (n : Nat) : (s.startRide n).ferry = s.ferry := rfl
@[simp] theorem State.startRide_axes (n : Nat) : (s.startRide n).axes = s.axes := rfl
@[simp] theorem State.startRide_encs (n : Nat) : (s.startRide n).encs = s.encs := rfl
@[simp] theorem State.startRide_masters (n : Nat) : (s.startRide n).masters = s.masters := rfl
@[simp] theorem State.startRide_rxPts (n : Nat) : (s.startRide n).rxPts = s.rxPts := rfl
@[simp] theorem State.startRide_pubIn (n : Nat) : (s.startRide n).pubIn = s.pubIn := rfl
@[simp] theorem State.startRide_pubOut (n : Nat) : (s.startRide n).pubOut = s.pubOut := rfl
@[simp] theorem State.startRide_outPts (n : Nat) : (s.startRide n).outPts = s.outPts := rfl
@[simp] theorem State.startRide_wheel (n : Nat) : (s.startRide n).wheel = s.wheel := rfl
@[simp] theorem State.startRide_sentActs (n : Nat) : (s.startRide n).sentActs = s.sentActs := rfl
@[simp] theorem State.startRide_wheelStarts (n : Nat) : (s.startRide n).wheelStarts = s.wheelStarts := rfl
@[simp] theorem State.startRide_fpLoaded (n : Nat) : (s.startRide n).fpLoaded = s.fpLoaded := rfl
@[simp] theorem State.startRide_fm (n : Nat) : (s.startRide n).fm = s.fm := rfl
@[simp] theorem State.startRide_acqUse (n : Nat) : (s.startRide n).acqUse = s.acqUse := rfl
@[simp] theorem State.startRide_lh (n : Nat) : (s.startRide n).lh = s.lh := rfl
@[simp] theorem State.startRide_mods (n : Nat) : (s.startRide n).mods = s.mods := rfl
@[simp] theorem State.startRide_adcFlags (n : Nat) : (s.startRide n).adcFlags = s.adcFlags := rfl
@[simp] theorem State.startRide_out (n : Nat) : (s.startRide n).out = s.out := rfl
@[simp] theorem State.startRide_placed (n : Nat) : (s.startRide n).placed = s.placed := rfl
@[simp] theorem State.startRide_mram (n : Nat) : (s.startRide n).mram = s.mram := rfl
@[simp] theorem State.startRide_sessions (n : Nat) : (s.startRide n).sessions = s.sessions := rfl
@[simp] theorem State.startRide_uplink (n : Nat) : (s.startRide n).uplink = s.uplink := rfl
@[simp] theorem State.startRide_cans (n : Nat) : (s.startRide n).cans = s.cans := rfl
@[simp] theorem State.startRide_power_ (n : Nat) : (s.startRide n).power_ = s.power_ := rfl
@[simp] theorem State.startRide_boot (n : Nat) : (s.startRide n).boot = s.boot := rfl
@[simp] theorem State.startRide_ageing (n : Nat) : (s.startRide n).ageing = s.ageing := rfl
@[simp] theorem State.startRide_free (n : Nat) : (s.startRide n).free = s.free := rfl
@[simp] theorem State.startRide_pending (n : Nat) : (s.startRide n).pending = s.pending := rfl
@[simp] theorem State.rd_startRide (n : Nat) (j : Nat) : (s.startRide n).rd j = s.rd j := rfl
@[simp] theorem State.cf_startRide (n : Nat) (j : Nat) : (s.startRide n).cf j = s.cf j := rfl
@[simp] theorem State.rdB_startRide (n : Nat) (j : Nat) : (s.startRide n).rdB j = s.rdB j := rfl
@[simp] theorem State.port_startRide (n : Nat) (j : Nat) : (s.startRide n).port j = s.port j := rfl
@[simp] theorem State.island_startRide (n : Nat) (j : Nat) : (s.startRide n).island j = s.island j := rfl
@[simp] theorem State.axis_startRide (n : Nat) (j : Nat) : (s.startRide n).axis j = s.axis j := rfl
@[simp] theorem State.master_startRide (n : Nat) (j : Nat) : (s.startRide n).master j = s.master j := rfl
@[simp] theorem State.enc_startRide (n : Nat) (j : Nat) : (s.startRide n).enc j = s.enc j := rfl

/-! ### Counting -/

/-- Counting touches the one entry counted (log 4 says with what past its end). -/
theorem State.bumpBy_eq (k n : Nat) : ∃ v, s.bumpBy k n = s.wr k v := by
  unfold State.bumpBy; dsimp only; split
  · exact ⟨_, rfl⟩
  · exact ⟨_, rfl⟩

/-- A counter below the largest value of its type counts. -/
theorem State.rd_bump_same (k : Nat) (h : s.rdN k + 1 ≤ odMax k) : (s.bump k).rd k = s.rdN k + 1 := by
  unfold State.bump State.bumpBy; dsimp only; rw [if_pos h]; simp

@[simp] theorem State.bumpBy_clk (k n : Nat) : (s.bumpBy k n).clk = s.clk := by
  obtain ⟨v, h⟩ := s.bumpBy_eq k n; rw [h]; rfl
@[simp] theorem State.bump_clk (k : Nat) : (s.bump k).clk = s.clk := s.bumpBy_clk k 1
@[simp] theorem State.bumpSat_clk (k : Nat) : (s.bumpSat k).clk = s.clk := rfl
@[simp] theorem State.bumpBy_odB (k n : Nat) : (s.bumpBy k n).odB = s.odB := by
  obtain ⟨v, h⟩ := s.bumpBy_eq k n; rw [h]; rfl
@[simp] theorem State.bump_odB (k : Nat) : (s.bump k).odB = s.odB := s.bumpBy_odB k 1
@[simp] theorem State.bumpSat_odB (k : Nat) : (s.bumpSat k).odB = s.odB := rfl
@[simp] theorem State.bumpBy_act (k n : Nat) : (s.bumpBy k n).act = s.act := by
  obtain ⟨v, h⟩ := s.bumpBy_eq k n; rw [h]; rfl
@[simp] theorem State.bump_act (k : Nat) : (s.bump k).act = s.act := s.bumpBy_act k 1
@[simp] theorem State.bumpSat_act (k : Nat) : (s.bumpSat k).act = s.act := rfl
@[simp] theorem State.bumpBy_com (k n : Nat) : (s.bumpBy k n).com = s.com := by
  obtain ⟨v, h⟩ := s.bumpBy_eq k n; rw [h]; rfl
@[simp] theorem State.bump_com (k : Nat) : (s.bump k).com = s.com := s.bumpBy_com k 1
@[simp] theorem State.bumpSat_com (k : Nat) : (s.bumpSat k).com = s.com := rfl
@[simp] theorem State.bumpBy_raised (k n : Nat) : (s.bumpBy k n).raised = s.raised := by
  obtain ⟨v, h⟩ := s.bumpBy_eq k n; rw [h]; rfl
@[simp] theorem State.bump_raised (k : Nat) : (s.bump k).raised = s.raised := s.bumpBy_raised k 1
@[simp] theorem State.bumpSat_raised (k : Nat) : (s.bumpSat k).raised = s.raised := rfl
@[simp] theorem State.bumpBy_channels (k n : Nat) : (s.bumpBy k n).channels = s.channels := by
  obtain ⟨v, h⟩ := s.bumpBy_eq k n; rw [h]; rfl
@[simp] theorem State.bump_channels (k : Nat) : (s.bump k).channels = s.channels := s.bumpBy_channels k 1
@[simp] theorem State.bumpSat_channels (k : Nat) : (s.bumpSat k).channels = s.channels := rfl
@[simp] theorem State.bumpBy_recorder (k n : Nat) : (s.bumpBy k n).recorder = s.recorder := by
  obtain ⟨v, h⟩ := s.bumpBy_eq k n; rw [h]; rfl
@[simp] theorem State.bump_recorder (k : Nat) : (s.bump k).recorder = s.recorder := s.bumpBy_recorder k 1
@[simp] theorem State.bumpSat_recorder (k : Nat) : (s.bumpSat k).recorder = s.recorder := rfl
@[simp] theorem State.bumpBy_counters (k n : Nat) : (s.bumpBy k n).counters = s.counters := by
  obtain ⟨v, h⟩ := s.bumpBy_eq k n; rw [h]; rfl
@[simp] theorem State.bump_counters (k : Nat) : (s.bump k).counters = s.counters := s.bumpBy_counters k 1
@[simp] theorem State.bumpSat_counters (k : Nat) : (s.bumpSat k).counters = s.counters := rfl
@[simp] theorem State.bumpBy_acq (k n : Nat) : (s.bumpBy k n).acq = s.acq := by
  obtain ⟨v, h⟩ := s.bumpBy_eq k n; rw [h]; rfl
@[simp] theorem State.bump_acq (k : Nat) : (s.bump k).acq = s.acq := s.bumpBy_acq k 1
@[simp] theorem State.bumpSat_acq (k : Nat) : (s.bumpSat k).acq = s.acq := rfl
@[simp] theorem State.bumpBy_traces (k n : Nat) : (s.bumpBy k n).traces = s.traces := by
  obtain ⟨v, h⟩ := s.bumpBy_eq k n; rw [h]; rfl
@[simp] theorem State.bump_traces (k : Nat) : (s.bump k).traces = s.traces := s.bumpBy_traces k 1
@[simp] theorem State.bumpSat_traces (k : Nat) : (s.bumpSat k).traces = s.traces := rfl
@[simp] theorem State.bumpBy_ports (k n : Nat) : (s.bumpBy k n).ports = s.ports := by
  obtain ⟨v, h⟩ := s.bumpBy_eq k n; rw [h]; rfl
@[simp] theorem State.bump_ports (k : Nat) : (s.bump k).ports = s.ports := s.bumpBy_ports k 1
@[simp] theorem State.bumpSat_ports (k : Nat) : (s.bumpSat k).ports = s.ports := rfl
@[simp] theorem State.bumpBy_islands (k n : Nat) : (s.bumpBy k n).islands = s.islands := by
  obtain ⟨v, h⟩ := s.bumpBy_eq k n; rw [h]; rfl
@[simp] theorem State.bump_islands (k : Nat) : (s.bump k).islands = s.islands := s.bumpBy_islands k 1
@[simp] theorem State.bumpSat_islands (k : Nat) : (s.bumpSat k).islands = s.islands := rfl
@[simp] theorem State.bumpBy_net (k n : Nat) : (s.bumpBy k n).net = s.net := by
  obtain ⟨v, h⟩ := s.bumpBy_eq k n; rw [h]; rfl
@[simp] theorem State.bump_net (k : Nat) : (s.bump k).net = s.net := s.bumpBy_net k 1
@[simp] theorem State.bumpSat_net (k : Nat) : (s.bumpSat k).net = s.net := rfl
@[simp] theorem State.bumpBy_dual (k n : Nat) : (s.bumpBy k n).dual = s.dual := by
  obtain ⟨v, h⟩ := s.bumpBy_eq k n; rw [h]; rfl
@[simp] theorem State.bump_dual (k : Nat) : (s.bump k).dual = s.dual := s.bumpBy_dual k 1
@[simp] theorem State.bumpSat_dual (k : Nat) : (s.bumpSat k).dual = s.dual := rfl
@[simp] theorem State.bumpBy_ferry (k n : Nat) : (s.bumpBy k n).ferry = s.ferry := by
  obtain ⟨v, h⟩ := s.bumpBy_eq k n; rw [h]; rfl
@[simp] theorem State.bump_ferry (k : Nat) : (s.bump k).ferry = s.ferry := s.bumpBy_ferry k 1
@[simp] theorem State.bumpSat_ferry (k : Nat) : (s.bumpSat k).ferry = s.ferry := rfl
@[simp] theorem State.bumpBy_axes (k n : Nat) : (s.bumpBy k n).axes = s.axes := by
  obtain ⟨v, h⟩ := s.bumpBy_eq k n; rw [h]; rfl
@[simp] theorem State.bump_axes (k : Nat) : (s.bump k).axes = s.axes := s.bumpBy_axes k 1
@[simp] theorem State.bumpSat_axes (k : Nat) : (s.bumpSat k).axes = s.axes := rfl
@[simp] theorem State.bumpBy_encs (k n : Nat) : (s.bumpBy k n).encs = s.encs := by
  obtain ⟨v, h⟩ := s.bumpBy_eq k n; rw [h]; rfl
@[simp] theorem State.bump_encs (k : Nat) : (s.bump k).encs = s.encs := s.bumpBy_encs k 1
@[simp] theorem State.bumpSat_encs (k : Nat) : (s.bumpSat k).encs = s.encs := rfl
@[simp] theorem State.bumpBy_masters (k n : Nat) : (s.bumpBy k n).masters = s.masters := by
  obtain ⟨v, h⟩ := s.bumpBy_eq k n; rw [h]; rfl
@[simp] theorem State.bump_masters (k : Nat) : (s.bump k).masters = s.masters := s.bumpBy_masters k 1
@[simp] theorem State.bumpSat_masters (k : Nat) : (s.bumpSat k).masters = s.masters := rfl
@[simp] theorem State.bumpBy_rxPts (k n : Nat) : (s.bumpBy k n).rxPts = s.rxPts := by
  obtain ⟨v, h⟩ := s.bumpBy_eq k n; rw [h]; rfl
@[simp] theorem State.bump_rxPts (k : Nat) : (s.bump k).rxPts = s.rxPts := s.bumpBy_rxPts k 1
@[simp] theorem State.bumpSat_rxPts (k : Nat) : (s.bumpSat k).rxPts = s.rxPts := rfl
@[simp] theorem State.bumpBy_pubIn (k n : Nat) : (s.bumpBy k n).pubIn = s.pubIn := by
  obtain ⟨v, h⟩ := s.bumpBy_eq k n; rw [h]; rfl
@[simp] theorem State.bump_pubIn (k : Nat) : (s.bump k).pubIn = s.pubIn := s.bumpBy_pubIn k 1
@[simp] theorem State.bumpSat_pubIn (k : Nat) : (s.bumpSat k).pubIn = s.pubIn := rfl
@[simp] theorem State.bumpBy_pubOut (k n : Nat) : (s.bumpBy k n).pubOut = s.pubOut := by
  obtain ⟨v, h⟩ := s.bumpBy_eq k n; rw [h]; rfl
@[simp] theorem State.bump_pubOut (k : Nat) : (s.bump k).pubOut = s.pubOut := s.bumpBy_pubOut k 1
@[simp] theorem State.bumpSat_pubOut (k : Nat) : (s.bumpSat k).pubOut = s.pubOut := rfl
@[simp] theorem State.bumpBy_outPts (k n : Nat) : (s.bumpBy k n).outPts = s.outPts := by
  obtain ⟨v, h⟩ := s.bumpBy_eq k n; rw [h]; rfl
@[simp] theorem State.bump_outPts (k : Nat) : (s.bump k).outPts = s.outPts := s.bumpBy_outPts k 1
@[simp] theorem State.bumpSat_outPts (k : Nat) : (s.bumpSat k).outPts = s.outPts := rfl
@[simp] theorem State.bumpBy_wheel (k n : Nat) : (s.bumpBy k n).wheel = s.wheel := by
  obtain ⟨v, h⟩ := s.bumpBy_eq k n; rw [h]; rfl
@[simp] theorem State.bump_wheel (k : Nat) : (s.bump k).wheel = s.wheel := s.bumpBy_wheel k 1
@[simp] theorem State.bumpSat_wheel (k : Nat) : (s.bumpSat k).wheel = s.wheel := rfl
@[simp] theorem State.bumpBy_sentActs (k n : Nat) : (s.bumpBy k n).sentActs = s.sentActs := by
  obtain ⟨v, h⟩ := s.bumpBy_eq k n; rw [h]; rfl
@[simp] theorem State.bump_sentActs (k : Nat) : (s.bump k).sentActs = s.sentActs := s.bumpBy_sentActs k 1
@[simp] theorem State.bumpSat_sentActs (k : Nat) : (s.bumpSat k).sentActs = s.sentActs := rfl
@[simp] theorem State.bumpBy_wheelStarts (k n : Nat) : (s.bumpBy k n).wheelStarts = s.wheelStarts := by
  obtain ⟨v, h⟩ := s.bumpBy_eq k n; rw [h]; rfl
@[simp] theorem State.bump_wheelStarts (k : Nat) : (s.bump k).wheelStarts = s.wheelStarts := s.bumpBy_wheelStarts k 1
@[simp] theorem State.bumpSat_wheelStarts (k : Nat) : (s.bumpSat k).wheelStarts = s.wheelStarts := rfl
@[simp] theorem State.bumpBy_fpLoaded (k n : Nat) : (s.bumpBy k n).fpLoaded = s.fpLoaded := by
  obtain ⟨v, h⟩ := s.bumpBy_eq k n; rw [h]; rfl
@[simp] theorem State.bump_fpLoaded (k : Nat) : (s.bump k).fpLoaded = s.fpLoaded := s.bumpBy_fpLoaded k 1
@[simp] theorem State.bumpSat_fpLoaded (k : Nat) : (s.bumpSat k).fpLoaded = s.fpLoaded := rfl
@[simp] theorem State.bumpBy_fm (k n : Nat) : (s.bumpBy k n).fm = s.fm := by
  obtain ⟨v, h⟩ := s.bumpBy_eq k n; rw [h]; rfl
@[simp] theorem State.bump_fm (k : Nat) : (s.bump k).fm = s.fm := s.bumpBy_fm k 1
@[simp] theorem State.bumpSat_fm (k : Nat) : (s.bumpSat k).fm = s.fm := rfl
@[simp] theorem State.bumpBy_acqUse (k n : Nat) : (s.bumpBy k n).acqUse = s.acqUse := by
  obtain ⟨v, h⟩ := s.bumpBy_eq k n; rw [h]; rfl
@[simp] theorem State.bump_acqUse (k : Nat) : (s.bump k).acqUse = s.acqUse := s.bumpBy_acqUse k 1
@[simp] theorem State.bumpSat_acqUse (k : Nat) : (s.bumpSat k).acqUse = s.acqUse := rfl
@[simp] theorem State.bumpBy_lh (k n : Nat) : (s.bumpBy k n).lh = s.lh := by
  obtain ⟨v, h⟩ := s.bumpBy_eq k n; rw [h]; rfl
@[simp] theorem State.bump_lh (k : Nat) : (s.bump k).lh = s.lh := s.bumpBy_lh k 1
@[simp] theorem State.bumpSat_lh (k : Nat) : (s.bumpSat k).lh = s.lh := rfl
@[simp] theorem State.bumpBy_mods (k n : Nat) : (s.bumpBy k n).mods = s.mods := by
  obtain ⟨v, h⟩ := s.bumpBy_eq k n; rw [h]; rfl
@[simp] theorem State.bump_mods (k : Nat) : (s.bump k).mods = s.mods := s.bumpBy_mods k 1
@[simp] theorem State.bumpSat_mods (k : Nat) : (s.bumpSat k).mods = s.mods := rfl
@[simp] theorem State.bumpBy_adcFlags (k n : Nat) : (s.bumpBy k n).adcFlags = s.adcFlags := by
  obtain ⟨v, h⟩ := s.bumpBy_eq k n; rw [h]; rfl
@[simp] theorem State.bump_adcFlags (k : Nat) : (s.bump k).adcFlags = s.adcFlags := s.bumpBy_adcFlags k 1
@[simp] theorem State.bumpSat_adcFlags (k : Nat) : (s.bumpSat k).adcFlags = s.adcFlags := rfl
@[simp] theorem State.bumpBy_out (k n : Nat) : (s.bumpBy k n).out = s.out := by
  obtain ⟨v, h⟩ := s.bumpBy_eq k n; rw [h]; rfl
@[simp] theorem State.bump_out (k : Nat) : (s.bump k).out = s.out := s.bumpBy_out k 1
@[simp] theorem State.bumpSat_out (k : Nat) : (s.bumpSat k).out = s.out := rfl
@[simp] theorem State.bumpBy_placed (k n : Nat) : (s.bumpBy k n).placed = s.placed := by
  obtain ⟨v, h⟩ := s.bumpBy_eq k n; rw [h]; rfl
@[simp] theorem State.bump_placed (k : Nat) : (s.bump k).placed = s.placed := s.bumpBy_placed k 1
@[simp] theorem State.bumpSat_placed (k : Nat) : (s.bumpSat k).placed = s.placed := rfl
@[simp] theorem State.bumpBy_mram (k n : Nat) : (s.bumpBy k n).mram = s.mram := by
  obtain ⟨v, h⟩ := s.bumpBy_eq k n; rw [h]; rfl
@[simp] theorem State.bump_mram (k : Nat) : (s.bump k).mram = s.mram := s.bumpBy_mram k 1
@[simp] theorem State.bumpSat_mram (k : Nat) : (s.bumpSat k).mram = s.mram := rfl
@[simp] theorem State.bumpBy_sessions (k n : Nat) : (s.bumpBy k n).sessions = s.sessions := by
  obtain ⟨v, h⟩ := s.bumpBy_eq k n; rw [h]; rfl
@[simp] theorem State.bump_sessions (k : Nat) : (s.bump k).sessions = s.sessions := s.bumpBy_sessions k 1
@[simp] theorem State.bumpSat_sessions (k : Nat) : (s.bumpSat k).sessions = s.sessions := rfl
@[simp] theorem State.bumpBy_uplink (k n : Nat) : (s.bumpBy k n).uplink = s.uplink := by
  obtain ⟨v, h⟩ := s.bumpBy_eq k n; rw [h]; rfl
@[simp] theorem State.bump_uplink (k : Nat) : (s.bump k).uplink = s.uplink := s.bumpBy_uplink k 1
@[simp] theorem State.bumpSat_uplink (k : Nat) : (s.bumpSat k).uplink = s.uplink := rfl
@[simp] theorem State.bumpBy_cans (k n : Nat) : (s.bumpBy k n).cans = s.cans := by
  obtain ⟨v, h⟩ := s.bumpBy_eq k n; rw [h]; rfl
@[simp] theorem State.bump_cans (k : Nat) : (s.bump k).cans = s.cans := s.bumpBy_cans k 1
@[simp] theorem State.bumpSat_cans (k : Nat) : (s.bumpSat k).cans = s.cans := rfl
@[simp] theorem State.bumpBy_power_ (k n : Nat) : (s.bumpBy k n).power_ = s.power_ := by
  obtain ⟨v, h⟩ := s.bumpBy_eq k n; rw [h]; rfl
@[simp] theorem State.bump_power_ (k : Nat) : (s.bump k).power_ = s.power_ := s.bumpBy_power_ k 1
@[simp] theorem State.bumpSat_power_ (k : Nat) : (s.bumpSat k).power_ = s.power_ := rfl
@[simp] theorem State.bumpBy_boot (k n : Nat) : (s.bumpBy k n).boot = s.boot := by
  obtain ⟨v, h⟩ := s.bumpBy_eq k n; rw [h]; rfl
@[simp] theorem State.bump_boot (k : Nat) : (s.bump k).boot = s.boot := s.bumpBy_boot k 1
@[simp] theorem State.bumpSat_boot (k : Nat) : (s.bumpSat k).boot = s.boot := rfl
@[simp] theorem State.bumpBy_ageing (k n : Nat) : (s.bumpBy k n).ageing = s.ageing := by
  obtain ⟨v, h⟩ := s.bumpBy_eq k n; rw [h]; rfl
@[simp] theorem State.bump_ageing (k : Nat) : (s.bump k).ageing = s.ageing := s.bumpBy_ageing k 1
@[simp] theorem State.bumpSat_ageing (k : Nat) : (s.bumpSat k).ageing = s.ageing := rfl
@[simp] theorem State.bumpBy_free (k n : Nat) : (s.bumpBy k n).free = s.free := by
  obtain ⟨v, h⟩ := s.bumpBy_eq k n; rw [h]; rfl
@[simp] theorem State.bump_free (k : Nat) : (s.bump k).free = s.free := s.bumpBy_free k 1
@[simp] theorem State.bumpSat_free (k : Nat) : (s.bumpSat k).free = s.free := rfl
@[simp] theorem State.bumpBy_pending (k n : Nat) : (s.bumpBy k n).pending = s.pending := by
  obtain ⟨v, h⟩ := s.bumpBy_eq k n; rw [h]; rfl
@[simp] theorem State.bump_pending (k : Nat) : (s.bump k).pending = s.pending := s.bumpBy_pending k 1
@[simp] theorem State.bumpSat_pending (k : Nat) : (s.bumpSat k).pending = s.pending := rfl
@[simp] theorem State.cf_bumpBy (k n : Nat) (j : Nat) : (s.bumpBy k n).cf j = s.cf j := by
  simp [State.cf]
@[simp] theorem State.cf_bump (k : Nat) (j : Nat) : (s.bump k).cf j = s.cf j := by
  simp [State.cf]
@[simp] theorem State.rdB_bumpBy (k n : Nat) (j : Nat) : (s.bumpBy k n).rdB j = s.rdB j := by
  simp [State.rdB]
@[simp] theorem State.rdB_bump (k : Nat) (j : Nat) : (s.bump k).rdB j = s.rdB j := by
  simp [State.rdB]
@[simp] theorem State.port_bumpBy (k n : Nat) (j : Nat) : (s.bumpBy k n).port j = s.port j := by
  simp [State.port]
@[simp] theorem State.port_bump (k : Nat) (j : Nat) : (s.bump k).port j = s.port j := by
  simp [State.port]
@[simp] theorem State.island_bumpBy (k n : Nat) (j : Nat) : (s.bumpBy k n).island j = s.island j := by
  simp [State.island]
@[simp] theorem State.island_bump (k : Nat) (j : Nat) : (s.bump k).island j = s.island j := by
  simp [State.island]
@[simp] theorem State.axis_bumpBy (k n : Nat) (j : Nat) : (s.bumpBy k n).axis j = s.axis j := by
  simp [State.axis]
@[simp] theorem State.axis_bump (k : Nat) (j : Nat) : (s.bump k).axis j = s.axis j := by
  simp [State.axis]
@[simp] theorem State.master_bumpBy (k n : Nat) (j : Nat) : (s.bumpBy k n).master j = s.master j := by
  simp [State.master]
@[simp] theorem State.master_bump (k : Nat) (j : Nat) : (s.bump k).master j = s.master j := by
  simp [State.master]
@[simp] theorem State.enc_bumpBy (k n : Nat) (j : Nat) : (s.bumpBy k n).enc j = s.enc j := by
  simp [State.enc]
@[simp] theorem State.enc_bump (k : Nat) (j : Nat) : (s.bump k).enc j = s.enc j := by
  simp [State.enc]
theorem State.rd_bumpBy_other {k j : Nat} (n : Nat) (h : j ≠ k) : (s.bumpBy k n).rd j = s.rd j := by
  obtain ⟨v, e⟩ := s.bumpBy_eq k n; rw [e, State.rd_wr_other _ _ h]
theorem State.rd_bump_other {k j : Nat} (h : j ≠ k) : (s.bump k).rd j = s.rd j := s.rd_bumpBy_other 1 h

end Sys2Proof.Machine
end

