-- ==== Sys2Proof/WellFormed.lean ====
section
/-! DEFINITION. Well-formed commands: the bounds on operands that the spec states beside the operands' types. -/

namespace Sys2Proof

/-- The bounds on a command's operands that no state enters into: shifts of at most 23 bits (R309), addresses within the
data memory and stores outside its read-only words (R307), the two buffers of FTAP different (R310), at most 4
dependencies of a task (R131). A written record of a wrong length is no ill-formed command: it is answered LENGTH (R325). -/
def Instr.wellFormed (i : Instr) : Bool :=
  match i with
  | .fpShl _ _ n => decide (n.val ≤ 23)
  | .fpShr _ _ n => decide (n.val ≤ 23)
  | .fpLd _ a => decide (a.val < 0x600)
  | .fpSt _ a => a.val == 1 || decide (0x210 ≤ a.val ∧ a.val < 0x600)
  | .fpFtap _ d c _ => d != c
  | .taskSubmit _ _ _ _ _ deps _ => decide (deps.length ≤ 4)
  | _ => true

end Sys2Proof
end

