-- ==== Sys2Proof/Tests/Slice0.lean ====
section
/-! SUPPORT. Tests: ill-formed commands, the worked examples of spec/, and for every statement with hypotheses a state and
operands that meet them together, clause by clause. -/

namespace Sys2Proof.Tests

open Sys2Proof Sys2Proof.Machine

set_option Elab.async false

/-! ### Small states and data -/

/-- Every signature is a 32-bit value. -/
theorem sigWord (s : State) : ∃ v : BitVec 32, v.toNat = safetySig s.pend :=
  ⟨BitVec.ofNat 32 (safetySig s.pend), by rw [BitVec.toNat_ofNat, Nat.mod_eq_of_lt (safetySig_lt _)]⟩
/-- The check finds an entry. -/
theorem okOf {x : Except Ans OdRow} {r : OdRow} (h : (match x with | .ok y => decide (y = r) | .error _ => false) = true) :
    x = .ok r := by
  cases x <;> simp_all
theorem errorOf {x : Except Ans OdRow} {r : Ans} (h : (match x with | .ok _ => false | .error e => decide (e = r)) = true) :
    x = .error r := by
  cases x <;> simp_all

/-- A small state: reset with these entries. -/
def st (l : List (Nat × Int)) : State := { State.reset with od := l.foldl (fun m e => SMap.insert m e.1 e.2) [] }
/-- The same with active values. -/
def stA (l a : List (Nat × Int)) : State := { st l with act := a.foldl (fun m e => SMap.insert m e.1 e.2) [] }
/-- A header of a frame from an island. -/
def hdr (ty island id seq : Nat) : Bytes :=
  ({ ty := ty, version := 1, island := island, flags := 0, netName := 0, cycle := 0, id := id, seq := seq } : Header).bytes
/-- Port 3 open in an operating network, power state RUN; further entries; active values. -/
def net3 (l a : List (Nat × Int)) : State := stA ([(K.POWER_STATE, 2), (K.NETWORK_STATE, 4), (K.GUARD_STATE 3, 3)] ++ l) a
/-- Axis 0 is a three-phase axis, local axis 0 of island 3. -/
def ax0 : List (Nat × Int) := [(K.PRESENT 3, 1), (K.AXIS_MAP 3 0, 0), (K.AXIS_TYPE 0, 1)]
/-- A task. -/
def tk (id : Nat) (kind : TaskKind) (phase : TaskPhase) : Task :=
  { id := id, kind := kind, level := 0, stream := some 3, tag := 0, release := 0, deadline := 0, deps := [], tt := true
    phase := phase, overruns := 0, cancelled := false }
/-- Axis 0 in OPERATION at level 3, further entries, active values, and the axis's words. -/
def axOp (l a : List (Nat × Int)) (x : Axis) : State :=
  { net3 ([(K.AXIS_STATE 0, 3), (K.CLOSED_LEVEL 0, 3)] ++ l) (ax0 ++ a) with axes := [(0, x)] }
/-- A segment record: duration, flags, tag, end position. -/
def segB (d f t p : Nat) : Bytes := leBytes 4 d ++ leBytes 2 f ++ leBytes 2 t ++ leBytes 8 p ++ zeros 16
/-- The row of an entry. -/
def rowOf (k : Nat) : OdRow := (odRow k).getD { base := 0, count := 0, stride := 0, lo := 0, n := 0, ty := .bool, access := .ro, dflt := 0, range := .any, stored := false, writeRole := 0, readRole := 0, cls := .live }
/-- An event instance and a recorder entry. -/
def rs (src d0 : Nat) : Raised := ⟨src, d0, 0, 1, 2, 3, [], none, false, false⟩
def re (code : Nat) : RecEntry := ⟨code, 5, 0, false, 1, 0, false, false, 1, 2, []⟩
/-- An instance in a queue. -/
def qd (src c sq : Nat) : Queued := ⟨{ source := src, channel := c, seq := sq, cycle := 0, netTime := 0, data0 := 0, data1 := 0 }, 0, 0, [0], false⟩
/-- An invocation in progress with a machine. -/
def fmS (m : Fm) : State := { State.reset with fm := some ⟨3, 5, 77, m, none⟩ }
/-- A machine with registers, an accumulator, and buffers 0 (state, 4 words) and 1 (coefficients, 3 words). -/
def fm0 : Fm := { g := [(1, 5), (2, -7), (3, 8388607)], acc := [(0, 36028797018963967)], mem := [(0x100, 3), (0x101, 4), (0x102, 5), (0x300, 11), (0x301, 12), (0x302, 13), (0x303, 14)], base := [0x300, 0x100, 0, 0], len := [4, 3, 0, 0], idx := [1, 2, 0, 0], stateLen := 512, cycles := 1990, pc := 5 }
def fr0 : FilterRun := ⟨3, 5, 77, fm0, none⟩
/-- An image of a filter program: code words, coefficients, STATE_LEN, bases and lengths of the buffers. -/
def fpImg (code coef : List Nat) (state : Nat) (bufs : List Nat) : Bytes :=
  let b := leBytes 2 1 ++ leBytes 2 code.length ++ leBytes 2 coef.length ++ leBytes 2 state ++ bufs.flatMap (leBytes 2) ++ zeros 8 ++
    code.flatMap (leBytes 4) ++ coef.flatMap (leBytes 4)
  b ++ leBytes 4 (crc32c b)
/-- LDI g1 7; END. -/
def img2 : Bytes := fpImg [0x10400007, 0x04000000] [] 0 [0, 0, 0, 0, 0, 0, 0, 0]
def img1 : Bytes := fpImg [0x10400007] [] 0 [0, 0, 0, 0, 0, 0, 0, 0]
/-- An Ethernet frame of 60 octets. -/
def ethF (dst src : Bytes) : Bytes := dst ++ src ++ [0x88, 0xB5] ++ zeros 46
def macA : Bytes := [0, 1, 2, 3, 4, 5]
def macB : Bytes := [0, 1, 2, 3, 4, 6]
/-- A state with links up on both external ports and an uplink. -/
def upS (l : List (Nat × Int)) (u : Uplink) : State := { st ([(K.LINK_STATE_0, 2), (K.LINK_STATE_1, 2)] ++ l) with uplink := u }
def mst (p : Nat) : Foreign := ⟨p, [1, 2], 77, 37, 1000, true, 500⟩
/-- A request in its turn and a session that holds requests. -/
def rq (svc : Nat) (b : Bytes) : Req := ⟨7, 1, svc, none, b, .turn⟩
def seS (n : Nat) (l a : List (Nat × Int)) (x : Session) : State := { stA ([(K.SESSION_STATE n, 3), (K.SESSION_ROLE n, 4)] ++ l) a with sessions := [(n, x)] }
/-- A mailbox transaction. -/
def mbx0 : Mbx := ⟨9, 0, 1, 0x2000, 1, 2, 7, 1, [], 0, false, [], 100⟩
/-- CAN controller 1 ERROR_ACTIVE in mode 1, with its buffers. -/
def cnS (l : List (Nat × Int)) (x : Can) : State := { st ([(K.CAN_STATE 1, 2), (K.CAN_MODE 1, 1), (K.PLL_LOCKED, 63)] ++ l) with cans := [(1, x)] }
def cf0 : CanFrame := ⟨5, 2, 0, 0, [1, 2]⟩
/-- IFC on, modulator 1. -/
def adS (l : List (Nat × Int)) (x : Modulator) : State := { st ([(K.DOMAIN_STATE Dom.IFC, 2), (K.PLL_LOCKED, 63), (K.POWER_STATE, 2)] ++ l) with mods := [(1, x)] }
/-- ACQ on, the acquisition in a state. -/
def aqS (l : List (Nat × Int)) (x : Acq) : State := { st ([(K.DOMAIN_STATE Dom.ACQ, 2), (K.POWER_STATE, 2)] ++ l) with acq := x }
def ar0 : AcqRow := ⟨5, 500, [(1, 7, 7)], 0, 0, true⟩
/-- The Lighthouse in RUN. -/
def lhS (l a : List (Nat × Int)) (x : Lh) : State := { stA ([(K.LH_STATE, 2), (K.DOMAIN_STATE Dom.LH, 2), (K.PASSWORD_STATE, 1)] ++ l) a with lh := x }
def pw0 : Bytes := [65, 66, 67, 68, 69, 70, 71, 72]
def pw1 : Bytes := [75, 66, 67, 68, 69, 70, 71, 72]
/-- A transition in progress. -/
def trS (l : List (Nat × Int)) (x : Transition) : State := { st ([(K.IN_TRANSITION, 1)] ++ l) with power_ := { trans := some x } }

def bs : State := {stA [(K.POWER_STATE, 2), (K.DOMAIN_STATE 2, 2), (K.DOMAIN_STATE 1, 2), (K.PLL_LOCKED, 63), (K.TRIPS, 3)] ax0 with boot := {state := .running}, axes := [(0, {})], raised := [rs 40 3], lh := {password := some [1]}, recorder := {fifo := [re 4], ring := [(0, [1])]}}
def bq : State := {bs with boot := {state := .running, tapHolds := true}}
def hdrE : Bytes := List.replicate 256 0xFF
def br (l : List (Nat × Int)) (b : Boot) : State := {st l with boot := b}
def rh : Bytes := zeros 6 ++ [2, 5] ++ zeros 248
def fw (l : List (Nat × Int)) : State := {st l with boot := {state := .running, headers := [rh, rh]}}
def ag (l : List (Nat × Int)) (x : Ageing) : State := {st l with ageing := x, boot := {state := .running}}
def p0 : Plan := ⟨15, 900, [], 3⟩

/-! ### Ill-formed commands are refused -/

/-- R309: FP_SHL and FP_SHR by more than 23. -/
theorem test_illFormed_shifts : Instr.wellFormed (.fpShl 0 1 24) = false ∧ Instr.wellFormed (.fpShr 0 1 31) = false ∧
    Instr.wellFormed (.fpShl 0 1 23) = true := by decide +kernel

/-- R307: an address past the data memory, and stores to the constant words. -/
theorem test_illFormed_addresses : Instr.wellFormed (.fpLd 0 0x600) = false ∧ Instr.wellFormed (.fpSt 0 0) = false ∧
    Instr.wellFormed (.fpSt 0 0x20F) = false ∧ Instr.wellFormed (.fpSt 0 0x600) = false ∧
    Instr.wellFormed (.fpSt 0 1) = true ∧ Instr.wellFormed (.fpSt 0 0x210) = true := by decide +kernel

/-- R310: FP_FTAP with one buffer as both. -/
theorem test_illFormed_ftap : Instr.wellFormed (.fpFtap 0 2 2 true) = false ∧ Instr.wellFormed (.fpFtap 0 2 1 true) = true := by
  decide +kernel

/-- R131: a task of five dependencies. -/
theorem test_illFormed_task :
    Instr.wellFormed (.taskSubmit 0 none 0 5 9 [1, 2, 3, 4, 5] false) = false := by decide +kernel

/-! ### Arithmetic (spec/00, spec/06) -/

/-- The check value of CRC-32C (R109): "123456789". -/
theorem test_crc_check : crc32c [49, 50, 51, 52, 53, 54, 55, 56, 57] = 0xE306_9283 := by decide +kernel

/-- R13's examples: +2.5 rounds to +3 and −2.5 to −2. -/
theorem test_rounding_halves : leave (5 / 2) = 3 ∧ leave (-5 / 2) = -2 := by decide +kernel

/-- The coefficients of the example of spec/06: KP 3.0, Ki × Ts 0.045, and the limit of 10 turns/s. -/
theorem test_coefficients_of_roll_gap : coefOf 3 = (0x60_0000, 2) ∧ coefOf (45 / 1000) = (0x5C_28F6, -4) ∧
    toStage 7 10 = 0x0A_0000 := by decide +kernel

/-! ### Network and islands (spec/02 to spec/04) -/

/-- The frame of the example of spec/04: 112 bytes after the EtherType take 150 wire bytes, 1.200 µs. -/
theorem test_wire_time : wireBytes 112 = 150 ∧ wireNs 112 = 1200 := by decide +kernel

/-- The first exchange of the example of spec/03: a delay of 742 ns and a deviation of +130 ns. -/
theorem test_exchange_of_island_6 : exchange 1000 1872 7200 7812 = (742, 130) := by decide +kernel

/-- The averaging step of spec/03: the extremes −15 and +61 are discarded, and the others average to 6.5 ns. -/
theorem test_averaging_step : meanR (retained [0, 12, -7, 21, 4, -15, 9, 61] 1) = 13 / 2 := by decide +kernel

/-! ### Motion and feedback (spec/09, spec/10) -/

/-- The indexer of spec/09 at el = 409,600: 0.078125 turn, 2.8125 turns/s and 37.5 turns/s². -/
theorem test_indexer_midpoint :
    (hermite 0 0 (2 ^ 30) 245760 (1 / 10) 409600 819200).1 = 0x1400_0000 ∧
    roundHalfUp ((hermite 0 0 (2 ^ 30) 245760 (1 / 10) 409600 819200).2.1 / 65536) = 184320 ∧
    roundHalfUp ((hermite 0 0 (2 ^ 30) 245760 (1 / 10) 409600 819200).2.2 / 2 ^ 31) = 75 := by decide +kernel

/-- The creeping feeder of spec/10: one edge every 5 ms is 0.05 turn/s, 3,277; with no further edge it decays to 1,368. -/
theorem test_feeder_creeps :
    (let e1 := (estimate { last := some (31218750, 0) } 31250000 1 (some 10000) none 20000000).est
     let e2 := (estimate { e1 with last := some (36218750, 1) } 36250000 2 (some 10000) none 20000000).est
     let e3 := (estimate { e2 with last := some (48187500, 2) } 48218750 2 none none 20000000).est
     speedOf e1.v 4000 false = 0 ∧ speedOf e2.v 4000 false = 3277 ∧ speedOf e3.v 4000 false = 1368) := by decide +kernel

/-- The same feeder turns back: the estimate falls to 0 and DIR_CHANGED is set. -/
theorem test_feeder_turns_back :
    (let r := estimate { v := 1 / 5000000, ref := some (2, 36240000, 1), last := some (48218750, 2) } 48250000 1 (some 10000)
       none 20000000
     r.dirChanged = some true ∧ speedOf r.est.v 4000 false = 0) := by decide +kernel

/-! ### The filter program of spec/12 -/

/-- Program 5: code, coefficients, STATE_LEN 8, the delay line at 0x0214 and the taps at 0x0014. -/
def prog5 : Bytes := fpImg
  [0x1800_0000, 0x1840_0010, 0x1880_0011, 0x18C0_0012, 0x1900_0211, 0x1940_0213, 0x5400_0000, 0x5810_0000, 0x5824_0000,
   0x5835_0000, 0x6860_0000, 0x19C0_0210, 0x1DC0_0211, 0x1C00_0210, 0x19C0_0212, 0x1DC0_0213, 0x1D80_0212, 0x2980_0000,
   0x5500_0000, 0x6118_0000, 0x6118_0000, 0x6980_FC00, 0x1E00_0001, 0x0400_0000]
  [0x71_C71C, 0x71_C71C, 0xFF9C_71C7, 0, 0x20_0000, 0x60_0000, 0x60_0000, 0x20_0000] 8 [0x214, 4, 0x014, 4, 0, 0, 0, 0]

/-- It is 164 bytes long and passes the format check, is AFFINE and takes 34 cycles. -/
theorem test_prog5_checks : prog5.length = 164 ∧ imgFormatOk prog5 = true ∧ imgStatic prog5 = 34 ∧ imgAffine prog5 = true := by
  refine ⟨?_, ?_, ?_, ?_⟩ <;> decide +kernel

/-- Its first invocations at an input of 20 turns/s. -/
theorem test_prog5_outputs :
    (let r1 := invoke (fun _ => none) prog5 {} 7 0 0 1310720
     let r2 := invoke (fun _ => none) prog5 r1.use 7 0 0 1310720
     let r3 := invoke (fun _ => none) prog5 r2.use 7 0 0 1310720
     let r4 := invoke (fun _ => none) prog5 r3.use 7 0 0 1310720
     [r1.y, r2.y, r3.y, r4.y] = [145636, 582542, 1051812, 1294538]) := by decide +kernel

/-! ### Host traffic (spec/14, spec/15) -/

/-- The answer of the read of spec/14: point 16,521 at 23.0 °C. -/
theorem test_read_response : toaPart 2 0x2C 1 1 0 0 1 0 [0x40, 0x80, 0x89, 0, 0x70, 1] =
    [1, 2, 0x2C, 1, 1, 0, 0, 1, 6, 0, 0, 0, 0x40, 0x80, 0x89, 0, 0x70, 1] := by decide +kernel

/-- The residence of the example of R351: 2,622.4 ns, 171,861,606 units. -/
theorem test_residence :
    (let s : State := { st [(K.PHY_TX_LATENCY_1, 180), (K.PHY_RX_LATENCY_0, 240)] with uplink := { alignment := [(0, 3)] } }
     s.residence 0 1000 3016 = 26224 / 10 ∧ roundHalfUp (s.residence 0 1000 3016 * 65536) = 171861606) := by decide +kernel

/-- The frame of spec/15: 17 octets need a data length of 20. -/
theorem test_can_length : dlcBytes true (dlcFor 17) = 20 ∧ dlcBytes true 15 = 64 ∧ dlcBytes false 15 = 8 := by decide +kernel

/-! ### Inputs (spec/16, spec/17) -/

/-- Full load of the scale of spec/16: 3.000 mV at gain 128 and 1.500 V is code 2,147,484. -/
theorem test_scale_full_load : (State.reset.adcCode 7 (3 / 1000) (3 / 2) false).2 = (2147484, false) := by decide +kernel

/-- The tramp metal of spec/17: the edge is 16,187 ns after the start of cycle n − 1, and the pulse leaves 84,937 ns after the
start of cycle n. -/
theorem test_tramp_metal :
    (let s : State := { st [(K.TRIG_KIND, 2), (K.TRIG_LEVEL, -42949673), (K.TRIG_HYST, 4294967), (K.ACQ_STATE, 2),
       (K.CASCADE_LATENCY, 100000), (K.TRIG_IO_MODE 0, 2)] with acq := { prev := some (-30000000, 31250000) } }
     let t := s.acqEdge (-55000000) 31281250
     t.rd K.TRIG_TIME = 31250000 + 16187 ∧ t.rd K.ACQ_STATE = 3 ∧ t.rdN K.TRIG_FLAGS = 4 ∧
     t.acq.pulses = [(0, 31281250 + 84937)]) := by decide +kernel

/-! ### Records, feeds, ageing (spec/19, spec/20, spec/22) -/

/-- The chattering limit of spec/19: at a rate of 1.00 the bucket of 4 empties in 0.06 s, leaving 0.06 token. -/
theorem test_bucket_empties :
    (let s := st [(K.RATE 151, 100), (K.BURST 151, 4)]
     let s : State := { s with recorder := { buckets := [(151, { tokens := 4 * 10 ^ 11, tLast := 0, supp := 0 })] } }
     let s := [0, 20000000, 40000000, 60000000, 80000000].foldl (fun u t => u.recAdmit { rs 151 70 with runTime := t }) s
     s.recorder.level = 4 ∧ (s.bucket 151).supp = 1 ∧ (s.bucket 151).tokens = 8 * 10 ^ 9) := by decide +kernel

/-- A supply fails in spec/20: 15 domains move from feed A to feed B, DATA0 1 to 15 and DATA1 0x0001_0101. -/
theorem test_feed_switch :
    (State.reset.wrN (feedKey 0 0) 2).arbitrate.raised.map (fun x => (x.source, x.data0, x.data1)) =
      (List.range 15).map (fun d => (Ev.FEED_SWITCH, d + 1, 0x0001_0101)) := by
  decide +kernel

/-- The plan of spec/22: 15 mV for a degradation of 3.20 %, and a headroom of 1,664,000 at u = 10.7 %. -/
theorem test_plan : trimFor 320 = 15 ∧ clockFor 320 = 1000 := by decide +kernel

/-! ### The hypotheses of every statement can be met -/

theorem witness_StepRunsFront :
    (∃ (s : State) (c : Instr) (r : List Instr), s.pending = c :: r) ∧ (∃ s : State, s.pending = []) :=
  ⟨⟨{ State.reset with pending := [.networkStart] }, _, _, rfl⟩, State.reset, rfl⟩

theorem witness_ExecKeepsQueue : ∃ (c : Instr) (s t : State), exec c s = .next t :=
  ⟨.networkStart, st [(K.POWER_STATE, 1)], _, rfl⟩

theorem witness_StepKeepsCanon : ∃ s t : State, s.Canon ∧ step s = .next t :=
  ⟨State.reset, _, by refine ⟨?_, ?_, ?_, ?_, ?_, ?_, ?_, ?_⟩ <;> simp [State.reset, DictWf, TextWf, SMap.Wf], rfl⟩

theorem witness_NetworkStateTransitions :
    (∃ (s : State), (s.netState = N.OFF) ∧ (s.power ≠ 0)) ∧
    (∃ (s : State), (s.netState = N.OFF) ∧ (s.power ≠ 0)) ∧
    (∃ (s : State), (s.netState ≠ N.OFF)) ∧
    (∃ (s : State), (s.netState ≠ N.OFF)) ∧
    (∃ (s : State), (s.netState = N.LISTEN) ∧ (s.net.listenLeft = 0)) ∧
    (∃ (s : State), (s.netState = N.LISTEN) ∧ (s.net.listenLeft = 0)) ∧
    (∃ (s : State), (s.netState = N.COLDSTART) ∧ (8 ≤ s.net.clean)) ∧
    (∃ (s : State), (s.netState = N.COLDSTART) ∧ (8 ≤ s.net.clean)) ∧
    (∃ (s : State), (s.netState = N.LISTEN) ∧ (s.dual.on = true) ∧ (s.straitUp = true)) ∧
    (∃ (s : State), (s.netState = N.LISTEN) ∧ (s.dual.on = true) ∧ (s.straitUp = false)) ∧
    (∃ (s : State) (cycles : Nat), (8 ≤ cycles) ∧ (s.netState = N.INTEGRATE)) ∧
    (∃ (s : State) (d : Nat), (d ≠ s.configDigest) ∧ (s.netState = N.INTEGRATE)) ∧
    (∃ (s : State) (rank : Fin 2) (count : Fin 128), (s.straitUp = true) ∧ (netName ↑rank ↑count ≠ netName s.net.nameRank s.net.nameCount) ∧ (s.netState = N.COLDSTART) ∧ (s.net.collision = false) ∧ (↑rank < s.rdN K.COLDSTART_RANK)) ∧
    (∃ (s : State) (rank : Fin 2) (count : Fin 128), (s.straitUp = true) ∧ (netName ↑rank ↑count ≠ netName s.net.nameRank s.net.nameCount) ∧ (s.netState = N.COLDSTART) ∧ (s.net.collision = false) ∧ (↑rank = s.rdN K.COLDSTART_RANK)) ∧
    (∃ (s : State) (rank : Fin 2) (count : Fin 128), (s.straitUp = true) ∧ (netName ↑rank ↑count ≠ netName s.net.nameRank s.net.nameCount) ∧ (s.netState = N.COLDSTART) ∧ (s.net.collision = false) ∧ (s.rdN K.COLDSTART_RANK < ↑rank)) ∧
    (∃ (s : State) (p : Fin 48), (s.guard ↑p ≠ G.DISABLED) ∧ (s.guard ↑p ≠ G.LINK_DOWN) ∧ (s.rdN (K.ISLAND_COLDSTART ↑p) + 1 ≤ odMax (K.ISLAND_COLDSTART ↑p))) :=
  ⟨⟨(st [(K.POWER_STATE, 1)]), by decide +kernel⟩,
    ⟨(st [(K.POWER_STATE, 1), (K.DUAL_HEAD, 1), (K.COLDSTART_RANK, 3)]), by decide +kernel⟩,
    ⟨(st [(K.NETWORK_STATE, 1)]), by decide +kernel⟩,
    ⟨(st [(K.NETWORK_STATE, 4), (K.GUARD_STATE 3, 3)]), by decide +kernel⟩,
    ⟨(st [(K.NETWORK_STATE, 1)]), by decide +kernel⟩,
    ⟨{(st [(K.NETWORK_STATE, 1), (K.PTP_PORT_STATE, 3)]) with clk := {wall := some 1000000, now := 77}}, by decide +kernel⟩,
    ⟨{(st [(K.NETWORK_STATE, 2)]) with net := {clean := 8}}, by decide +kernel⟩,
    ⟨{(st [(K.NETWORK_STATE, 2)]) with net := {clean := 8}, dual := {on := true}}, by decide +kernel⟩,
    ⟨{(st [(K.NETWORK_STATE, 1), (K.STRAIT_STATE, 2)]) with dual := {on := true}}, by decide +kernel⟩,
    ⟨{(st [(K.NETWORK_STATE, 1)]) with dual := {on := true}}, by decide +kernel⟩,
    ⟨{(st [(K.NETWORK_STATE, 3)]) with dual := {on := true}}, 8, by decide +kernel⟩,
    ⟨st [(K.NETWORK_STATE, 3)], (st [(K.NETWORK_STATE, 3)]).configDigest + 1, by omega, by decide +kernel⟩,
    ⟨{(st [(K.NETWORK_STATE, 2), (K.STRAIT_STATE, 2), (K.COLDSTART_RANK, 1)]) with net := {}}, 0, 5, by decide +kernel⟩,
    ⟨{(st [(K.NETWORK_STATE, 2), (K.STRAIT_STATE, 2), (K.COLDSTART_RANK, 1)]) with net := {}}, 1, 5, by decide +kernel⟩,
    ⟨{(st [(K.NETWORK_STATE, 2), (K.STRAIT_STATE, 2), (K.COLDSTART_RANK, 0)]) with net := {}}, 1, 5, by decide +kernel⟩,
    ⟨(st [(K.GUARD_STATE 7, 3)]), 7, by decide +kernel⟩⟩

theorem witness_PortStateTransitions :
    (∃ (s : State) (p : Fin 48), (s.guard ↑p = G.DISABLED) ∧ (s.portUsable ↑p = true)) ∧
    (∃ (s : State) (p : Fin 48), (s.guard ↑p ≠ G.DISABLED)) ∧
    (∃ (s : State) (p : Fin 48), (s.guard ↑p = G.LINK_DOWN) ∧ (s.netState = N.COLDSTART ∨ s.netState = N.OPERATE)) ∧
    (∃ (s : State) (p : Fin 48), (s.guard ↑p ≠ G.DISABLED) ∧ (s.netState ≠ N.COLDSTART) ∧ (s.netState ≠ N.OPERATE)) ∧
    (∃ (s : State) (p : Fin 48), (s.guard ↑p ≠ G.DISABLED) ∧ ((s.port ↑p).linkUp = true)) ∧
    (∃ (s : State) (p : Fin 48), (s.portStarting ↑p = true) ∧ ((s.port ↑p).inPlan = true) ∧ (8 ≤ (s.port ↑p).verify) ∧ ((s.port ↑p).mismatch = 0)) ∧
    (∃ (s : State) (p : Fin 48), (s.guard ↑p = G.OPEN) ∧ (3 ≤ s.rdN (K.VIOLATION_RUN ↑p))) ∧
    (∃ (s : State) (p : Fin 48), (s.guard ↑p = G.SYNC_EXCLUDED) ∧ (8 ≤ s.rdN (K.VIOLATION_RUN ↑p))) ∧
    (∃ (s : State) (p : Fin 48), (s.guard ↑p = G.SYNC_EXCLUDED) ∧ (8 ≤ (s.port ↑p).cleanRun)) ∧
    (∃ (s : State) (p : Fin 48), (s.guard ↑p = G.ISOLATED) ∧ ((s.port ↑p).resumed = false) ∧ ((s.port ↑p).linkUp = true) ∧ ((s.port ↑p).isolatedAt + s.rdN K.ISOLATION_HOLD ≤ s.clk.tick)) :=
  ⟨⟨(st [(K.DOMAIN_STATE 11, 2)]), 3, by decide +kernel⟩,
    ⟨(st [(K.GUARD_STATE 3, 3), (K.ENABLE 3, 1)]), 3, by decide +kernel⟩,
    ⟨(st [(K.GUARD_STATE 3, 1), (K.NETWORK_STATE, 4)]), 3, by decide +kernel⟩,
    ⟨(st [(K.GUARD_STATE 3, 1), (K.NETWORK_STATE, 1)]), 3, by decide +kernel⟩,
    ⟨{(st [(K.GUARD_STATE 3, 3), (K.NETWORK_STATE, 1)]) with ports := [(3, {linkUp := true})]}, 3, by decide +kernel⟩,
    ⟨{(st [(K.GUARD_STATE 3, 2), (K.NETWORK_STATE, 2)]) with ports := [(3, {linkUp := true, inPlan := true, verify := 8})]}, 3, by decide +kernel⟩,
    ⟨(st [(K.GUARD_STATE 3, 3), (K.VIOLATION_RUN 3, 3)]), 3, by decide +kernel⟩,
    ⟨(st [(K.GUARD_STATE 3, 4), (K.VIOLATION_RUN 3, 8)]), 3, by decide +kernel⟩,
    ⟨{(st [(K.GUARD_STATE 3, 4), (K.VIOLATION_RUN 3, 2)]) with ports := [(3, {linkUp := true, cleanRun := 8})]}, 3, by decide +kernel⟩,
    ⟨{(st [(K.GUARD_STATE 3, 5)]) with ports := [(3, {linkUp := true, isolatedAt := 5})], clk := {tick := 50000}}, 3, by decide +kernel⟩⟩

theorem witness_TimeMeasurement :
    (∃ (s : State) (p : Fin 48) (mac : Nat) (f : Bytes) (t1 : Rat), (s.portStarting ↑p = true) ∧ (s.validUp (↑p) true (headerOf f) 1 = true) ∧ (syncLen ≤ List.length f) ∧ (↑s.sched.len ≤ s.planeTime (↑p) mac - ↑sfdNs) ∧ (s.planeTime (↑p) mac - ↑sfdNs ≤ ↑(2 * s.sched.len) - ↑(wireNs (List.length f))) ∧ (bit (headerOf f).flags 2 = false) ∧ ((s.port ↑p).t1 = some t1)) ∧
    (∃ (s : State) (p : Fin 48), (s.portStarting ↑p = true) ∧ (16 ≤ (s.port ↑p).exch.length) ∧ ((s.port ↑p).doneAt = none) ∧ ((s.port ↑p).remeasureAt = none)) ∧
    (∃ (s : State) (p : Fin 48), (s.portStarting ↑p = true) ∧ (16 ≤ (s.port ↑p).exch.length) ∧ ((s.port ↑p).doneAt = none) ∧ ((s.port ↑p).remeasureAt = none)) ∧
    (∃ (s : State) (p : Fin 48) (k : Nat), ((s.port ↑p).remeasureAt = some k) ∧ (s.portStarting ↑p = true) ∧ (k ≤ s.clk.tick)) ∧
    (∃ (s : State) (p : Fin 48), (s.portStarting ↑p = true) ∧ (64 ≤ (s.port ↑p).noSync)) ∧
    (∃ (s : State) (p : Fin 48) (late : Nat), (s.netState = N.COLDSTART ∨ s.netState = N.OPERATE) ∧ (s.portStarting ↑p = true) ∧ (s.sched.apDown + late + wireNs startupLen ≤ s.sched.len)) ∧
    (∃ (s : State), (s.netState = N.COLDSTART ∨ s.netState = N.OPERATE) ∧ (s.dhActive = false)) ∧
    (∃ (s : State), (s.netState = N.COLDSTART ∨ s.netState = N.OPERATE) ∧ (s.dhActive = false)) ∧
    (∃ (s : State), (s.netState = N.COLDSTART ∨ s.netState = N.OPERATE)) ∧
    (∃ (s : State), (s.net.round ≠ 0) ∧ (s.rdN K.RATE_ROUND ≤ s.net.round)) :=
  ⟨⟨{(st [(K.GUARD_STATE 3, 2), (K.NETWORK_STATE, 2)]) with ports := [(3, {linkUp := true, t1 := some 100})]}, 3, 7000, (({ty := 1, version := 1, island := 3, flags := 0, netName := 0, cycle := 0, id := 0, seq := 0} : Header).bytes ++ zeros 60), 100, by decide +kernel⟩,
    ⟨{(st [(K.GUARD_STATE 3, 2), (K.NETWORK_STATE, 2)]) with ports := [(3, {linkUp := true, exch := List.replicate 16 (100, 3)})]}, 3, by decide +kernel⟩,
    ⟨{(st [(K.GUARD_STATE 3, 2), (K.NETWORK_STATE, 2)]) with ports := [(3, {linkUp := true, exch := List.replicate 16 (100, 3)})], act := [(K.PLANNED_DELAY 3, 200), (K.PLANNED_UNCERTAINTY 3, 50)]}, 3, by decide +kernel⟩,
    ⟨{(st [(K.GUARD_STATE 3, 2), (K.NETWORK_STATE, 2)]) with ports := [(3, {linkUp := true, remeasureAt := some 7})], clk := {tick := 7}}, 3, 7, by decide +kernel⟩,
    ⟨{(st [(K.GUARD_STATE 3, 2), (K.NETWORK_STATE, 2)]) with ports := [(3, {linkUp := true, noSync := 64})], clk := {tick := 7}}, 3, by decide +kernel⟩,
    ⟨(st [(K.GUARD_STATE 3, 2), (K.NETWORK_STATE, 2)]), 3, 0, by decide +kernel⟩,
    ⟨(st [(K.NETWORK_STATE, 2)]), by decide +kernel⟩,
    ⟨{(st [(K.NETWORK_STATE, 2), (K.GUARD_STATE 3, 3), (K.SYNC_ISLAND_MASK, 8)]) with ports := [(3, {linkUp := true, devNow := some (7/3)})]}, by decide +kernel⟩,
    ⟨{(st [(K.NETWORK_STATE, 2)]) with clk := {stepPending := 12345, stepCarry := -5}}, by decide +kernel⟩,
    ⟨{(st [(K.NETWORK_STATE, 2), (K.GUARD_STATE 3, 3), (K.RATE_ROUND, 64)]) with net := {round := 64, stepSum := 4000}, islands := [(3, {roundIn := 64, roundSum := 999})]}, by decide +kernel⟩⟩

theorem witness_DualHeadTransitions :
    (∃ (s : State), (s.straitUp = true) ∧ (s.dhState = DH.ACTIVE)) ∧
    (∃ (s : State), (s.straitUp = true) ∧ (s.dhState = DH.RESYNC ∨ s.dhState = DH.VERIFY)) ∧
    (∃ (s : State), (s.domainOn Dom.NET_B = true) ∧ (s.straitUp = false) ∧ (s.dhState = DH.ALONE) ∧ (s.netState = N.OPERATE) ∧ (s.dhRole ≠ 0)) ∧
    (∃ (s : State), (s.domainOn Dom.NET_B = true) ∧ (s.straitUp = false) ∧ (s.dhState = DH.ALONE) ∧ (s.netState = N.OPERATE) ∧ (s.dhRole ≠ 0)) ∧
    (∃ (s : State), (s.domainOn Dom.NET_B = true) ∧ (s.straitUp = false) ∧ (s.dhState = DH.STANDBY)) ∧
    (∃ (s : State), (s.dhState = DH.ALONE) ∧ (s.netState = N.OPERATE) ∧ (s.straitUp = true)) ∧
    (∃ (s : State), (s.straitUp = true) ∧ (s.dhState = DH.VERIFY) ∧ (s.dual.mismatch = [])) ∧
    (∃ (s : State) (a : Fin 128), (s.dhState = DH.ACTIVE) ∧ (s.dhRole = 2) ∧ (s.rdN K.DIVERGE_LIMIT ≤ s.dual.mismatch.get 0 ↑a)) ∧
    (∃ (s : State), (s.dhState = DH.ACTIVE) ∧ (s.dhRole = 2)) ∧
    (∃ (s : State), (s.dhState = DH.RESYNC) ∧ (s.straitUp = true)) ∧
    (∃ (s : State), (s.dhState = DH.VERIFY) ∧ (s.rdN K.VERIFY_CYCLES ≤ s.dual.equalRun)) :=
  ⟨⟨(st [(K.STRAIT_STATE, 2), (K.DH_STATE, 2)]), by decide +kernel⟩,
    ⟨(st [(K.STRAIT_STATE, 2), (K.DH_STATE, 4)]), by decide +kernel⟩,
    ⟨(st [(K.DOMAIN_STATE 12, 2), (K.DH_STATE, 1), (K.NETWORK_STATE, 4), (K.DH_ROLE, 1)]), by decide +kernel⟩,
    ⟨(st [(K.DOMAIN_STATE 12, 2), (K.DH_STATE, 1), (K.NETWORK_STATE, 4), (K.DH_ROLE, 2)]), by decide +kernel⟩,
    ⟨(st [(K.DOMAIN_STATE 12, 2), (K.DH_STATE, 5)]), by decide +kernel⟩,
    ⟨(st [(K.STRAIT_STATE, 2), (K.DH_STATE, 1), (K.NETWORK_STATE, 4)]), by decide +kernel⟩,
    ⟨{(st [(K.STRAIT_STATE, 2), (K.DH_STATE, 4), (K.NETWORK_STATE, 4)]) with dual := {digests := [(1, 7), (5, 9)], equalRun := 3}}, by decide +kernel⟩,
    ⟨{(st [(K.DH_ROLE, 2), (K.DH_STATE, 2), (K.DIVERGE_LIMIT, 3)]) with dual := {mismatch := [(5, 3)]}}, 5, by decide +kernel⟩,
    ⟨(st [(K.DH_ROLE, 2), (K.DH_STATE, 2)]), by decide +kernel⟩,
    ⟨(st [(K.STRAIT_STATE, 2), (K.DH_STATE, 3)]), by decide +kernel⟩,
    ⟨{(st [(K.DH_STATE, 4), (K.VERIFY_CYCLES, 3)]) with dual := {equalRun := 3, resyncAt := 4000}}, by decide +kernel⟩⟩

theorem witness_ScheduleAndCycle :
    (∃ (s : State), (DictWf s.od) ∧ (s.integratedList = []) ∧ (schedCheck s s.rd s.cf = none)) ∧
    (∃ (s : State), (DictWf s.od) ∧ (s.integratedList = []) ∧ (schedCheck s s.rd s.cf = none)) ∧
    (∃ (s : State) (n : Nat) (r : List Nat), (DictWf s.od) ∧ (s.integratedList = n :: r)) ∧
    (∃ (s : State), (DictWf s.od) ∧ (s.power ≠ 0)) ∧
    (∃ (s : State) (m : Fin 16) (now : Nat) (ctl : Nat) (off : Nat) (kinds : Nat), (DictWf s.od) ∧ (s.clk.marks[↑m]? = some (ctl, off, kinds)) ∧ (s.power = 1) ∧ (bit ctl 0 = true) ∧ (bit s.clk.marksFired ↑m = false) ∧ (s.clk.startNow + off ≤ max s.clk.now now)) ∧
    (∃ (s : State) (m : Fin 16) (now : Nat) (ctl : Nat) (off : Nat) (kinds : Nat), (DictWf s.od) ∧ (s.clk.marks[↑m]? = some (ctl, off, kinds)) ∧ (s.power = 1) ∧ (bit ctl 0 = true) ∧ (bit s.clk.marksFired ↑m = false) ∧ (s.clk.startNow + off ≤ max s.clk.now now)) :=
  ⟨⟨(st [(K.NETWORK_STATE, 1)]), (by unfold DictWf SMap.Wf; decide +kernel), by decide +kernel⟩,
    ⟨(st []), (by unfold DictWf SMap.Wf; decide +kernel), by decide +kernel⟩,
    ⟨(st [(K.GUARD_STATE 3, 3)]), 3, [], (by unfold DictWf SMap.Wf; decide +kernel), by decide +kernel⟩,
    ⟨(st [(K.POWER_STATE, 1)]), (by unfold DictWf SMap.Wf; decide +kernel), by decide +kernel⟩,
    ⟨{(st [(K.POWER_STATE, 1)]) with clk := {marks := [(1, 100, 0)]}}, 0, 3000, 1, 100, 0, (by unfold DictWf SMap.Wf; decide +kernel), by decide +kernel⟩,
    ⟨{(st [(K.POWER_STATE, 1)]) with clk := {marks := [(7 + 256 * 3, 100, 0)]}}, 0, 3000, (7 + 256 * 3), 100, 0, (by unfold DictWf SMap.Wf; decide +kernel), by decide +kernel⟩⟩

theorem witness_FeedbackOfACycle :
    (∃ (s : State) (p : Fin 48) (mac : Nat) (f : Bytes), (((s.at (s.clk.startNow + mac)).arrive (↑p) mac true f).snd = some (Place.slot 0)) ∧ (cyclicLen s.cf (portIsland ↑p) false ≤ List.length f)) ∧
    (∃ (s : State) (p : Fin 48) (mac : Nat) (f : Bytes), (((s.at (s.clk.startNow + mac)).arrive (↑p) mac true f).snd = some (Place.slot 0)) ∧ (cyclicLen s.cf (portIsland ↑p) false ≤ List.length f)) ∧
    (∃ (s : State) (p : Fin 48) (mac : Nat) (f : Bytes), (((s.at (s.clk.startNow + mac)).arrive (↑p) mac true f).snd = some (Place.slot 0)) ∧ (cyclicLen s.cf (portIsland ↑p) false ≤ List.length f)) ∧
    (∃ (s : State), (s.agrees = false)) ∧
    (∃ (s : State), (s.agrees = true)) ∧
    (∃ (s : State) (src : Fin 32) (f : Bytes), (s.dual.on = true) ∧ (s.straitUp = true) ∧ (↑src < 24) ∧ (s.validUp (↑src) true (headerOf f) 3 = true) ∧ (cyclicLen s.cf (↑src) false ≤ List.length f)) ∧
    (∃ (s : State) (src : Fin 32), (s.dual.on = true) ∧ (s.straitUp = true) ∧ (24 ≤ ↑src) ∧ (s.dhRole = 2)) :=
  ⟨⟨(net3 [] []), 3, 2416, (hdr 3 3 0 7 ++ zeros 20), by decide +kernel⟩,
    ⟨{(net3 [] []) with islands := [(3, {fbDone := true})]}, 3, 2416, (hdr 3 3 0 7 ++ zeros 20), by decide +kernel⟩,
    ⟨(net3 [] ax0), 3, 2416, (hdr 3 3 0 7 ++ zeros 36), by decide +kernel⟩,
    ⟨(net3 [] ax0), by decide +kernel⟩,
    ⟨{(net3 [(K.STRAIT_STATE, 2)] ax0) with dual := {on := true}}, by decide +kernel⟩,
    ⟨{(net3 [(K.STRAIT_STATE, 2)] []) with dual := {on := true}}, 3, (hdr 3 3 0 7 ++ zeros 20), by decide +kernel⟩,
    ⟨{(net3 [(K.STRAIT_STATE, 2), (K.DH_ROLE, 2)] []) with dual := {on := true}}, 25, by decide +kernel⟩⟩

theorem witness_PointsAndRelayFrames :
    (∃ (s : State) (p : Fin 48) (mac : Nat) (f : Bytes) (pl : Place), (((s.at (s.clk.startNow + mac)).arrive (↑p) mac true f).snd = some pl) ∧ ((s.island (portIsland ↑p)).seen.contains pl.key = false) ∧ (Place.ty s.cf pl = 5) ∧ (20 ≤ List.length f) ∧ (uAt f 12 1 < 8) ∧ (uAt f 10 1 = 0) ∧ (uAt f 11 1 = partCount (pointsBytes s.cf (portIsland ↑p) false (uAt f 12 1))) ∧ (20 + min 1480 (pointsBytes s.cf (portIsland ↑p) false (uAt f 12 1)) ≤ List.length f)) ∧
    (∃ (s : State) (p : Fin 48) (mac : Nat) (f : Bytes) (pl : Place) (src : Nat) (dest : Nat) (rseq : Nat) (data : Bytes), (((s.at (s.clk.startNow + mac)).arrive (↑p) mac true f).snd = some pl) ∧ ((s.island (portIsland ↑p)).seen.contains pl.key = false) ∧ (Place.ty s.cf pl = 7) ∧ (16 ≤ List.length f) ∧ (relayEntries (uAt f 12 1) 16 f = [(src, dest, rseq, data)]) ∧ (dest ≠ 255) ∧ (s.integrated dest = true) ∧ (relaySlots s.cf dest ≠ []) ∧ ((s.net.relays.get [] dest).length < 4)) ∧
    (∃ (s : State) (p : Fin 48) (mac : Nat) (f : Bytes) (pl : Place) (src : Nat) (dest : Nat) (rseq : Nat) (data : Bytes), (((s.at (s.clk.startNow + mac)).arrive (↑p) mac true f).snd = some pl) ∧ ((s.island (portIsland ↑p)).seen.contains pl.key = false) ∧ (Place.ty s.cf pl = 7) ∧ (16 ≤ List.length f) ∧ (relayEntries (uAt f 12 1) 16 f = [(src, dest, rseq, data)]) ∧ (dest ≠ 255) ∧ (s.integrated dest = true) ∧ (relaySlots s.cf dest ≠ []) ∧ (4 ≤ (s.net.relays.get [] dest).length) ∧ (s.rdN K.RELAY_DROPS + 1 ≤ odMax K.RELAY_DROPS)) ∧
    (∃ (s : State) (p : Fin 48) (mac : Nat) (f : Bytes) (pl : Place) (src : Nat) (dest : Nat) (rseq : Nat) (data : Bytes), (((s.at (s.clk.startNow + mac)).arrive (↑p) mac true f).snd = some pl) ∧ ((s.island (portIsland ↑p)).seen.contains pl.key = false) ∧ (Place.ty s.cf pl = 7) ∧ (16 ≤ List.length f) ∧ (relayEntries (uAt f 12 1) 16 f = [(src, dest, rseq, data)]) ∧ (dest ≠ 255) ∧ (s.integrated dest = false) ∧ (s.rdN K.RELAY_NO_SLOT + 1 ≤ odMax K.RELAY_NO_SLOT)) :=
  ⟨⟨(net3 [] [(K.SLOT_ROLE 0, 3), (K.SLOT_PORT_MASK 0, 8)]), 3, 11416, (hdr 5 3 0 256 ++ [1, 0, 5, 0, 77, 0, 0, 0]), (.slot 2), by decide +kernel⟩,
    ⟨(net3 [(K.GUARD_STATE 5, 3)] [(K.SLOT_ROLE 0, 0x40), (K.SLOT_PORT_MASK 0, 32), (K.MINISLOT_OWNER 0, 771)]), 3, 13816, (hdr 7 3 0 0 ++ [1, 0, 0, 0, 3, 5, 4, 9, 1, 2, 3, 4]), (.mini 0), 3, 5, 9, [1, 2, 3, 4], by decide +kernel⟩,
    ⟨{(net3 [(K.GUARD_STATE 5, 3)] [(K.SLOT_ROLE 0, 0x40), (K.SLOT_PORT_MASK 0, 32), (K.MINISLOT_OWNER 0, 771)]) with net := {relays := [(5, [⟨1,1,[],0⟩,⟨1,1,[],0⟩,⟨1,1,[],0⟩,⟨1,1,[],0⟩])]}}, 3, 13816, (hdr 7 3 0 0 ++ [1, 0, 0, 0, 3, 5, 4, 9, 1, 2, 3, 4]), (.mini 0), 3, 5, 9, [1, 2, 3, 4], by decide +kernel⟩,
    ⟨(net3 [] [(K.SLOT_ROLE 0, 0x40), (K.SLOT_PORT_MASK 0, 32), (K.MINISLOT_OWNER 0, 771)]), 3, 13816, (hdr 7 3 0 0 ++ [1, 0, 0, 0, 3, 5, 4, 9, 1, 2, 3, 4]), (.mini 0), 3, 5, 9, [1, 2, 3, 4], by decide +kernel⟩⟩

theorem witness_GuardianAndRecords :
    (∃ (s : State) (p : Fin 48), (s.portOpen ↑p = false) ∧ (s.portStarting ↑p = false)) ∧
    (∃ (s : State) (n : Fin 24), (s.settles ↑n = true)) ∧
    (∃ (s : State) (n : Fin 24) (j : Fin 16) (a : Nat), (s.settles ↑n = true) ∧ (axisAt s.cf ↑n ↑j = some a) ∧ (axisOn s.cf a = true) ∧ ((s.axis a).settled = Settled.open_) ∧ ((s.axis a).committed = true) ∧ ((s.axis a).cancelled = false)) ∧
    (∃ (s : State) (n : Fin 24) (j : Fin 16) (a : Nat), (s.settles ↑n = true) ∧ (axisAt s.cf ↑n ↑j = some a) ∧ (axisOn s.cf a = true) ∧ ((s.axis a).settled = Settled.open_) ∧ ((s.axis a).committed = false)) :=
  ⟨⟨(st []), 3, by decide +kernel⟩,
    ⟨{(net3 [] ax0) with axes := [(0, {committed := true, dutyU := 5})]}, 3, by decide +kernel⟩,
    ⟨{(net3 [] ax0) with axes := [(0, {committed := true, dutyU := 5, lateU := 4})]}, 3, 0, 0, by decide +kernel⟩,
    ⟨{(net3 [] ax0) with axes := [(0, {dutyU := 5, sentV := 9, lateU := 4})]}, 3, 0, 0, by decide +kernel⟩⟩

theorem witness_DownstreamFrames :
    (∃ (s : State) (n : Fin 24) (late : Nat), (s.integrated ↑n = true) ∧ (s.netState = N.OPERATE) ∧ (s.power ≠ 0) ∧ (s.sched.len + s.sched.apDown + late + wireNs (cyclicLen s.cf (↑n) true) ≤ 2 * s.sched.len)) ∧
    (∃ (s : State) (n : Fin 24) (late : Nat) (k : Nat) (r : List Nat), (s.integrated ↑n = true) ∧ (s.netState = N.OPERATE) ∧ (relaySlots s.cf ↑n = k :: r) ∧ ((s.island ↑n).relaySent = false) ∧ (((s.net.relays.get [] ↑n).any fun x => x.tick.blt s.clk.tick) = true) ∧ (have now := List.filter (fun x => x.tick.blt s.clk.tick) (s.net.relays.get [] ↑n); k * s.sched.len + s.sched.apDown + late + wireNs (16 + (List.flatMap (fun x => relayEntry x.src (↑n) x.rseq x.data) now).length) ≤ (k + 1) * s.sched.len)) ∧
    (∃ (s : State) (n : Fin 24) (late : Nat) (k : Fin 64) (seq : Nat) (body : Bytes), (s.integrated ↑n = true) ∧ (s.netState = N.OPERATE) ∧ (↑k < s.sched.slots) ∧ (downRole s.cf ↑k = 3) ∧ (slotMask s.cf ↑k ↑n = true) ∧ (s.pointsNext ↑n = some (seq, body)) ∧ (↑k * s.sched.len + s.sched.apDown + late + wireNs (12 + List.length body) ≤ (↑k + 1) * s.sched.len)) ∧
    (∃ (s : State) (n : Fin 24) (late : Nat) (id : Fin 1024) (f : DynFrame) (p : Nat) (st : Nat), (s.integrated ↑n = true) ∧ (s.netState = N.OPERATE) ∧ (↑id ∈ ownedIds s.cf (↑n) true) ∧ (s.dynNext ↑n ↑id = some f) ∧ (s.openPorts ↑n = [p]) ∧ ((s.port p).dnIdx ≤ (List.filter (fun x => decide (x < ↑id)) (ownedIds s.cf (↑n) true)).length) ∧ ((s.dynPort p (↑id) (wireNs (12 + List.length f.body))).snd = some st) ∧ (st + late + wireNs (12 + List.length f.body) ≤ dynEnd s.cf)) :=
  ⟨⟨(net3 [] []), 3, 0, by decide +kernel⟩,
    ⟨{(net3 [] [(K.SLOT_ROLE 0, 0x40), (K.SLOT_PORT_MASK 0, 8)]) with net := {relays := [(3, [⟨1,1,[7],0⟩])]}, clk := {tick := 1}}, 3, 0, 2, [], by decide +kernel⟩,
    ⟨{(net3 [] [(K.SLOT_ROLE 0, 0x30), (K.SLOT_PORT_MASK 0, 8)]) with islands := [(3, {pointsOut := [{content := 1, ocCount := 0, sample := 5, done := 0, data := [1,2,3,4]}]})]}, 3, 0, 2, 256, (leBytes 1 1 ++ [0] ++ leBytes 2 0 ++ leBytes 4 5 ++ [1,2,3,4]), by decide +kernel⟩,
    ⟨{(net3 [] [(K.MINISLOT_OWNER 0, 3 + 128 + 512)]) with islands := [(3, {pointsOut := [{content := 1, ocCount := 0, sample := 5, done := 0, data := [1,2,3,4]}]})]}, 3, 0, 0, {ty := 5, seq := 256, flags := 0, body := leBytes 1 1 ++ [0] ++ leBytes 2 0 ++ leBytes 4 5 ++ [1,2,3,4]}, 3, 9100, by decide +kernel⟩⟩

theorem witness_PointImageAndMasters :
    (∃ (s : State) (p : Fin 262144) (v : Int) (n : Nat) (j : Nat) (r : PointRun), (pointOwner s.cf ↑p = some (n, j, r)) ∧ (r.output = true) ∧ ((pointRange r.ty).fst ≤ v) ∧ (v ≤ (pointRange r.ty).snd)) ∧
    (∃ (s : State) (p : Fin 262144) (v : Int) (n : Nat) (j : Nat) (r : PointRun), (pointOwner s.cf ↑p = some (n, j, r)) ∧ (r.output = true) ∧ (v < (pointRange r.ty).fst ∨ (pointRange r.ty).snd < v)) ∧
    (∃ (s : State) (p : Fin 262144), (Option.any (fun e => e.snd.snd.output) (pointOwner s.cf ↑p) = false)) ∧
    (∃ (s : State), (s.power ≠ 0)) :=
  ⟨⟨(stA [] [(K.FIRST_POINT 3, 100), (K.RUN_COUNT 3, 1), (K.RUN 3 0, 4 + 65536 * 1 + 2 ^ 21)]), 102, 7, 3, 2, ⟨4, 1, 0, true, false⟩, by decide +kernel⟩,
    ⟨(stA [] [(K.FIRST_POINT 3, 100), (K.RUN_COUNT 3, 1), (K.RUN 3 0, 4 + 65536 * 1 + 2 ^ 21)]), 102, 700, 3, 2, ⟨4, 1, 0, true, false⟩, by decide +kernel⟩,
    ⟨(stA [] [(K.FIRST_POINT 3, 100), (K.RUN_COUNT 3, 1), (K.RUN 3 0, 4 + 65536 * 1)]), 102, by decide +kernel⟩,
    ⟨{(net3 [] []) with rxPts := [(4, 5)], outPts := [(9, 3)]}, by decide +kernel⟩⟩

theorem witness_EventWheel :
    (∃ (b : Bytes), (List.length b ≠ 32)) ∧
    (∃ (s : State) (e : Fin 4096) (b : Bytes) (c : Nat), (List.length b = 32) ∧ (s.wheelRefuse (↑e) (wheelRec b) = some c)) ∧
    (∃ (s : State) (e : Fin 4096) (b : Bytes), (List.length b = 32) ∧ (s.wheelRefuse (↑e) (wheelRec b) = none) ∧ ((wheelRec b).kind = 0)) ∧
    (∃ (s : State) (e : Fin 4096) (b : Bytes), (List.length b = 32) ∧ (s.wheelRefuse (↑e) (wheelRec b) = none) ∧ ((wheelRec b).kind = 1) ∧ (s.earliest (wheelRec b) ≤ (wheelRec b).time)) ∧
    (∃ (s : State) (e : Fin 4096) (now : Nat) (i : Int), (s.power ≠ 0) ∧ ((s.at now).wheelDue ↑e = some i) ∧ ((s.at now).wheelWaits (↑e) i = false) ∧ ((s.wheelRec ↑e).action = 7) ∧ ((s.wheelRec ↑e).periodic = false)) ∧
    (∃ (s : State) (e : Fin 4096) (now : Nat) (i : Int), ((s.wheelEntry ↑e).instant = some i) ∧ (s.wheelState ↑e = 2) ∧ (i ≤ ↑(s.at now).netNow) ∧ ((s.wheelRec ↑e).periodic = false)) :=
  ⟨⟨[1], by decide +kernel⟩,
    ⟨(st []), 5, (1 :: 99 :: zeros 30), 1, by decide +kernel⟩,
    ⟨(st []), 5, (zeros 32), by decide +kernel⟩,
    ⟨(st []), 5, ([1, 0, 7, 0, 3, 0, 0, 0, 5] ++ zeros 23), by decide +kernel⟩,
    ⟨{(net3 [(K.ENTRY_STATUS 5, 1)] []) with wheel := [(5, {instant := some 5})], odB := [(K.ENTRY 5, [1, 0, 7, 0, 3, 0, 0, 0, 5] ++ zeros 23)]}, 5, 900, 5, by decide +kernel⟩,
    ⟨{(net3 [(K.ENTRY_STATUS 5, 2)] []) with wheel := [(5, {instant := some 5})], odB := [(K.ENTRY 5, [1, 0, 1, 0, 3, 0, 0, 0, 5] ++ zeros 23)]}, 5, 900, 5, by decide +kernel⟩⟩

theorem witness_TaskLife :
    (∃ (s : State) (tag : Nat) (deps : List Nat) (tt : Bool), (s.ferry.used tt < entryLimit tt) ∧ (deps.length ≤ 4) ∧ (tag < 2 ^ 32)) ∧
    (∃ (s : State), (entryLimit false ≤ s.ferry.used false)) ∧
    (∃ (s : State), (entryLimit true ≤ s.ferry.used true)) ∧
    (∃ (s : State), (entryLimit true ≤ s.ferry.used true)) ∧
    (∃ (s : State) (now : Nat) (k : Fin 64) (u : Machine.Task), ((s.at now).endQuiet.nextReady = some u) ∧ (((s.at now).endQuiet.preference u ↑k).isSome = true) ∧ ((s.at now).endQuiet.preference u ↑k = (s.at now).endQuiet.bestPreference u)) ∧
    (∃ (s : State) (id : Nat) (u : Machine.Task) (k : Nat), (s.ferry.find id = some u) ∧ (u.phase = TaskPhase.prefetched k) ∧ ((s.ferry.tasks.any fun x => x.id != id && x.runs k) = true)) ∧
    (∃ (s : State) (id : Nat) (u : Machine.Task) (k : Nat), (s.ferry.find id = some u) ∧ (u.phase = TaskPhase.prefetched k) ∧ ((s.ferry.tasks.any fun x => x.runs k) = false) ∧ ((s.ferry.tasks.all fun x => x.phase != TaskPhase.loaded k) = true)) ∧
    (∃ (s : State) (id : Nat) (u : Machine.Task) (k : Nat), (s.ferry.find id = some u) ∧ (u.phase = TaskPhase.executing k) ∧ (u.cancelled = false) ∧ ((s.ferry.tasks.any fun x => x.phase == TaskPhase.buffered k) = false)) ∧
    (∃ (s : State) (id : Nat) (u : Machine.Task) (k : Nat), (s.ferry.find id = some u) ∧ (u.phase = TaskPhase.executing k) ∧ (u.cancelled = false) ∧ ((s.ferry.tasks.any fun x => x.phase == TaskPhase.buffered k) = true)) ∧
    (∃ (s : State) (id : Nat) (r : List Nat) (u : Machine.Task) (a : Nat), (s.ferry.accepted = id :: r) ∧ (s.ferry.find id = some u) ∧ (∀ (w : Machine.Task), w ∈ s.ferry.waitingSources → w.id ≠ id) ∧ (u.kind = TaskKind.reconcile a) ∧ (u.tag = s.cycle)) ∧
    (∃ (s : State) (id : Nat) (u : Machine.Task), (List.filter (fun x => x.id == id) s.ferry.tasks = [u]) ∧ (u.cancelled = false) ∧ (u.phase = TaskPhase.waiting)) ∧
    (∃ (s : State) (id : Nat) (u : Machine.Task) (k : Nat), (List.filter (fun x => x.id == id) s.ferry.tasks = [u]) ∧ (u.cancelled = false) ∧ (u.phase = TaskPhase.executing k)) :=
  ⟨⟨(st []), 7, [], true, by decide +kernel⟩,
    ⟨{(st []) with ferry := {freedOther := 2560}}, by decide +kernel⟩,
    ⟨{(st []) with ferry := {freedTt := 1536}}, by decide +kernel⟩,
    ⟨{(st []) with ferry := {freedTt := 1536, admitTick := some 0}}, by decide +kernel⟩,
    ⟨{(st [(K.SKERRY_STATE 2, 1), (K.CLUSTER_STATE 0, 1)]) with ferry := {tasks := [tk 4 .other .waiting]}}, 50, 2, (tk 4 .other .waiting), by decide +kernel⟩,
    ⟨{(st []) with ferry := {tasks := [tk 4 .other (.prefetched 2), tk 5 .other (.executing 2)]}}, 4, (tk 4 .other (.prefetched 2)), 2, by decide +kernel⟩,
    ⟨{(st []) with ferry := {tasks := [tk 4 .other (.prefetched 2)]}}, 4, (tk 4 .other (.prefetched 2)), 2, by decide +kernel⟩,
    ⟨{(st []) with ferry := {tasks := [tk 4 .other (.executing 2)]}}, 4, (tk 4 .other (.executing 2)), 2, by decide +kernel⟩,
    ⟨{(st []) with ferry := {tasks := [tk 4 .other (.executing 2), tk 3 .other (.buffered 2)]}}, 4, (tk 4 .other (.executing 2)), 2, by decide +kernel⟩,
    ⟨{(st []) with ferry := {tasks := [tk 4 (.reconcile 3) (.accepted 7)], accepted := [4]}}, 4, [], (tk 4 (.reconcile 3) (.accepted 7)), 3, by decide +kernel⟩,
    ⟨{(st []) with ferry := {tasks := [tk 4 (.reconcile 3) .waiting]}}, 4, (tk 4 (.reconcile 3) .waiting), by decide +kernel⟩,
    ⟨{(st []) with ferry := {tasks := [tk 4 (.reconcile 3) (.executing 9)]}}, 4, (tk 4 (.reconcile 3) (.executing 9)), 9, by decide +kernel⟩⟩

theorem witness_SkerryService :
    (∃ (s : State) (k : Fin 64), (s.skerry ↑k = 1 ∨ s.skerry ↑k = 3)) ∧
    (∃ (s : State) (id : Nat) (u : Machine.Task) (k : Fin 64), (s.ferry.find id = some u) ∧ (u.phase = TaskPhase.executing ↑k) ∧ (u.overruns = 0)) ∧
    (∃ (s : State) (id : Nat) (u : Machine.Task) (k : Fin 64), (s.ferry.find id = some u) ∧ (u.phase = TaskPhase.executing ↑k) ∧ (u.overruns ≠ 0)) ∧
    (∃ (s : State) (j : Fin 8), (s.cluster ↑j = 1 ∨ s.cluster ↑j = 2)) ∧
    (∃ (s : State) (k : Fin 64), (s.skerry ↑k = 1 ∨ s.skerry ↑k = 3)) ∧
    (∃ (s : State) (k : Fin 64), (s.skerry ↑k = 0)) ∧
    (∃ (s : State) (k : Fin 64), (s.skerry ↑k = 2) ∧ (s.cluster (↑k / 8) = 1)) ∧
    (∃ (s : State) (k : Fin 64), (s.skerry ↑k ≠ 2)) ∧
    (∃ (s : State) (k : Fin 64), (s.skerry ↑k = 3)) ∧
    (∃ (s : State) (a : Fin 128) (ins : List Nat) (outs : List Nat) (tag : Nat), ((s.axis ↑a).graph.fbTag = some tag) ∧ (graphAxis s.cf ↑a = true) ∧ (ins.length ≤ 4) ∧ ((ins.all fun k => (s.axis ↑a).graph.tokens.find k == some tag) = true) ∧ ((outs.all fun k => ((s.axis ↑a).graph.tokens.find k).isNone) = true) ∧ (s.ferry.tasks = []) ∧ (s.ferry.freedTt < 1536)) :=
  ⟨⟨{(st [(K.SKERRY_STATE 2, 1)]) with ferry := {tasks := [tk 4 (.reconcile 3) (.executing 2)]}}, 2, by decide +kernel⟩,
    ⟨{(st [(K.SKERRY_STATE 2, 1)]) with ferry := {tasks := [tk 4 (.reconcile 3) (.executing 2)]}}, 4, (tk 4 (.reconcile 3) (.executing 2)), 2, by decide +kernel⟩,
    ⟨{(st [(K.SKERRY_STATE 2, 1)]) with ferry := {tasks := [{tk 4 (.reconcile 3) (.executing 2) with overruns := 1}]}}, 4, {tk 4 (.reconcile 3) (.executing 2) with overruns := 1}, 2, by decide +kernel⟩,
    ⟨{(st [(K.SKERRY_STATE 10, 1), (K.CLUSTER_STATE 1, 1)]) with ferry := {tasks := [tk 4 (.reconcile 3) (.executing 10)]}}, 1, by decide +kernel⟩,
    ⟨(st [(K.SKERRY_STATE 10, 1)]), 10, by decide +kernel⟩,
    ⟨(st [(K.SKERRY_STATE 10, 0)]), 10, by decide +kernel⟩,
    ⟨(st [(K.SKERRY_STATE 10, 2), (K.CLUSTER_STATE 1, 1)]), 10, by decide +kernel⟩,
    ⟨(st [(K.SKERRY_STATE 10, 1), (K.CLUSTER_STATE 1, 1)]), 10, by decide +kernel⟩,
    ⟨(st [(K.SKERRY_STATE 10, 3), (K.CLUSTER_STATE 1, 1)]), 10, by decide +kernel⟩,
    ⟨{(stA [(K.POWER_STATE, 2)] (ax0 ++ [(K.GRAPH_AXIS 0, 0)])) with axes := [(0, {graph := {fbTag := some 5, tokens := [(3, 5)]}})]}, 0, [3], [4], 5, by decide +kernel⟩⟩

theorem witness_AxisControlWord :
    (∃ (s : State) (a : Fin 128) (w : BitVec 16), (controlOk w.toNat = true) ∧ (bit w.toNat 0 = true) ∧ (bit (s.rdN (K.CONTROL_WORD ↑a)) 0 = false) ∧ (s.axState ↑a = 1) ∧ (s.enableBar ↑a = none) ∧ (KeepsBits s (↑a) w [1, 2])) ∧
    (∃ (s : State) (a : Fin 128) (w : BitVec 16) (c : Nat), (controlOk w.toNat = true) ∧ (bit w.toNat 0 = true) ∧ (bit (s.rdN (K.CONTROL_WORD ↑a)) 0 = false) ∧ (s.enableRefused ↑a = some c)) ∧
    (∃ (s : State) (a : Fin 128) (w : BitVec 16), (controlOk w.toNat = true) ∧ (bit w.toNat 0 = false) ∧ (bit (s.rdN (K.CONTROL_WORD ↑a)) 0 = true) ∧ (KeepsBits s (↑a) w [1, 2]) ∧ (s.axState ↑a = 3)) ∧
    (∃ (s : State) (a : Fin 128) (w : BitVec 16), (controlOk w.toNat = true) ∧ (bit w.toNat 0 = false) ∧ (bit (s.rdN (K.CONTROL_WORD ↑a)) 0 = true) ∧ (KeepsBits s (↑a) w [1, 2]) ∧ (s.axState ↑a = 2 ∨ s.axState ↑a = 5)) ∧
    (∃ (s : State) (a : Fin 128) (w : BitVec 16), (controlOk w.toNat = true) ∧ (bit w.toNat 1 = true) ∧ (bit (s.rdN (K.CONTROL_WORD ↑a)) 1 = false) ∧ (KeepsBits s (↑a) w [0, 2]) ∧ (s.axState ↑a = 3)) ∧
    (∃ (s : State) (a : Fin 128) (w : BitVec 16), (controlOk w.toNat = true) ∧ (bit w.toNat 1 = false) ∧ (bit (s.rdN (K.CONTROL_WORD ↑a)) 1 = true) ∧ (bit w.toNat 0 = true) ∧ (KeepsBits s (↑a) w [0, 2]) ∧ (s.axState ↑a = 5)) ∧
    (∃ (s : State) (a : Fin 128) (w : BitVec 16), (controlOk w.toNat = true) ∧ (bit w.toNat 2 = true) ∧ (bit (s.rdN (K.CONTROL_WORD ↑a)) 2 = false) ∧ (KeepsBits s (↑a) w [0, 1]) ∧ (s.axState ↑a = 8) ∧ (bit w.toNat 0 = false) ∧ ((s.wr (K.CONTROL_WORD ↑a) ↑w.toNat).causePresent ↑a = false)) ∧
    (∃ (s : State) (a : Fin 128) (w : BitVec 16), (controlOk w.toNat = true) ∧ (bit w.toNat 2 = true) ∧ (bit (s.rdN (K.CONTROL_WORD ↑a)) 2 = false) ∧ (KeepsBits s (↑a) w [0, 1]) ∧ (s.axState ↑a = 8) ∧ (bit w.toNat 0 = true)) ∧
    (∃ (s : State) (a : Fin 128) (w : BitVec 16), (controlOk w.toNat = true) ∧ (field w.toNat 4 2 ≠ field (s.rdN (K.CONTROL_WORD ↑a)) 4 2) ∧ (KeepsBits s (↑a) w [0, 1, 2]) ∧ (s.axState ↑a = 3) ∧ (s.level ↑a ≤ 3) ∧ (closeLevelOf (s.axisType ↑a) w.toNat < s.level ↑a)) ∧
    (∃ (s : State) (a : Fin 128) (w : BitVec 16), (controlOk w.toNat = false) ∧ (bit w.toNat 0 = true) ∧ (bit (s.rdN (K.CONTROL_WORD ↑a)) 0 = false)) :=
  ⟨⟨(net3 [(K.AXIS_STATE 0, 1), (K.AXIS_SAFETY_STATE 0, 0), (K.FB_STATUS 0, 1)] ax0), 0, 0x11, (by decide +kernel), (by decide +kernel), (by decide +kernel), (by decide +kernel), (by decide +kernel), (by unfold KeepsBits; decide +kernel)⟩,
    ⟨(st [(K.AXIS_STATE 0, 8)]), 0, 0x11, 6, by decide +kernel⟩,
    ⟨(st [(K.AXIS_STATE 0, 3), (K.CONTROL_WORD 0, 0x11)]), 0, 0x10, (by decide +kernel), (by decide +kernel), (by decide +kernel), (by unfold KeepsBits; decide +kernel), by decide +kernel⟩,
    ⟨(st [(K.AXIS_STATE 0, 2), (K.CONTROL_WORD 0, 0x11)]), 0, 0x10, (by decide +kernel), (by decide +kernel), (by decide +kernel), (by unfold KeepsBits; decide +kernel), by decide +kernel⟩,
    ⟨(st [(K.AXIS_STATE 0, 3), (K.CONTROL_WORD 0, 0x11)]), 0, 0x13, (by decide +kernel), (by decide +kernel), (by decide +kernel), (by unfold KeepsBits; decide +kernel), by decide +kernel⟩,
    ⟨{(st [(K.AXIS_STATE 0, 5), (K.CONTROL_WORD 0, 0x13)]) with axes := [(0, {quick := true})]}, 0, 0x11, (by decide +kernel), (by decide +kernel), (by decide +kernel), (by decide +kernel), (by unfold KeepsBits; decide +kernel), by decide +kernel⟩,
    ⟨(st [(K.AXIS_STATE 0, 8), (K.CONTROL_WORD 0, 0x10), (K.FAULT_CODE 0, Ev.STALL)]), 0, 0x14, (by decide +kernel), (by decide +kernel), (by decide +kernel), (by unfold KeepsBits; decide +kernel), by decide +kernel⟩,
    ⟨(st [(K.AXIS_STATE 0, 8), (K.CONTROL_WORD 0, 0x11)]), 0, 0x15, (by decide +kernel), (by decide +kernel), (by decide +kernel), (by unfold KeepsBits; decide +kernel), by decide +kernel⟩,
    ⟨(stA [(K.AXIS_STATE 0, 3), (K.CONTROL_WORD 0, 0x31), (K.CLOSED_LEVEL 0, 3)] ax0), 0, 0x11, (by decide +kernel), (by decide +kernel), (by unfold KeepsBits; decide +kernel), by decide +kernel⟩,
    ⟨(st []), 0, 0x1, by decide +kernel⟩⟩

theorem witness_AxisSettings :
    (∃ (s : State) (a : Fin 128) (obj : Fin 32) (sub : Fin 256) (v : Int), (isCoef ↑obj ↑sub = true) ∧ (valueOk s (odKey (16384 + ↑obj + 32 * ↑a) ↑sub) v = false)) ∧
    (∃ (s : State) (a : Fin 128) (obj : Fin 32) (sub : Fin 256) (v : Int), (isCoef ↑obj ↑sub = true) ∧ (valueOk s (odKey (16384 + ↑obj + 32 * ↑a) ↑sub) v = true) ∧ (((s.coefStages (↑a) (↑obj) (↑sub) v).all fun j => !s.stageClosed (↑a) j) = true)) ∧
    (∃ (s : State) (a : Fin 128) (obj : Fin 32) (sub : Fin 256) (v : Int), (isCoef ↑obj ↑sub = true) ∧ (valueOk s (odKey (16384 + ↑obj + 32 * ↑a) ↑sub) v = true) ∧ (((s.coefStages (↑a) (↑obj) (↑sub) v).all fun j => !s.stageClosed (↑a) j) = false)) ∧
    (∃ (s : State) (a : Fin 128) (sub : Fin 256) (v : Int), ((odRow (odKey (16396 + 32 * ↑a) ↑sub)).isSome = true) ∧ (valueOk s (odKey (16396 + 32 * ↑a) ↑sub) v = true) ∧ (((limitStages ↑sub).all fun j => !s.stageClosed (↑a) j || (s.wr (odKey (16396 + 32 * ↑a) ↑sub) v).limitsOk (↑a) j) = true)) ∧
    (∃ (s : State) (a : Fin 128) (sub : Fin 256) (v : Int), ((odRow (odKey (16396 + 32 * ↑a) ↑sub)).isSome = true) ∧ (valueOk s (odKey (16396 + 32 * ↑a) ↑sub) v = true) ∧ (((limitStages ↑sub).all fun j => !s.stageClosed (↑a) j || (s.wr (odKey (16396 + 32 * ↑a) ↑sub) v).limitsOk (↑a) j) = false)) ∧
    (∃ (s : State) (a : Fin 128), (s.stageClosed (↑a) 1 = false)) ∧
    (∃ (s : State) (a : Fin 128), (s.stageClosed (↑a) 1 = true)) :=
  ⟨⟨(stA [] ax0), 0, 2, 1, (-2147483649), by decide +kernel⟩,
    ⟨(stA [] ax0), 0, 2, 1, 5, by decide +kernel⟩,
    ⟨(stA [(K.CLOSED_LEVEL 0, 1)] ax0), 0, 2, 1, 5, by decide +kernel⟩,
    ⟨(stA [] ax0), 0, 1, 1073741824, by decide +kernel⟩,
    ⟨(stA [(K.CLOSED_LEVEL 0, 1)] ax0), 0, 1, 1157627904, by decide +kernel⟩,
    ⟨(stA [] ax0), 0, by decide +kernel⟩,
    ⟨(stA [(K.CLOSED_LEVEL 0, 1)] ax0), 0, by decide +kernel⟩⟩

theorem witness_AxisTimedTransitions :
    (∃ (s : State) (a : Fin 128) (now : Nat), (s.axState ↑a = 2) ∧ ((s.axis ↑a).aligning = false) ∧ ((s.at now).elapsed (s.axis ↑a).since (s.msOf (K.BRAKE_OPEN_TIME ↑a)) = true) ∧ (s.rd (K.BRAKE_OPEN_TIME ↑a) ≠ 0) ∧ (bit (s.axisStatus ↑a) 5 = false) ∧ (s.degraded ↑a = false)) ∧
    (∃ (s : State) (a : Fin 128) (now : Nat), (s.axState ↑a = 2) ∧ ((s.axis ↑a).aligning = false) ∧ ((s.at now).elapsed (s.axis ↑a).since (s.msOf (K.BRAKE_OPEN_TIME ↑a)) = true) ∧ (s.rd (K.BRAKE_OPEN_TIME ↑a) = 0 ∨ bit (s.axisStatus ↑a) 5 = true) ∧ (s.cf (K.COMM_SOURCE ↑a) = 1)) ∧
    (∃ (s : State) (a : Fin 128) (now : Nat), (s.axState ↑a = 2) ∧ ((s.axis ↑a).aligning = false) ∧ ((s.at now).elapsed (s.axis ↑a).since (s.msOf (K.BRAKE_OPEN_TIME ↑a)) = true) ∧ (s.rd (K.BRAKE_OPEN_TIME ↑a) = 0 ∨ bit (s.axisStatus ↑a) 5 = true) ∧ (s.cf (K.COMM_SOURCE ↑a) ≠ 1)) ∧
    (∃ (s : State) (a : Fin 128) (now : Nat), (s.axState ↑a = 2) ∧ ((s.axis ↑a).aligning = true) ∧ ((s.at now).elapsed (s.axis ↑a).since (s.msOf (K.ALIGN_TIME ↑a)) = true)) ∧
    (∃ (s : State) (a : Fin 128) (now : Nat), (s.axState ↑a = 6) ∧ ((s.at now).elapsed (s.axis ↑a).since (s.msOf (K.BRAKE_CLOSE_TIME ↑a)) = true)) ∧
    (∃ (s : State) (a : Fin 128) (now : Nat), ((s.at now).still ↑a = true) ∧ (s.source ↑a ≠ Src.STOP) ∧ (s.axState ↑a = 4) ∧ (bit (s.rdN (K.CONTROL_WORD ↑a)) 0 = false)) ∧
    (∃ (s : State) (a : Fin 128) (now : Nat), ((s.at now).still ↑a = true) ∧ (s.source ↑a ≠ Src.STOP) ∧ (s.axState ↑a = 4) ∧ (bit (s.rdN (K.CONTROL_WORD ↑a)) 0 = true) ∧ ((s.axis ↑a).quick = true) ∧ (bit (s.rdN (K.CONTROL_WORD ↑a)) 1 = false)) ∧
    (∃ (s : State) (a : Fin 128) (now : Nat), ((s.at now).still ↑a = true) ∧ (s.source ↑a ≠ Src.STOP) ∧ (s.axState ↑a = 4) ∧ (bit (s.rdN (K.CONTROL_WORD ↑a)) 0 = true) ∧ ((s.axis ↑a).quick = false ∨ bit (s.rdN (K.CONTROL_WORD ↑a)) 1 = true)) ∧
    (∃ (s : State) (a : Fin 128) (now : Nat), ((s.at now).still ↑a = true) ∧ (s.source ↑a ≠ Src.STOP) ∧ (s.axState ↑a = 7) ∧ (s.degraded ↑a = false)) ∧
    (∃ (s : State) (a : Fin 128) (now : Nat), (s.rd (K.OBS_STATE ↑a) = 2) ∧ ((s.at now).elapsed (s.axis ↑a).obs.since (s.msOf (K.OBS_CONV_TIME ↑a)) = true)) ∧
    (∃ (s : State) (a : Fin 128) (now : Nat), (s.axisType ↑a = 2) ∧ ((s.mot ↑a).holding = false) ∧ ((s.at now).elapsed (s.mot ↑a).setSince (s.msOf (K.HOLD_DELAY ↑a)) = true)) ∧
    (∃ (s : State) (a : Fin 128) (now : Nat), (s.degraded ↑a = true) ∧ ((s.axis ↑a).degUntil ≤ max s.clk.now now)) :=
  ⟨⟨{(stA [(K.AXIS_STATE 0, 2), (K.BRAKE_OPEN_TIME 0, 100)] ax0) with axes := [(0, {pwm := true})]}, 0, 100000000, by decide +kernel⟩,
    ⟨{(stA [(K.AXIS_STATE 0, 2), (K.BRAKE_OPEN_TIME 0, 0)] (ax0 ++ [(K.COMM_SOURCE 0, 1)])) with axes := [(0, {pwm := true})]}, 0, 100000000, by decide +kernel⟩,
    ⟨{(stA [(K.AXIS_STATE 0, 2), (K.BRAKE_OPEN_TIME 0, 0)] (ax0 ++ [(K.COMM_SOURCE 0, 2)])) with axes := [(0, {pwm := true})]}, 0, 100000000, by decide +kernel⟩,
    ⟨{(stA [(K.AXIS_STATE 0, 2)] (ax0 ++ [(K.COMM_SOURCE 0, 1)])) with axes := [(0, {aligning := true})]}, 0, 10000000000, by decide +kernel⟩,
    ⟨(stA [(K.AXIS_STATE 0, 6)] ax0), 0, 10000000000, by decide +kernel⟩,
    ⟨{(stA [(K.AXIS_STATE 0, 4)] ax0) with axes := [(0, {stillSince := some 0})]}, 0, 10000000000, by decide +kernel⟩,
    ⟨{(stA [(K.AXIS_STATE 0, 4), (K.CONTROL_WORD 0, 1)] ax0) with axes := [(0, {stillSince := some 0, quick := true})]}, 0, 10000000000, by decide +kernel⟩,
    ⟨{(stA [(K.AXIS_STATE 0, 4), (K.CONTROL_WORD 0, 3)] ax0) with axes := [(0, {stillSince := some 0, quick := true})]}, 0, 10000000000, by decide +kernel⟩,
    ⟨{(stA [(K.AXIS_STATE 0, 7)] ax0) with axes := [(0, {stillSince := some 0, quick := true})]}, 0, 10000000000, by decide +kernel⟩,
    ⟨(stA [(K.OBS_STATE 0, 2)] ax0), 0, 10000000000, by decide +kernel⟩,
    ⟨(stA [] [(K.AXIS_TYPE 0, 2)]), 0, 100000000000, by decide +kernel⟩,
    ⟨(stA [(K.AXIS_STATE 0, 3), (K.DEG_STATE 0, 1)] ax0), 0, 10000000000, by decide +kernel⟩⟩

theorem witness_AxisFaults :
    (∃ (s : State) (a : Fin 128), (s.axState ↑a = 3) ∧ (s.degraded ↑a = false) ∧ (s.rd (K.FE_WINDOW ↑a) ≠ 0) ∧ (s.stageClosed (↑a) 3 = true) ∧ (max 1 (s.rdN (K.FE_TIME ↑a)) ≤ (s.axis ↑a).feRun) ∧ ((s.axis ↑a).feFlag = false)) ∧
    (∃ (s : State) (a : Fin 128), (s.axState ↑a = 3) ∧ (s.degraded ↑a = false) ∧ (s.stalled ↑a = true)) ∧
    (∃ (s : State) (a : Fin 128), (s.axState ↑a = 3) ∧ (s.degraded ↑a = false) ∧ (s.cf (K.FB_SOURCE ↑a) ≠ 0) ∧ (max 1 (s.rdN (K.N_LOST ↑a)) ≤ s.rdN (K.MISSING_RUN ↑a)) ∧ (bit (s.rdN (K.FB_STATUS ↑a)) 3 = false) ∧ (s.sensorless (↑a) (s.frameValid ↑a) = false)) ∧
    (∃ (s : State) (a : Fin 128), (s.axState ↑a = 3) ∧ (s.degraded ↑a = false) ∧ (s.cf (K.FB_SOURCE ↑a) ≠ 0) ∧ (max 1 (s.rdN (K.N_LOST ↑a)) ≤ s.rdN (K.MISSING_RUN ↑a)) ∧ (bit (s.rdN (K.FB_STATUS ↑a)) 3 = false) ∧ (s.sensorless (↑a) (s.frameValid ↑a) = true)) ∧
    (∃ (s : State) (a : Fin 128), (s.axState ↑a = 3) ∧ (s.degraded ↑a = false) ∧ (s.cf (K.FB_SOURCE ↑a) ≠ 0) ∧ (max 1 (s.rdN (K.N_FREEZE ↑a)) ≤ (s.axis ↑a).freezeRun) ∧ (bit (s.rdN (K.FB_STATUS ↑a)) 4 = false) ∧ (s.sensorless (↑a) (s.frameValid ↑a) = false)) ∧
    (∃ (s : State) (a : Fin 128), (s.axState ↑a = 3) ∧ (s.degraded ↑a = false) ∧ (s.cf (K.FB_SOURCE ↑a) ≠ 0) ∧ (max 1 (s.rdN (K.N_FREEZE ↑a)) ≤ (s.axis ↑a).freezeRun) ∧ (bit (s.rdN (K.FB_STATUS ↑a)) 4 = false) ∧ (s.sensorless (↑a) (s.frameValid ↑a) = true)) ∧
    (∃ (s : State) (a : Fin 128), (s.axState ↑a = 3) ∧ (s.degraded ↑a = false) ∧ (s.rdN (K.SQUASH_RUN_LIMIT ↑a) ≠ 0) ∧ (s.rdN (K.SQUASH_RUN_LIMIT ↑a) ≤ (s.axis ↑a).squashRun) ∧ ((s.axis ↑a).squashRaised = false)) :=
  ⟨⟨{(stA [(K.AXIS_STATE 0, 3), (K.FE_WINDOW 0, 5), (K.CLOSED_LEVEL 0, 3)] ax0) with axes := [(0, {feRun := 100})]}, 0, by decide +kernel⟩,
    ⟨{(stA [(K.AXIS_STATE 0, 3), (K.STALL_ENABLE 0, 1), (K.OBS_ENABLE 0, 1), (K.MIN_OBS_SPEED 0, 0)] [(K.AXIS_TYPE 0, 2)]) with axes := [(0, {stallRun := 10000})]}, 0, by decide +kernel⟩,
    ⟨(stA [(K.AXIS_STATE 0, 3), (K.MISSING_RUN 0, 200)] (ax0 ++ [(K.FB_SOURCE 0, 1)])), 0, by decide +kernel⟩,
    ⟨{(stA [(K.AXIS_STATE 0, 3), (K.MISSING_RUN 0, 200), (K.DEG_ENABLE 0, 1), (K.OBS_STATE 0, 3)] (ax0 ++ [(K.FB_SOURCE 0, 1)])) with islands := [(3, {fb := some (zeros 60)})]}, 0, by decide +kernel⟩,
    ⟨{(stA [(K.AXIS_STATE 0, 3)] (ax0 ++ [(K.FB_SOURCE 0, 1)])) with axes := [(0, {freezeRun := 100000})]}, 0, by decide +kernel⟩,
    ⟨{(stA [(K.AXIS_STATE 0, 3), (K.DEG_ENABLE 0, 1), (K.OBS_STATE 0, 3)] (ax0 ++ [(K.FB_SOURCE 0, 1)])) with islands := [(3, {fb := some (zeros 60)})], axes := [(0, {freezeRun := 100000})]}, 0, by decide +kernel⟩,
    ⟨{(stA [(K.AXIS_STATE 0, 3), (K.SQUASH_RUN_LIMIT 0, 5)] ax0) with axes := [(0, {squashRun := 5})]}, 0, by decide +kernel⟩⟩

theorem witness_AxisComputation :
    (∃ (s : State) (a : Fin 128), (s.power = 2) ∧ (graphAxis s.cf ↑a = false) ∧ (s.rd (K.RA_ENABLE ↑a) = 1) ∧ ((s.axis ↑a).pwm = true) ∧ (1 ≤ s.level ↑a) ∧ ((s.axis ↑a).h1.isSome = true)) ∧
    (∃ (s : State) (a : Fin 128), (s.power = 2) ∧ (graphAxis s.cf ↑a = false) ∧ (s.computes ↑a = true) ∧ (s.rd (K.RA_ENABLE ↑a) = 1)) ∧
    (∃ (s : State) (a : Fin 128), (s.power = 2) ∧ (graphAxis s.cf ↑a = false) ∧ (s.computes ↑a = true) ∧ (s.rd (K.RA_ENABLE ↑a) = 0)) :=
  ⟨⟨{(net3 [(K.RA_ENABLE 0, 1), (K.CLOSED_LEVEL 0, 1), (K.AXIS_STATE 0, 3)] ax0) with axes := [(0, {pwm := true, h1 := some {}})]}, 0, by decide +kernel⟩,
    ⟨{(net3 [(K.RA_ENABLE 0, 1), (K.CLOSED_LEVEL 0, 1), (K.AXIS_STATE 0, 3)] ax0) with axes := [(0, {pwm := true, h1 := some {}})]}, 0, by decide +kernel⟩,
    ⟨{(net3 [(K.RA_ENABLE 0, 0), (K.CLOSED_LEVEL 0, 1), (K.AXIS_STATE 0, 3)] ax0) with axes := [(0, {pwm := true, h1 := some {}})]}, 0, by decide +kernel⟩⟩

theorem witness_EncoderEdges :
    (∃ (s : State) (c : Fin 8), (s.ioClock = true) ∧ (s.encMode ↑c = 1)) ∧
    (∃ (s : State) (c : Fin 8), (s.ioClock = true) ∧ (s.encMode ↑c = 1) ∧ (s.cf (K.INDEX_ENABLE ↑c) = 1)) ∧
    (∃ (s : State) (c : Fin 8), (s.ioClock = true) ∧ (s.encMode ↑c = 2)) :=
  ⟨⟨(stA [(K.PLL_LOCKED, 63)] [(K.ENC_MODE 1, 1)]), 1, by decide +kernel⟩,
    ⟨(stA [(K.PLL_LOCKED, 63), (K.POS_UNCERTAIN 1, 1)] ([(K.ENC_MODE 1, 1), (K.INDEX_ENABLE 1, 1), (K.FB_SOURCE 0, 2), (K.FB_CHANNEL 0, 1)] ++ ax0)), 1, by decide +kernel⟩,
    ⟨(stA [(K.PLL_LOCKED, 63)] [(K.ENC_MODE 1, 2)]), 1, by decide +kernel⟩⟩

theorem witness_MotionTables :
    (∃ (b : Bytes), (List.length b ≠ 32)) ∧
    (∃ (s : State) (a : Fin 128) (b : Bytes) (c : Nat), (List.length b = 32) ∧ (segReject b (s.mot ↑a).queue.length (s.cfN (K.SEG_ALLOC ↑a)) = some c)) ∧
    (∃ (s : State) (a : Fin 128) (b : Bytes) (c : Nat), (List.length b = 32) ∧ (segReject b (s.mot ↑a).queue.length (s.cfN (K.SEG_ALLOC ↑a)) = some c)) ∧
    (∃ (s : State) (a : Fin 128) (b : Bytes), (List.length b = 32) ∧ (segReject b (s.mot ↑a).queue.length (s.cfN (K.SEG_ALLOC ↑a)) = none)) ∧
    (∃ (s : State) (a : Fin 128), (s.motionBar (↑a) 3 = none) ∧ ((s.mot ↑a).queue.any Seg.cam = true → s.noMaster (s.camMaster ↑a) = false) ∧ (s.markReleases 0 = true) ∧ (s.rdN (K.MOVE_MODE ↑a) ≠ 1 → s.rdN (K.TABLE_COUNT ↑a) ≤ s.cfN (K.SEG_ALLOC ↑a)) ∧ ((s.mot ↑a).v = 0 ∨ (Option.map Seg.cam (s.mot ↑a).queue.head?).getD false = false) ∧ (s.rdN (K.MOVE_MODE ↑a) ≠ 1) ∧ (s.rdN (K.TABLE_COUNT ↑a) = 0)) ∧
    (∃ (s : State) (a : Fin 128), (s.motionBar (↑a) 3 = none) ∧ ((s.mot ↑a).queue.any Seg.cam = true → s.noMaster (s.camMaster ↑a) = false) ∧ (s.markReleases 0 = true) ∧ (s.rdN (K.MOVE_MODE ↑a) ≠ 1 → s.rdN (K.TABLE_COUNT ↑a) ≤ s.cfN (K.SEG_ALLOC ↑a)) ∧ ((s.mot ↑a).v = 0 ∨ (Option.map Seg.cam (s.mot ↑a).queue.head?).getD false = false) ∧ (s.rdN (K.MOVE_MODE ↑a) = 1 ∨ s.rdN (K.TABLE_COUNT ↑a) ≠ 0)) ∧
    (∃ (s : State) (a : Fin 128), (s.motionBar (↑a) 3 = none) ∧ ((s.mot ↑a).queue.any Seg.cam = true → s.noMaster (s.camMaster ↑a) = false) ∧ (s.markReleases 0 = true) ∧ (s.rdN (K.MOVE_MODE ↑a) ≠ 1 → s.rdN (K.TABLE_COUNT ↑a) ≤ s.cfN (K.SEG_ALLOC ↑a)) ∧ ((s.mot ↑a).v = 0 ∨ (Option.map Seg.cam (s.mot ↑a).queue.head?).getD false = false) ∧ (s.rdN (K.MOVE_MODE ↑a) = 1 ∨ s.rdN (K.TABLE_COUNT ↑a) ≠ 0)) ∧
    (∃ (s : State) (a : Fin 128), (s.stopping ↑a = false) ∧ (s.source ↑a = Src.TABLE)) ∧
    (∃ (s : State) (a : Fin 128), (s.stopping ↑a = false) ∧ (s.source ↑a ≠ Src.TABLE) ∧ (s.rd (K.MOVE_STATE ↑a) = 1)) ∧
    (∃ (s : State) (a : Fin 128), (s.rd (K.MOVE_STATE ↑a) = 1 ∨ s.rd (K.MOVE_STATE ↑a) = 2)) ∧
    (∃ (s : State) (a : Fin 128), (s.rd (K.MOVE_STATE ↑a) ≠ 1) ∧ (s.rd (K.MOVE_STATE ↑a) ≠ 2)) :=
  ⟨⟨[1], by decide +kernel⟩,
    ⟨(st []), 0, (zeros 32), 1, by decide +kernel⟩,
    ⟨(stA [] [(K.SEG_ALLOC 0, 10)]), 0, (segB 0 0 5 9), 3, by decide +kernel⟩,
    ⟨(stA [] [(K.SEG_ALLOC 0, 10)]), 0, (segB 1000 0 5 9), by decide +kernel⟩,
    ⟨(axOp [(K.MARK_CONTROL 0, 1), (K.MARK_TASKS 0, 1)] [(K.SEG_ALLOC 0, 10)] {mot := {queue := [segOf (segB 1000 0 5 9) 0]}}), 0, by decide +kernel⟩,
    ⟨(axOp [(K.MARK_CONTROL 0, 1), (K.MARK_TASKS 0, 1), (K.MOVE_MODE 0, 1)] [(K.SEG_ALLOC 0, 10)] {mot := {queue := [segOf (segB 1000 0 5 9) 0]}}), 0, by decide +kernel⟩,
    ⟨(axOp [(K.MARK_CONTROL 0, 1), (K.MARK_TASKS 0, 1), (K.TABLE_COUNT 0, 1)] [(K.SEG_ALLOC 0, 10)] {mot := {queue := [segOf (segB 1000 0 5 9) 0]}}), 0, by decide +kernel⟩,
    ⟨(axOp [(K.SOURCE 0, Src.TABLE), (K.MOVE_STATE 0, 2)] [] {mot := {queue := [segOf (segB 1000 0 5 9) 0]}}), 0, by decide +kernel⟩,
    ⟨(axOp [(K.MOVE_STATE 0, 1)] [] {mot := {queue := [segOf (segB 1000 0 5 9) 0]}}), 0, by decide +kernel⟩,
    ⟨(axOp [(K.MOVE_STATE 0, 1)] [] {mot := {queue := [segOf (segB 1000 0 5 9) 0]}}), 0, by decide +kernel⟩,
    ⟨(axOp [(K.MOVE_STATE 0, 3), (K.QUEUE_LEVEL 0, 1)] [] {mot := {queue := [segOf (segB 1000 0 5 9) 0]}}), 0, by decide +kernel⟩⟩

theorem witness_MotionMoves :
    (∃ (s : State) (a : Fin 128) (c : Instr) (target : Int), (c = Instr.moveAbs a ∧ target = s.rd (K.TARGET_POS ↑a) ∨ c = Instr.moveRel a ∧ target = wrapS 64 (s.pSet ↑a + s.rd (K.TARGET_POS ↑a))) ∧ (s.motionBar (↑a) 3 = none) ∧ (s.limitBars (↑a) (wrapS 64 (target - s.pSet ↑a)).sign = false) ∧ (s.rd (K.SOFT_LIMIT_ENABLE ↑a) = 1 → s.rd (K.POS_SOFT_MIN ↑a) ≤ target ∧ target ≤ s.rd (K.POS_SOFT_MAX ↑a))) ∧
    (∃ (s : State) (a : Fin 128) (c : Instr) (target : Int), (c = Instr.moveAbs a ∧ target = s.rd (K.TARGET_POS ↑a) ∨ c = Instr.moveRel a ∧ target = wrapS 64 (s.pSet ↑a + s.rd (K.TARGET_POS ↑a))) ∧ (s.motionBar (↑a) 3 = none) ∧ (s.limitBars (↑a) (wrapS 64 (target - s.pSet ↑a)).sign = false) ∧ (s.rd (K.SOFT_LIMIT_ENABLE ↑a) = 1 → s.rd (K.POS_SOFT_MIN ↑a) ≤ target ∧ target ≤ s.rd (K.POS_SOFT_MAX ↑a))) ∧
    (∃ (s : State) (a : Fin 128), (s.motionBar (↑a) 2 = none) ∧ (s.limitBars (↑a) (s.rd (K.JOG_VEL ↑a)).sign = false)) ∧
    (∃ (s : State) (a : Fin 128), (s.motionBar (↑a) 3 = none) ∧ (s.noMaster (s.camMaster ↑a) = false)) ∧
    (∃ (s : State) (a : Fin 128), (s.motionBar (↑a) 3 = none) ∧ ((s.mot ↑a).v = 0) ∧ (s.rdN (K.STEP_CHANNEL ↑a) < 8) ∧ (s.cf (K.ENC_MODE (s.rdN (K.STEP_CHANNEL ↑a))) = 2)) ∧
    (∃ (s : State) (a : Fin 128) (c : Instr), (c = Instr.gearDisengage a ∧ s.source ↑a = Src.GEAR ∨ c = Instr.stepDisengage a ∧ s.source ↑a = Src.STEPDIR ∨ c = Instr.haltProfile a ∧ s.source ↑a ≠ Src.IDLE ∧ s.source ↑a ≠ Src.STOP) ∧ (s.stopping ↑a = false)) ∧
    (∃ (s : State) (a : Fin 128) (c : Instr), (c = Instr.gearDisengage a ∧ s.source ↑a = Src.GEAR ∨ c = Instr.stepDisengage a ∧ s.source ↑a = Src.STEPDIR ∨ c = Instr.haltProfile a ∧ s.source ↑a ≠ Src.IDLE ∧ s.source ↑a ≠ Src.STOP) ∧ (s.stopping ↑a = false)) ∧
    (∃ (s : State) (a : Fin 128) (c : Instr), (c = Instr.gearDisengage a ∧ s.source ↑a = Src.GEAR ∨ c = Instr.stepDisengage a ∧ s.source ↑a = Src.STEPDIR ∨ c = Instr.haltProfile a ∧ s.source ↑a ≠ Src.IDLE ∧ s.source ↑a ≠ Src.STOP) ∧ (s.stopping ↑a = false)) ∧
    (∃ (s : State) (a : Fin 128) (c : Instr), (c = Instr.gearDisengage a ∧ s.source ↑a = Src.GEAR ∨ c = Instr.stepDisengage a ∧ s.source ↑a = Src.STEPDIR ∨ c = Instr.haltProfile a ∧ s.source ↑a ≠ Src.IDLE ∧ s.source ↑a ≠ Src.STOP) ∧ (s.stopping ↑a = false)) ∧
    (∃ (s : State) (a : Fin 128) (c : Instr), (c = Instr.gearDisengage a ∧ s.source ↑a = Src.GEAR ∨ c = Instr.stepDisengage a ∧ s.source ↑a = Src.STEPDIR ∨ c = Instr.haltProfile a ∧ s.source ↑a ≠ Src.IDLE ∧ s.source ↑a ≠ Src.STOP) ∧ (s.stopping ↑a = false)) ∧
    (∃ (s : State) (a : Fin 128), (s.stopping ↑a = false) ∧ (s.source ↑a = Src.IDLE) ∧ (s.rd (K.MOVE_STATE ↑a) ≠ 1)) ∧
    (∃ (s : State) (a : Fin 128) (code : Nat) (c : Instr), (s.motionBar (↑a) 3 = some code) ∧ (c ∈ [Instr.moveAbs a, Instr.moveRel a, Instr.gearEngage a, Instr.stepEngage a, Instr.tableStart a])) ∧
    (∃ (s : State) (a : Fin 128) (code : Nat) (c : Instr), (s.motionBar (↑a) 3 = some code) ∧ (c ∈ [Instr.moveAbs a, Instr.moveRel a, Instr.gearEngage a, Instr.stepEngage a, Instr.tableStart a])) ∧
    (∃ (s : State) (a : Fin 128) (code : Nat) (c : Instr), (s.motionBar (↑a) 3 = some code) ∧ (c ∈ [Instr.moveAbs a, Instr.moveRel a, Instr.gearEngage a, Instr.stepEngage a, Instr.tableStart a])) ∧
    (∃ (s : State) (a : Fin 128) (code : Nat) (c : Instr), (s.motionBar (↑a) 3 = some code) ∧ (c ∈ [Instr.moveAbs a, Instr.moveRel a, Instr.gearEngage a, Instr.stepEngage a, Instr.tableStart a])) ∧
    (∃ (s : State) (a : Fin 128) (code : Nat) (c : Instr), (s.motionBar (↑a) 3 = some code) ∧ (c ∈ [Instr.moveAbs a, Instr.moveRel a, Instr.gearEngage a, Instr.stepEngage a, Instr.tableStart a])) ∧
    (∃ (s : State) (a : Fin 128) (code : Nat), (s.motionBar (↑a) 2 = some code)) ∧
    (∃ (s : State) (a : Fin 128) (code : Nat), (s.motionBar (↑a) 3 = some code)) ∧
    (∃ (s : State) (a : Fin 128) (c : Instr), (s.stopping ↑a = true) ∧ (c ∈ [Instr.haltProfile a, Instr.tableStop a, Instr.gearDisengage a, Instr.stepDisengage a])) ∧
    (∃ (s : State) (a : Fin 128) (c : Instr), (s.stopping ↑a = true) ∧ (c ∈ [Instr.haltProfile a, Instr.tableStop a, Instr.gearDisengage a, Instr.stepDisengage a])) ∧
    (∃ (s : State) (a : Fin 128) (c : Instr), (s.stopping ↑a = true) ∧ (c ∈ [Instr.haltProfile a, Instr.tableStop a, Instr.gearDisengage a, Instr.stepDisengage a])) ∧
    (∃ (s : State) (a : Fin 128) (c : Instr), (s.stopping ↑a = true) ∧ (c ∈ [Instr.haltProfile a, Instr.tableStop a, Instr.gearDisengage a, Instr.stepDisengage a])) :=
  ⟨⟨(axOp [(K.TARGET_POS 0, 5000)] [] {}), 0, (.moveAbs 0), 5000, by decide +kernel⟩,
    ⟨(axOp [(K.TARGET_POS 0, 5000), (K.SETPOINT_POS 0, 2 ^ 63 - 7)] [] {}), 0, (.moveRel 0), (wrapS 64 (2 ^ 63 - 7 + 5000)), by decide +kernel⟩,
    ⟨(axOp [(K.JOG_VEL 0, 500)] [] {}), 0, by decide +kernel⟩,
    ⟨(axOp [] [(K.MASTER_SOURCE 0, 1)] {}), 0, by decide +kernel⟩,
    ⟨(axOp [(K.STEP_CHANNEL 0, 2), (K.STEP_SIZE 0, 7)] [(K.ENC_MODE 2, 2)] {}), 0, by decide +kernel⟩,
    ⟨(axOp [(K.SOURCE 0, Src.GEAR)] [] {mot := {v := 2}}), 0, (.gearDisengage 0), by decide +kernel⟩,
    ⟨(axOp [(K.SOURCE 0, Src.STEPDIR)] [] {mot := {v := 2}}), 0, (.stepDisengage 0), by decide +kernel⟩,
    ⟨(axOp [(K.SOURCE 0, Src.JOG)] [] {mot := {v := 2}}), 0, (.haltProfile 0), by decide +kernel⟩,
    ⟨(axOp [(K.SOURCE 0, Src.HOMING)] [] {mot := {v := 2}}), 0, (.haltProfile 0), by decide +kernel⟩,
    ⟨(axOp [(K.SOURCE 0, Src.TABLE), (K.MOVE_STATE 0, 2)] [] {mot := {v := 2}}), 0, (.haltProfile 0), by decide +kernel⟩,
    ⟨(st []), 0, by decide +kernel⟩,
    ⟨(st []), 0, 1, (.moveAbs 0), by decide +kernel⟩,
    ⟨(st []), 0, 1, (.moveRel 0), by decide +kernel⟩,
    ⟨(st []), 0, 1, (.gearEngage 0), by decide +kernel⟩,
    ⟨(st []), 0, 1, (.stepEngage 0), by decide +kernel⟩,
    ⟨(st []), 0, 1, (.tableStart 0), by decide +kernel⟩,
    ⟨(st []), 0, 1, by decide +kernel⟩,
    ⟨(st []), 0, 1, by decide +kernel⟩,
    ⟨(st [(K.AXIS_STATE 0, 4), (K.SOURCE 0, 7)]), 0, (.haltProfile 0), by decide +kernel⟩,
    ⟨(st [(K.AXIS_STATE 0, 5)]), 0, (.tableStop 0), by decide +kernel⟩,
    ⟨(st [(K.AXIS_STATE 0, 5)]), 0, (.gearDisengage 0), by decide +kernel⟩,
    ⟨(st [(K.AXIS_STATE 0, 4), (K.SOURCE 0, 7)]), 0, (.stepDisengage 0), by decide +kernel⟩⟩

theorem witness_MotionSettingsAndHoming :
    (∃ (s : State) (a : Fin 128) (v : Int), (-s.rd (K.VEL_MAX ↑a) ≤ v) ∧ (v ≤ s.rd (K.VEL_MAX ↑a))) ∧
    (∃ (s : State) (a : Fin 128) (v : Int), (-s.rd (K.VEL_MAX ↑a) ≤ v) ∧ (v ≤ s.rd (K.VEL_MAX ↑a))) ∧
    (∃ (s : State) (a : Fin 128) (v : Int), (v < -s.rd (K.VEL_MAX ↑a) ∨ s.rd (K.VEL_MAX ↑a) < v)) ∧
    (∃ (s : State) (a : Fin 128) (pat : BitVec 32), (real32Finite pat.toNat = true) ∧ ((OdRange.real (b32 (1 / 100)) 100000).plain ↑pat.toNat = true) ∧ (s.source ↑a ≠ Src.RAMP) ∧ (s.source ↑a = Src.STOP → (s.mot ↑a).decKey ≠ K.PROFILE_DEC ↑a)) ∧
    (∃ (s : State) (a : Fin 128) (pat : BitVec 32), (real32Finite pat.toNat = true) ∧ ((OdRange.real (b32 (1 / 100)) 100000).plain ↑pat.toNat = true) ∧ (s.source ↑a = Src.STOP) ∧ ((s.mot ↑a).decKey = K.PROFILE_DEC ↑a)) ∧
    (∃ (s : State) (a : Fin 128) (pat : BitVec 32), (real32Finite pat.toNat = true) ∧ ((OdRange.real (b32 (1 / 100)) 100000).plain ↑pat.toNat = true) ∧ (s.source ↑a = Src.RAMP) ∧ ((s.mot ↑a).dec ≤ real32 pat.toNat)) ∧
    (∃ (s : State) (a : Fin 128) (pat : BitVec 32), (real32Finite pat.toNat = true) ∧ ((OdRange.real (b32 (1 / 100)) 100000).plain ↑pat.toNat = true) ∧ (s.source ↑a = Src.RAMP) ∧ (real32 pat.toNat < (s.mot ↑a).dec) ∧ (s.rd (K.RAMP_PHASE ↑a) = 3) ∧ (absR (posErr (s.mot ↑a).target (s.pSet ↑a)) < b64 (b64 ((s.mot ↑a).v * (s.mot ↑a).v) / b64 (2 * real32 pat.toNat)))) ∧
    (∃ (s : State) (a : Fin 128), (s.motionBar (↑a) 3 = none) ∧ (s.rdN (K.HOMING_METHOD ↑a) = 9) ∧ (s.cfN (K.FB_CHANNEL ↑a) < 8)) ∧
    (∃ (s : State) (a : Fin 128), (s.motionBar (↑a) 3 = none) ∧ (s.rdN (K.HOMING_METHOD ↑a) ≠ 0) ∧ (s.rdN (K.HOMING_METHOD ↑a) ≠ 9) ∧ (Option.any (fun k => (s.switchPoint (↑a) k).isNone) (homeRef (s.rdN (K.HOMING_METHOD ↑a))) = false)) ∧
    (∃ (s : State) (a : Fin 128), (s.motionBar (↑a) 3 = none) ∧ (s.rdN (K.HOMING_METHOD ↑a) ≠ 0) ∧ (s.rdN (K.HOMING_METHOD ↑a) ≠ 9) ∧ (Option.any (fun k => (s.switchPoint (↑a) k).isNone) (homeRef (s.rdN (K.HOMING_METHOD ↑a))) = false)) ∧
    (∃ (s : State) (a : Fin 128) (k : Fin 3), ((s.switchPoint ↑a ↑k).isSome = true) ∧ (max 1 (s.debounce ↑a) ≤ ((s.mot ↑a).switch ↑k).run) ∧ (k = 0)) ∧
    (∃ (s : State) (a : Fin 128) (k : Fin 3), ((s.switchPoint ↑a ↑k).isSome = true) ∧ (max 1 (s.debounce ↑a) ≤ ((s.mot ↑a).switch ↑k).run) ∧ (k ≠ 0) ∧ (((s.mot ↑a).switch ↑k).raw = false)) ∧
    (∃ (s : State) (a : Fin 128) (k : Fin 3), ((s.switchPoint ↑a ↑k).isSome = true) ∧ (max 1 (s.debounce ↑a) ≤ ((s.mot ↑a).switch ↑k).run) ∧ (((s.mot ↑a).switch ↑k).raw = true) ∧ (s.source ↑a ≠ Src.HOMING) ∧ (k = 2 ∧ 0 < (s.mot ↑a).v ∨ k = 1 ∧ (s.mot ↑a).v < 0)) ∧
    (∃ (s : State) (a : Fin 128) (k : Fin 3), ((s.switchPoint ↑a ↑k).isSome = true) ∧ (max 1 (s.debounce ↑a) ≤ ((s.mot ↑a).switch ↑k).run) ∧ (((s.mot ↑a).switch ↑k).raw = true) ∧ (s.source ↑a ≠ Src.HOMING) ∧ (k = 2 ∧ 0 < (s.mot ↑a).v ∨ k = 1 ∧ (s.mot ↑a).v < 0)) :=
  ⟨⟨(axOp [(K.SOURCE 0, Src.JOG)] [] {}), 0, (-655360), by decide +kernel⟩,
    ⟨(axOp [] [] {}), 0, (655360), by decide +kernel⟩,
    ⟨(axOp [(K.SOURCE 0, Src.JOG)] [] {}), 0, (-655361), by decide +kernel⟩,
    ⟨(axOp [] [] {}), 0, 0x41200000, by decide +kernel⟩,
    ⟨(axOp [(K.SOURCE 0, Src.STOP)] [] {mot := {v := 2, dec := 3, decKey := K.PROFILE_DEC 0}}), 0, 0x41200000, by decide +kernel⟩,
    ⟨(axOp [(K.SOURCE 0, Src.RAMP)] [] {mot := {dec := 3}}), 0, 0x41200000, by decide +kernel⟩,
    ⟨(axOp [(K.SOURCE 0, Src.RAMP), (K.RAMP_PHASE 0, 3)] [] {mot := {dec := 30, v := 10, target := 1000}}), 0, 0x41200000, by decide +kernel⟩,
    ⟨(axOp [(K.HOMING_METHOD 0, 9), (K.HOME_OFFSET 0, 50), (K.MEASURED_POS 0, 33)] [(K.FB_CHANNEL 0, 0)] {}), 0, by decide +kernel⟩,
    ⟨(axOp [(K.HOMING_METHOD 0, 7)] [] {}), 0, by decide +kernel⟩,
    ⟨(axOp [(K.HOMING_METHOD 0, 1), (K.HOME_SWITCH_POINT 0, 100)] [] {}), 0, by decide +kernel⟩,
    ⟨(axOp [(K.HOME_SWITCH_POINT 0, 100)] [] {mot := {home := {raw := true, run := 100}}}), 0, 0, by decide +kernel⟩,
    ⟨(axOp [(K.LIMIT_NEG_POINT 0, 100)] [] {mot := {neg := {raw := false, run := 100}}}), 0, 1, by decide +kernel⟩,
    ⟨(axOp [(K.LIMIT_NEG_POINT 0, 100)] [] {mot := {v := -3, neg := {raw := true, run := 100}}}), 0, 1, by decide +kernel⟩,
    ⟨(axOp [(K.LIMIT_POS_POINT 0, 100), (K.SOURCE 0, Src.RAMP)] [] {mot := {v := 3, pos := {raw := true, run := 100}}}), 0, 2, by decide +kernel⟩⟩

theorem witness_ProfileTicks :
    (∃ (s : State) (a : Fin 128), (s.power = 2) ∧ (s.tickDue ↑a = true) ∧ (s.rd (K.MOVE_STATE ↑a) ≠ 1) ∧ (s.source ↑a = Src.IDLE)) ∧
    (∃ (s : State) (a : Fin 128), (s.power = 2) ∧ (s.tickDue ↑a = true) ∧ (s.rd (K.MOVE_STATE ↑a) ≠ 1) ∧ (s.source ↑a = Src.RAMP)) ∧
    (∃ (s : State) (a : Fin 128), (s.power = 2) ∧ (s.tickDue ↑a = true) ∧ (s.rd (K.MOVE_STATE ↑a) ≠ 1) ∧ (s.source ↑a = Src.RAMP)) ∧
    (∃ (s : State) (a : Fin 128), (s.power = 2) ∧ (s.tickDue ↑a = true) ∧ (s.rd (K.MOVE_STATE ↑a) ≠ 1) ∧ (s.source ↑a = Src.GEAR) ∧ ((s.mot ↑a).begun = true)) :=
  ⟨⟨(axOp [(K.SOURCE 0, Src.IDLE)] [] {mot := {v := 3}}), 0, by decide +kernel⟩,
    ⟨(axOp [(K.SOURCE 0, Src.RAMP)] [] {mot := {v := 3, rampPos := true, target := 2 ^ 40, vmax := 10, acc := 10, dec := 10}}), 0, by decide +kernel⟩,
    ⟨(axOp [(K.SOURCE 0, Src.RAMP)] [] {mot := {v := 0, rampPos := true, target := 0, vmax := 10, acc := 10, dec := 10}}), 0, by decide +kernel⟩,
    ⟨{(axOp [(K.SOURCE 0, Src.GEAR)] [] {mot := {begun := true, gearOrigin := 100, pm0 := 5}}) with masters := [(0, {pos := 50, v := 2})]}, 0, by decide +kernel⟩⟩

theorem witness_DictionaryAndConfiguration :
    (∃ (s : State) (index : Fin 65536) (sub : Fin 256) (a : Ans), (s.entry ↑index ↑sub = Except.error a)) ∧
    (∃ (s : State) (index : Fin 65536) (sub : Fin 256) (r : OdRow), (s.entry ↑index ↑sub = Except.ok r) ∧ (r.access = OdAccess.ro)) ∧
    (∃ (s : State) (w : Who) (index : Fin 65536) (sub : Fin 256) (r : OdRow), (s.entry ↑index ↑sub = Except.ok r) ∧ (r.access ≠ OdAccess.ro) ∧ (s.mayWrite w r ↑index ↑sub = false)) ∧
    (∃ (s : State) (w : Who) (index : Fin 65536) (sub : Fin 256) (value : Bytes) (now : Nat) (r : OdRow), (s.entry ↑index ↑sub = Except.ok r) ∧ (r.cls = OdClass.config ∨ r.cls = OdClass.sched) ∧ (((s.at now).writeCheck w (↑index) (↑sub) value).snd = Ans.ok)) ∧
    (∃ (index : Fin 65536) (u : Nat) (l : List Nat), (resetSub ↑index = some u) ∧ (resetKeys (↑index) u = some l)) ∧
    (∃ (s : State) (k : Nat), (s.configBusy = some k)) ∧
    (∃ (s : State) (k : Nat), (s.configBusy = none) ∧ (s.configBroken s.pendingConf s.committedCt = some k)) ∧
    (∃ (s : State), (s.configBusy = none) ∧ (s.configBroken s.pendingConf s.committedCt = none) ∧ (DictWf s.od)) ∧
    (∃ (s : State), (DictWf s.od) ∧ (DictWf s.act)) :=
  ⟨⟨(st []), 0x0005, 0, .noObject, errorOf (by decide +kernel)⟩,
    ⟨(stA [] ax0), 0x400F, 13, (rowOf (odKey 0x400F 13)), okOf (by decide +kernel), by decide +kernel⟩,
    ⟨(stA [] ax0), ⟨0, 255, 0, none⟩, 0x4002, 1, (rowOf (odKey 0x4002 1)), okOf (by decide +kernel), by decide +kernel⟩,
    ⟨(st []), ⟨4, 255, 0, none⟩, 0x4000, 1, [1], 5, (rowOf (odKey 0x4000 1)), okOf (by decide +kernel), by decide +kernel⟩,
    ⟨0x2100, 16, (subs 0x2100 8 15), by decide +kernel⟩,
    ⟨(stA [(K.AXIS_STATE 0, 3), (K.AXIS_TYPE 0, 2)] ax0), (K.AXIS_TYPE 0), by decide +kernel⟩,
    ⟨(stA [(K.PRESENT 3, 1), (K.AXIS_MAP 3 0, 0), (K.AXIS_MAP 3 1, 0)] []), 2240770, by decide +kernel⟩,
    ⟨(stA [(K.TABLE_COUNT 0, 3)] []), (by decide +kernel), (by decide +kernel), (by unfold DictWf SMap.Wf; decide +kernel)⟩,
    ⟨(stA [(K.AXIS_TYPE 3, 1), (K.TABLE_COUNT 0, 3)] [(K.PRESENT 3, 1)]), (by unfold DictWf SMap.Wf; decide +kernel), (by unfold DictWf SMap.Wf; decide +kernel)⟩⟩

theorem witness_StoredSettings :
    (∃ (s : State), (s.mram.storing.isSome = true)) ∧
    (∃ (s : State) (now : Nat) (d : Nat), (s.mram.storing = none) ∧ (s.mram.doneAt = some d) ∧ (max s.clk.now now < d + 1000000000)) ∧
    (∃ (s : State) (now : Nat), (s.mram.storing = none) ∧ (∀ (d : Nat), d ∈ s.mram.doneAt → d + 1000000000 ≤ max s.clk.now now)) ∧
    (∃ (s : State) (now : Nat) (i : Image), (s.mram.storing = none) ∧ (∀ (d : Nat), d ∈ s.mram.doneAt → d + 1000000000 ≤ max s.clk.now now) ∧ (s.mram.stored = some i)) ∧
    (∃ (s : State) (w : Storing), (s.mram.storing = some w)) ∧
    (∃ (s : State), (s.domainOn Dom.CORE = true)) ∧
    (∃ (s : State) (p : Fin 262144) (n : Nat) (j : Nat) (r : PointRun), (pointOwner s.cf ↑p = some (n, j, r))) :=
  ⟨⟨{(st []) with mram := {storing := some ⟨1, ⟨5, 4, [], []⟩⟩}}, by decide +kernel⟩,
    ⟨{(st []) with mram := {doneAt := some 1000000}}, 7, 1000000, by decide +kernel⟩,
    ⟨{(st []) with mram := {slotA := some ⟨3, 4, [(K.PRESENT 3, 1)], []⟩, ring := [(0, (0, 3))], last := 0}}, 7, by decide +kernel⟩,
    ⟨{(st []) with mram := {slotA := some ⟨3, 4, [(K.PRESENT 3, 1)], []⟩, ring := [(0, (0, 3))], last := 0}}, 7, ⟨3, 4, [(K.PRESENT 3, 1)], []⟩, by decide +kernel⟩,
    ⟨{(st [(K.STORE_STATE, 1)]) with mram := {storing := some ⟨1, ⟨4, 4, [], []⟩⟩, slotA := some ⟨3, 4, [(K.PRESENT 3, 1)], []⟩, ring := [(0, (0, 3))], last := 0}}, ⟨1, ⟨4, 4, [], []⟩⟩, by decide +kernel⟩,
    ⟨(st [(K.DOMAIN_STATE Dom.CORE, 2)]), by decide +kernel⟩,
    ⟨(stA [(K.INPUTS_VALID 3, 1)] [(K.PRESENT 3, 1), (K.FIRST_POINT 3, 100), (K.RUN_COUNT 3, 1), (K.RUN 3 0, 4 + 65536 * 1)]), 102, 3, 2, ⟨4, 1, 0, false, false⟩, by decide +kernel⟩⟩

theorem witness_EventPlacement :
    (∃ (s : State) (x : Raised), (nextRaised s.raised = some x) ∧ (x.source < 256) ∧ (s.rd K.TRIG_KIND ≠ 4) ∧ (s.channelOf x.source = none)) ∧
    (∃ (s : State) (x : Raised) (c : Nat), (nextRaised s.raised = some x) ∧ (x.source < 256) ∧ (s.rd K.TRIG_KIND ≠ 4) ∧ (s.channelOf x.source = some c) ∧ ((s.channel c).dropped = 0)) ∧
    (∃ (s : State) (x : Raised) (c : Nat), (nextRaised s.raised = some x) ∧ (x.source < 256) ∧ (s.rd K.TRIG_KIND ≠ 4) ∧ (s.channelOf x.source = some c) ∧ ((s.channel c).dropped = 0)) ∧
    (∃ (s : State) (x : Raised) (c : Nat), (nextRaised s.raised = some x) ∧ (x.source < 256) ∧ (s.rd K.TRIG_KIND ≠ 4) ∧ (s.channelOf x.source = some c) ∧ ((s.channel c).dropped = 0)) ∧
    (∃ (s : State) (c : Fin 16), ((s.channel ↑c).dropped ≠ 0) ∧ ((s.channel ↑c).queue.length < 64) ∧ (s.subscribers ↑c ≠ [])) :=
  ⟨⟨{(st [(K.SOURCE_MASK 1, 0)]) with raised := [rs 40 3, rs 40 2]}, (rs 40 2), by decide +kernel⟩,
    ⟨{(st [(K.GROUP_CHANNEL 2, 0), (K.SESSION_STATE 0, 3)]) with raised := [rs 40 3, rs 40 2], sessions := [(0, {channels := 1})]}, (rs 40 2), 0, by decide +kernel⟩,
    ⟨{(st [(K.GROUP_CHANNEL 2, 0)]) with raised := [rs 40 3, rs 40 2]}, (rs 40 2), 0, by decide +kernel⟩,
    ⟨{(st [(K.GROUP_CHANNEL 2, 0), (K.SESSION_STATE 0, 3)]) with raised := [rs 40 2], sessions := [(0, {channels := 1})], channels := [(0, {seq := 65535, queue := List.replicate 64 (qd 40 0 0)})]}, (rs 40 2), 0, by decide +kernel⟩,
    ⟨{(st [(K.SESSION_STATE 0, 3)]) with sessions := [(0, {channels := 1})], channels := [(0, {seq := 5, dropped := 3, queue := List.replicate 63 (qd 40 0 0)})]}, 0, by decide +kernel⟩⟩

theorem witness_RecorderLife :
    (∃ (s : State) (f : RecEntry), (s.recorder.lossFirst = some f) ∧ (s.recorder.level < 64)) ∧
    (∃ (s : State) (r : Ride), (List.find? (fun r => Nat.ble 2 r.quiet) s.recorder.rides = some r)) ∧
    (∃ (s : State) (now : Nat) (e : RecEntry) (rest : List RecEntry), (s.recorder.fifo = e :: rest) ∧ (∀ (w : Nat), w ∈ s.recorder.lastWrite → w + 500000 ≤ max s.clk.now now)) ∧
    (∃ (s : State) (now : Nat) (e : RecEntry) (rest : List RecEntry), (s.recorder.fifo = e :: rest) ∧ (∀ (w : Nat), w ∈ s.recorder.lastWrite → w + 500000 ≤ max s.clk.now now)) ∧
    (∃ (s : State) (now : Nat) (e : RecEntry) (rest : List RecEntry) (w : Nat), (s.recorder.fifo = e :: rest) ∧ (s.recorder.lastWrite = some w) ∧ (max s.clk.now now < w + 500000)) ∧
    (∃ (s : State), (∀ (e : Nat × Bytes), e ∈ s.recorder.ring → List.length e.snd = 64)) ∧
    (∃ (s : State) (e : RecEntry) (rest : List RecEntry), (s.recorder.steps = e :: rest)) ∧
    (∃ (w : Who), (↑w.role < 4)) ∧
    (∃ (s : State) (w : Who), (4 ≤ ↑w.role) ∧ (∃ e, e ∈ s.recorder.fifo ∧ e.code = Rc.CLEARED)) ∧
    (∃ (s : State) (w : Who), (4 ≤ ↑w.role) ∧ (∀ (e : RecEntry), e ∈ s.recorder.fifo → e.code ≠ Rc.CLEARED)) ∧
    (∃ (s : State), (s.ptpLocked = true)) ∧
    (∃ (s : State), (s.ptpLocked = false)) ∧
    (∃ (s : State), (s.ptpLocked = false)) :=
  ⟨⟨{(st []) with recorder := {lossFirst := some (re 2), lost := [(2, 5)], fifo := [re 3]}}, (re 2), by decide +kernel⟩,
    ⟨{(st []) with recorder := {rides := [⟨4, [0], 1, 1, false⟩, ⟨5, [0], 1, 2, false⟩]}}, ⟨5, [0], 1, 2, false⟩, by decide +kernel⟩,
    ⟨{(st [(K.NEXT_SEQ, 2 ^ 48 - 1)]) with recorder := {fifo := [re 3, re 4]}}, 7, (re 3), [re 4], by decide +kernel⟩,
    ⟨{(st [(K.NEXT_SEQ, 9)]) with recorder := {fifo := [re 257, re 4]}}, 7, (re 257), [re 4], by decide +kernel⟩,
    ⟨{(st [(K.NEXT_SEQ, 9)]) with recorder := {lastWrite := some 3, fifo := [re 3, re 4]}}, 7, (re 3), [re 4], 3, by decide +kernel⟩,
    ⟨{(st [(K.NEXT_SEQ, 9)]) with recorder := {ring := [(0, zeros 64)]}}, by decide +kernel⟩,
    ⟨{(st [(K.NEXT_SEQ, 9)]) with recorder := {steps := [re 5]}}, (re 5), [], by decide +kernel⟩,
    ⟨⟨3, 255, 0, none⟩, by decide +kernel⟩,
    ⟨{(st [(K.NEXT_SEQ, 9)]) with recorder := {fifo := [re 257]}}, ⟨4, 255, 0, none⟩, by decide +kernel⟩,
    ⟨{(st [(K.NEXT_SEQ, 9)]) with recorder := {fifo := [re 25]}}, ⟨4, 255, 0, none⟩, by decide +kernel⟩,
    ⟨(st [(K.PTP_PORT_STATE, 3)]), by decide +kernel⟩,
    ⟨(st []), by decide +kernel⟩,
    ⟨{(st []) with clk := {wall := some 0}}, by decide +kernel⟩⟩

theorem witness_RecorderFloors :
    (∃ (s : State) (w : Who) (c : Fin 256) (value : Bytes) (now : Nat), (↑c / 16 = 2 ∨ ↑c / 16 = 12) ∧ (4 ≤ ↑w.role) ∧ ((s.session ↑w.session).commissioning = false) ∧ ((s.at now).lockBar w = false) ∧ (List.length value = 2) ∧ (uAt value 0 2 < 100)) ∧
    (∃ (s : State) (w : Who) (c : Fin 256) (value : Bytes) (now : Nat), (↑c / 16 = 2 ∨ ↑c / 16 = 12) ∧ (4 ≤ ↑w.role) ∧ ((s.session ↑w.session).commissioning = false) ∧ ((s.at now).lockBar w = false) ∧ (List.length value = 2) ∧ (100 ≤ uAt value 0 2)) ∧
    (∃ (s : State) (w : Who) (c : Fin 256) (value : Bytes) (now : Nat), (↑c / 16 = 2 ∨ ↑c / 16 = 12) ∧ (4 ≤ ↑w.role) ∧ ((s.session ↑w.session).commissioning = false) ∧ ((s.at now).lockBar w = false) ∧ (List.length value = 2) ∧ (uAt value 0 2 < 1)) ∧
    (∃ (s : State) (w : Who) (c : Fin 256) (value : Bytes) (now : Nat), (↑c / 16 = 2 ∨ ↑c / 16 = 12) ∧ (4 ≤ ↑w.role) ∧ ((s.session ↑w.session).commissioning = false) ∧ ((s.at now).lockBar w = false) ∧ (List.length value = 2) ∧ (1 ≤ uAt value 0 2) ∧ (uAt value 0 2 ≤ 1024)) :=
  ⟨⟨(st []), ⟨4, 255, 0, none⟩, 0x2F, [99, 0], 7, by decide +kernel⟩,
    ⟨(st []), ⟨4, 255, 0, none⟩, 0x2F, [100, 0], 7, by decide +kernel⟩,
    ⟨(st []), ⟨4, 255, 0, none⟩, 0xC0, [0, 0], 7, by decide +kernel⟩,
    ⟨(st []), ⟨4, 255, 0, none⟩, 0xC0, [0, 4], 7, by decide +kernel⟩⟩

theorem witness_FilterRegisterAndAccumulatorInstructions :
    (∃ (s : State) (r : FilterRun), (FpOpen s r 1)) ∧
    (∃ (s : State) (r : FilterRun) (n : Fin 32), (FpOpen s r 1) ∧ (↑n ≤ 23)) ∧
    (∃ (s : State) (r : FilterRun) (n : Fin 32), (FpOpen s r 1) ∧ (↑n ≤ 23)) ∧
    (∃ (s : State) (r : FilterRun) (sh : BitVec 6), (FpOpen s r 1) ∧ (sh.toInt ≤ 23)) ∧
    (∃ (s : State) (r : FilterRun) (d : Fin 4) (c : Fin 4), (FpOpen s r 1) ∧ (r.m.idx.length = 4) ∧ (r.m.len.getD (↑d) 0 ≠ 0) ∧ (r.m.len.getD (↑c) 0 ≠ 0) ∧ (d ≠ c)) ∧
    (∃ (s : State) (r : FilterRun) (sh : BitVec 6), (FpOpen s r 2) ∧ (sh.toInt ≤ 23)) ∧
    (∃ (s : State) (r : FilterRun) (n : Fin 64), (FpOpen s r 4) ∧ (s.useCounter r.use ↑n = none)) :=
  ⟨⟨(fmS fm0), fr0, (by unfold FpOpen; decide +kernel)⟩,
    ⟨(fmS fm0), fr0, 3, (by unfold FpOpen; decide +kernel), by decide +kernel⟩,
    ⟨(fmS fm0), fr0, 1, (by unfold FpOpen; decide +kernel), by decide +kernel⟩,
    ⟨(fmS fm0), fr0, (-3), (by unfold FpOpen; decide +kernel), by decide +kernel⟩,
    ⟨(fmS fm0), fr0, 0, 1, (by unfold FpOpen; decide +kernel), by decide +kernel⟩,
    ⟨(fmS fm0), fr0, 3, (by unfold FpOpen; decide +kernel), by decide +kernel⟩,
    ⟨{(fmS fm0) with acqUse := []}, fr0, 5, (by unfold FpOpen; decide +kernel), by decide +kernel⟩⟩

theorem witness_FilterMemoryAndFlowInstructions :
    (∃ (s : State) (r : FilterRun) (a : Fin 2048), (r.m.idx.length = 4) ∧ (FpOpen s r 1) ∧ (r.m.writable ↑a = true)) ∧
    (∃ (s : State) (r : FilterRun) (c : Fin 4), (r.m.idx.length = 4) ∧ (FpOpen s r 1) ∧ (r.m.len.getD (↑c) 0 ≠ 0)) ∧
    (∃ (s : State) (r : FilterRun) (c : Fin 4), (r.m.idx.length = 4) ∧ (FpOpen s r 1) ∧ (r.m.len.getD (↑c) 0 ≠ 0) ∧ (528 ≤ r.m.base.getD (↑c) 0)) ∧
    (∃ (s : State) (r : FilterRun) (a : Fin 2048), (r.m.idx.length = 4) ∧ (FpOpen s r 2) ∧ (↑a < 1536)) ∧
    (∃ (s : State) (r : FilterRun) (c : Fin 4), (r.m.idx.length = 4) ∧ (FpOpen s r 2) ∧ (r.m.len.getD (↑c) 0 ≠ 0)) ∧
    (∃ (s : State) (r : FilterRun), (s.fm = some r) ∧ (r.out = none) ∧ (r.m.cycles + 1 ≤ 2000)) ∧
    (∃ (s : State) (r : FilterRun) (c : Fin 16), (s.fm = some r) ∧ (r.out = none) ∧ (r.m.cycles + 1 ≤ 2000) ∧ (1 ≤ r.m.reg ↑c)) ∧
    (∃ (s : State) (r : FilterRun) (c : Fin 16), (s.fm = some r) ∧ (r.out = none) ∧ (r.m.cycles + 1 ≤ 2000) ∧ (r.m.reg ↑c ≤ 0)) ∧
    (∃ (s : State) (r : FilterRun), (s.fm = some r) ∧ (r.out = none) ∧ (r.m.cycles + 1 > 2000)) ∧
    (∃ (s : State) (r : FilterRun) (i : FInst), (s.fm = some r) ∧ (r.out = none) ∧ (s.fpNext r = some i) ∧ (r.m.cycles + i.cost > 2000)) :=
  ⟨⟨(fmS fm0), fr0, 0x303, (by decide +kernel), (by unfold FpOpen; decide +kernel), by decide +kernel⟩,
    ⟨(fmS fm0), fr0, 0, (by decide +kernel), (by unfold FpOpen; decide +kernel), by decide +kernel⟩,
    ⟨(fmS fm0), fr0, 0, (by decide +kernel), (by unfold FpOpen; decide +kernel), by decide +kernel⟩,
    ⟨(fmS fm0), fr0, 0x5FF, (by decide +kernel), (by unfold FpOpen; decide +kernel), by decide +kernel⟩,
    ⟨(fmS fm0), fr0, 1, (by decide +kernel), (by unfold FpOpen; decide +kernel), by decide +kernel⟩,
    ⟨(fmS fm0), fr0, by decide +kernel⟩,
    ⟨(fmS fm0), fr0, 1, by decide +kernel⟩,
    ⟨(fmS fm0), fr0, 2, by decide +kernel⟩,
    ⟨(fmS {fm0 with cycles := 2000}), {fr0 with m := {fm0 with cycles := 2000}}, by decide +kernel⟩,
    ⟨{(fmS {fm0 with cycles := 2000, pc := 0}) with fpLoaded := [(3, img2)]}, {fr0 with m := {fm0 with cycles := 2000, pc := 0}}, (.ldi 1 7), by decide +kernel⟩⟩

theorem witness_FilterProgramsLoadAndInvoke :
    (∃ (s : State) (p : Fin 64), (s.rd (K.FP_STATE ↑p) = 1 → s.fpUsers ↑p = 0) ∧ (loadCheck (s.rdB (K.FP_IMAGE ↑p)) = none)) ∧
    (∃ (s : State) (p : Fin 64) (c : Nat) (k : Nat), (s.rd (K.FP_STATE ↑p) = 1 → s.fpUsers ↑p = 0) ∧ (loadCheck (s.rdB (K.FP_IMAGE ↑p)) = some (c, k))) ∧
    (∃ (s : State) (p : Fin 64), (s.fpUsers ↑p = 0)) ∧
    (∃ (s : State) (p : Fin 64) (u : Nat) (x : Int) (b : Bytes), (s.fpImage ↑p = some b) ∧ (imgCode b ≠ 0) ∧ (s.useSelects u ↑p = true) ∧ (-2 ^ 23 ≤ x) ∧ (x ≤ 2 ^ 23 - 1)) :=
  ⟨⟨{(st [(K.FP_STATE 4, 2)]) with odB := [(K.FP_IMAGE 4, img2)]}, 4, by decide +kernel⟩,
    ⟨{(st []) with odB := [(K.FP_IMAGE 4, img1)]}, 4, 10, 0xFFFF, by decide +kernel⟩,
    ⟨{(st [(K.FP_STATE 4, 1)]) with fpLoaded := [(4, img2)]}, 4, by decide +kernel⟩,
    ⟨{(st [(K.FP_STATE 4, 1), (K.FP_SELECT 2 1, 4)]) with fpLoaded := [(4, img2)]}, 4, 9, (-8388608), img2, by decide +kernel⟩⟩

theorem witness_OnlyIllFormedFilterOperandsStop :
    (∃ (s : State) (r : FilterRun) (n : Fin 32), (s.fm = some r) ∧ (r.out = none) ∧ (23 < ↑n)) ∧
    (∃ (s : State) (r : FilterRun) (a : Fin 2048), (s.fm = some r) ∧ (r.out = none) ∧ (1536 ≤ ↑a)) ∧
    (∃ (s : State) (r : FilterRun) (a : Fin 2048), (s.fm = some r) ∧ (r.out = none) ∧ (r.m.writable ↑a = false)) ∧
    (∃ (s : State) (r : FilterRun), (s.fm = some r) ∧ (r.out = none)) ∧
    (∃ (s : State) (r : FilterRun) (c : Fin 4), (s.fm = some r) ∧ (r.out = none) ∧ (r.m.len.getD (↑c) 0 = 0)) ∧
    (∃ (s : State) (r : FilterRun) (c : Fin 4), (s.fm = some r) ∧ (r.out = none) ∧ (r.m.base.getD (↑c) 0 < 528)) :=
  ⟨⟨(fmS fm0), fr0, 24, by decide +kernel⟩,
    ⟨(fmS fm0), fr0, 0x600, by decide +kernel⟩,
    ⟨(fmS fm0), fr0, 0x101, by decide +kernel⟩,
    ⟨(fmS fm0), fr0, by decide +kernel⟩,
    ⟨(fmS fm0), fr0, 2, by decide +kernel⟩,
    ⟨(fmS fm0), fr0, 1, by decide +kernel⟩⟩

theorem witness_UplinkLinksSwitchAndAddress :
    (∃ (s : State) (p : Fin 2) (speed : Fin 3), (speed ≠ 0) ∧ (s.upEnabled ↑p = true)) ∧
    (∃ (s : State) (p : Fin 2), (s.upLink ↑p = true)) ∧
    (∃ (s : State) (p : Fin 3) (f : Bytes) (good : Bool), (↑p < 2) ∧ (s.upLink ↑p = true) ∧ (good = false ∨ List.length f < 14)) ∧
    (∃ (s : State) (p : Fin 3) (f : Bytes) (good : Bool), (↑p < 2) ∧ (s.upLink ↑p = true) ∧ (good = false ∨ List.length f < 14)) ∧
    (∃ (s : State) (p : Fin 3) (f : Bytes) (full0 : Bool) (full1 : Bool) (q : Nat), (↑p < 2) ∧ (s.upLink ↑p = true) ∧ (14 ≤ List.length f) ∧ (beAt f 6 1 % 2 = 0) ∧ (beAt f 0 1 % 2 = 0) ∧ (s.macPort (beAt f 0 6) = some q) ∧ (beAt f 0 6 ≠ beAt f 6 6) ∧ (q < 2) ∧ (q ≠ ↑p) ∧ (s.upLink q = true) ∧ ((if q = 0 then full0 else full1) = false)) ∧
    (∃ (s : State) (p : Fin 3) (f : Bytes) (full0 : Bool) (full1 : Bool) (q : Nat), (↑p < 2) ∧ (s.upLink ↑p = true) ∧ (14 ≤ List.length f) ∧ (beAt f 6 1 % 2 = 0) ∧ (beAt f 0 1 % 2 = 1) ∧ (q < 2) ∧ (q ≠ ↑p) ∧ (s.upLink q = true) ∧ ((if q = 0 then full0 else full1) = false)) ∧
    (∃ (s : State) (p : Fin 3) (f : Bytes), (↑p < 2) ∧ (s.upLink ↑p = true) ∧ (14 ≤ List.length f) ∧ (beAt f 6 1 % 2 = 0) ∧ (beAt f 0 1 % 2 = 0) ∧ (s.macPort (beAt f 0 6) = some ↑p) ∧ (beAt f 0 6 ≠ beAt f 6 6)) ∧
    (∃ (s : State) (a : Nat), (s.uplink.probing = some a)) ∧
    (∃ (s : State) (a : Nat), (s.uplink.probing = some a) ∧ (s.uplink.ipMode = 1)) ∧
    (∃ (s : State) (a : Nat), (s.uplink.probing = some a) ∧ (s.uplink.ipMode ≠ 1)) ∧
    (∃ (s : State) (sender : BitVec 32) (target : BitVec 32), (s.rd K.IP_STATE = 2) ∧ (sender.toNat ≠ s.uplink.address) ∧ (target.toNat = s.uplink.address)) ∧
    (∃ (s : State) (sender : BitVec 32) (target : BitVec 32), (s.rd K.IP_STATE = 2) ∧ (sender.toNat ≠ s.uplink.address) ∧ (target.toNat ≠ s.uplink.address)) ∧
    (∃ (s : State) (sender : BitVec 32), (s.rd K.IP_STATE = 2) ∧ (sender.toNat = s.uplink.address) ∧ (s.uplink.ipMode ≠ 1) ∧ (s.uplink.conflictAt = none)) ∧
    (∃ (s : State) (sender : BitVec 32) (now : Nat) (c : Nat), (s.rd K.IP_STATE = 2) ∧ (sender.toNat = s.uplink.address) ∧ (s.uplink.ipMode ≠ 1) ∧ (s.uplink.conflictAt = some c) ∧ ((s.at now).elapsed c 10000000000 = false)) ∧
    (∃ (s : State) (peer : BitVec 32) (dst : BitVec 32) (via : Nat), (s.rd K.IP_STATE = 2) ∧ (dst.toNat = s.uplink.address) ∧ (s.nextHop peer.toNat = some via)) ∧
    (∃ (s : State) (peer : BitVec 32) (dst : BitVec 32), (s.rd K.IP_STATE = 2) ∧ (dst.toNat = s.uplink.address) ∧ (s.nextHop peer.toNat = none)) :=
  ⟨⟨(st [(K.PTP_ENABLE, 1), (K.PORT_ENABLE_0, 1)]), 0, 2, by decide +kernel⟩,
    ⟨(upS [(K.MASTER_PORT, 0), (K.PTP_PORT_STATE, 3)] {masters := [mst 0]}), 0, by decide +kernel⟩,
    ⟨(upS [] {}), 0, (ethF macA macB), false, by decide +kernel⟩,
    ⟨(upS [] {}), 0, [1, 2], true, by decide +kernel⟩,
    ⟨(upS [] {macs := [(0x000102030405, 1, 0)]}), 0, (ethF macA macB), false, false, 1, by decide +kernel⟩,
    ⟨(upS [] {}), 0, (ethF [1, 0, 0, 0, 0, 0] macB), true, false, 1, by decide +kernel⟩,
    ⟨(upS [] {macs := [(0x000102030405, 1, 0)]}), 1, (ethF macA macB), by decide +kernel⟩,
    ⟨(upS [(K.IP_STATE, 1)] {probing := some 5}), 5, by decide +kernel⟩,
    ⟨(upS [(K.IP_STATE, 1)] {probing := some 5, ipMode := 1}), 5, by decide +kernel⟩,
    ⟨(upS [(K.IP_STATE, 1)] {probing := some 5, ipMode := 0}), 5, by decide +kernel⟩,
    ⟨(upS [(K.IP_STATE, 2)] {address := 5}), 3, 5, by decide +kernel⟩,
    ⟨(upS [(K.IP_STATE, 2)] {address := 5}), 3, 4, by decide +kernel⟩,
    ⟨(upS [(K.IP_STATE, 2)] {address := 5}), 5, by decide +kernel⟩,
    ⟨(upS [(K.IP_STATE, 2), (K.IP_ADDRESS, 5)] {address := 5, conflictAt := some 0}), 5, 9, 0, by decide +kernel⟩,
    ⟨(upS [(K.IP_STATE, 2)] {address := 5}), 9, 5, 9, by decide +kernel⟩,
    ⟨(upS [(K.IP_STATE, 2)] {address := 5, ipMode := 1}), 999, 5, by decide +kernel⟩⟩

theorem witness_PtpSlave :
    (∃ (s : State) (p : Fin 2) (dom : Fin 256) (udp : Bool), (s.upLink ↑p = true) ∧ (s.upLink (1 - ↑p) = true) ∧ (s.rd K.TC_ENABLE = 1) ∧ (s.rdN K.PTP_DOMAIN = ↑dom) ∧ ((s.rd K.PTP_TRANSPORT == 1) = udp)) ∧
    (∃ (s : State) (p : Fin 2), (s.upLink ↑p = true) ∧ (s.upLink (1 - ↑p) = true) ∧ (s.rd K.TC_ENABLE ≠ 1)) ∧
    (∃ (s : State) (p : Fin 2) (dom : Fin 256), (s.ptpState = 1) ∧ (s.upLink ↑p = true) ∧ (s.rdN K.PTP_DOMAIN = ↑dom) ∧ (s.uplink.masters = [])) ∧
    (∃ (s : State) (p : Fin 2) (dom : Fin 256) (identity : BitVec 64) (interval : Nat) (now : Nat) (m : Foreign), (s.ptpState = 1) ∧ (s.upLink ↑p = true) ∧ (s.rdN K.PTP_DOMAIN = ↑dom) ∧ (s.uplink.masters = [m]) ∧ (m.port = ↑p) ∧ (m.identity = identity.toNat) ∧ (max s.clk.now now ≤ m.heardAt + 4 * interval) ∧ (m.interval = interval)) ∧
    (∃ (s : State) (p : Fin 2) (dom : Fin 256) (identity : BitVec 64), (s.ptpHasMaster = true) ∧ (s.rdN K.MASTER_PORT = ↑p) ∧ (s.rdN K.MASTER_IDENTITY = identity.toNat) ∧ (s.rdN K.PTP_DOMAIN = ↑dom) ∧ (s.uplink.meanDelay = none)) ∧
    (∃ (s : State) (p : Fin 2) (dom : Fin 256) (identity : BitVec 64) (d : Rat), (s.ptpHasMaster = true) ∧ (s.rdN K.MASTER_PORT = ↑p) ∧ (s.rdN K.MASTER_IDENTITY = identity.toNat) ∧ (s.rdN K.PTP_DOMAIN = ↑dom) ∧ (s.uplink.meanDelay = some d)) ∧
    (∃ (s : State) (p : Fin 2) (dom : Fin 256) (identity : BitVec 64) (d : Rat), (s.ptpHasMaster = true) ∧ (s.rdN K.MASTER_PORT = ↑p) ∧ (s.rdN K.MASTER_IDENTITY = identity.toNat) ∧ (s.rdN K.PTP_DOMAIN = ↑dom) ∧ (s.uplink.meanDelay = some d)) ∧
    (∃ (s : State), (s.ptpHasMaster = true) ∧ (s.uplink.delayAt = none) ∧ (s.upLink (s.rdN K.MASTER_PORT) = true)) ∧
    (∃ (s : State) (p : Fin 2) (identity : BitVec 64) (diff : Rat) (t3 : Rat), (s.ptpHasMaster = true) ∧ (s.rdN K.MASTER_PORT = ↑p) ∧ (s.rdN K.MASTER_IDENTITY = identity.toNat) ∧ (s.uplink.syncDiff = some diff) ∧ (s.uplink.delayT3 = some t3)) ∧
    (∃ (s : State) (now : Nat), (s.ptpHasMaster = true) ∧ ((s.uplink.masters.all fun m => !(s.isMaster m && (max s.clk.now now).blt (m.heardAt + 3 * m.interval))) = true)) ∧
    (∃ (s : State) (now : Nat), (s.ptpHasMaster = true) ∧ ((s.uplink.masters.all fun m => !(s.isMaster m && (max s.clk.now now).blt (m.heardAt + 3 * m.interval))) = true)) :=
  ⟨⟨(upS [(K.TC_ENABLE, 1)] {}), 0, 0, false, by decide +kernel⟩,
    ⟨(upS [(K.TC_ENABLE, 0)] {}), 1, by decide +kernel⟩,
    ⟨(upS [(K.PTP_PORT_STATE, 1)] {}), 0, 0, by decide +kernel⟩,
    ⟨(upS [(K.PTP_PORT_STATE, 1)] {masters := [{mst 0 with qualified := false}]}), 0, 0, 77, 1000, 4500, {mst 0 with qualified := false}, by decide +kernel⟩,
    ⟨(upS [(K.PTP_PORT_STATE, 2), (K.MASTER_PORT, 0), (K.MASTER_IDENTITY, 77)] {masters := [mst 0]}), 0, 0, 77, by decide +kernel⟩,
    ⟨(upS [(K.PTP_PORT_STATE, 2), (K.MASTER_PORT, 0), (K.MASTER_IDENTITY, 77)] {masters := [mst 0], meanDelay := some 0, within := 15}), 0, 0, 77, 0, by decide +kernel⟩,
    ⟨(upS [(K.PTP_PORT_STATE, 3), (K.MASTER_PORT, 0), (K.MASTER_IDENTITY, 77)] {masters := [mst 0], meanDelay := some 0, beyond := 3}), 0, 0, 77, 0, by decide +kernel⟩,
    ⟨(upS [(K.PTP_PORT_STATE, 3), (K.MASTER_PORT, 0), (K.MASTER_IDENTITY, 77)] {masters := [mst 0]}), by decide +kernel⟩,
    ⟨(upS [(K.PTP_PORT_STATE, 3), (K.MASTER_PORT, 0), (K.MASTER_IDENTITY, 77)] {masters := [mst 0], syncDiff := some 500, delayT3 := some 100}), 0, 77, 500, 100, by decide +kernel⟩,
    ⟨(upS [(K.PTP_PORT_STATE, 3), (K.MASTER_PORT, 0), (K.MASTER_IDENTITY, 77)] {masters := [mst 0]}), 3500, by decide +kernel⟩,
    ⟨(upS [(K.PTP_PORT_STATE, 2), (K.MASTER_PORT, 0), (K.MASTER_IDENTITY, 77)] {masters := []}), 3500, by decide +kernel⟩⟩

theorem witness_SessionsAndMessages :
    (∃ (s : State), (s.boot.state = BootState.running) ∧ (s.rdN K.SESSIONS_MAX ≤ List.countP (fun n => s.sessionState n != 0) (List.range 8))) ∧
    (∃ (s : State) (n : Nat), (s.boot.state = BootState.running) ∧ (List.countP (fun n => s.sessionState n != 0) (List.range 8) < s.rdN K.SESSIONS_MAX) ∧ (s.freeSession = some n)) ∧
    (∃ (s : State) (n : Fin 8) (chain : Option (Fin 4)) (selfS : Bool) (ou : Bytes) (now : Nat) (r : Nat), (s.sessionState ↑n = 1) ∧ ((s.at now).elapsed (s.session ↑n).since 10000000000 = false) ∧ (s.certRole (s.rdN (K.SESSION_PEER ↑n)) chain selfS ou = some r) ∧ (s.rd K.WALL_VALID ≠ 1)) ∧
    (∃ (s : State) (n : Fin 8) (chain : Option (Fin 4)) (selfS : Bool) (ou : Bytes) (now : Nat), (s.sessionState ↑n = 1) ∧ ((s.at now).elapsed (s.session ↑n).since 10000000000 = false) ∧ (s.certRole (s.rdN (K.SESSION_PEER ↑n)) chain selfS ou = none)) ∧
    (∃ (s : State) (n : Fin 8), (s.sessionState ↑n = 1)) ∧
    (∃ (s : State) (n : Fin 8) (now : Nat), (2 ≤ s.sessionState ↑n) ∧ ((s.at now).elapsed (s.session ↑n).lastAt (1000000000 * s.rdN K.SESSION_IDLE) = true)) ∧
    (∃ (s : State) (n : Fin 8), (2 ≤ s.sessionState ↑n)) ∧
    (∃ (s : State) (n : Fin 8) (b : Bytes), (2 ≤ s.sessionState ↑n) ∧ (partOk b = false)) ∧
    (∃ (s : State) (n : Fin 8) (b : Bytes), (s.sessionState ↑n = 3) ∧ (partOk b = true) ∧ (uAt b 1 1 = 1) ∧ (uAt b 7 1 = 1) ∧ (uAt b 10 1 = 0) ∧ (uAt b 4 1 ≤ 8) ∧ ((s.session ↑n).parts = []) ∧ ((s.session ↑n).holds (uAt b 2 1) (uAt b 3 1) = false) ∧ ((s.session ↑n).completed.get none (uAt b 2 1) ≠ some (uAt b 3 1)) ∧ ((s.session ↑n).reqs.length < 16)) ∧
    (∃ (s : State) (n : Fin 10) (now : Nat) (p : Part), ((s.session ↑n).parts = [p]) ∧ (p.at_ + 1000000000 ≤ max s.clk.now now)) ∧
    (∃ (s : State) (n : Fin 10) (tag : Fin 256) (gen : Fin 4) (r : Req), (2 ≤ s.sessionState ↑n) ∧ (List.find? (fun r => r.tag == ↑tag && r.gen == ↑gen) (s.session ↑n).reqs = some r) ∧ (r.wait = ReqWait.turn)) ∧
    (∃ (s : State) (n : Fin 10) (tag : Fin 256) (gen : Fin 4) (r : Req) (k : Nat) (mt : Nat) (mg : Nat), (2 ≤ s.sessionState ↑n) ∧ (List.find? (fun r => r.tag == ↑tag && r.gen == ↑gen) (s.session ↑n).reqs = some r) ∧ (r.wait = ReqWait.island k mt mg)) ∧
    (∃ (s : State) (n : Fin 10) (tag : Fin 256) (gen : Fin 4) (r : Req), (2 ≤ s.sessionState ↑n) ∧ (List.find? (fun r => r.tag == ↑tag && r.gen == ↑gen) (s.session ↑n).reqs = some r) ∧ (r.wait = ReqWait.power)) ∧
    (∃ (s : State) (n : Fin 8) (now : Nat) (q : Queued) (l : List Queued), (s.waitingFor ↑n = q :: l) ∧ (s.sessionState ↑n = 3) ∧ (50 ≤ (q :: l).length ∨ (s.at now).elapsed q.placedAt (1000 * s.rdN K.NOTIFY_HOLDOFF) = true)) :=
  ⟨⟨{(st [(K.SESSIONS_MAX, 1), (K.SESSION_STATE 3, 1)]) with boot := {state := .running}}, by decide +kernel⟩,
    ⟨{(st [(K.SESSIONS_MAX, 2), (K.SESSION_STATE 0, 1)]) with boot := {state := .running}}, 1, by decide +kernel⟩,
    ⟨{(st [(K.SESSION_STATE 2, 1)]) with odB := [(K.TRUST_ANCHOR 1, [1])]}, 2, (some 1), false, [0x74, 0x6F, 0x61, 0x2D, 0x61, 0x64, 0x6D, 0x69, 0x6E, 0x69, 0x73, 0x74, 0x72, 0x61, 0x74, 0x6F, 0x72], 9, 4, by decide +kernel⟩,
    ⟨(st [(K.SESSION_STATE 2, 1)]), 2, (some 1), false, [], 9, by decide +kernel⟩,
    ⟨(st [(K.SESSION_STATE 2, 1)]), 2, by decide +kernel⟩,
    ⟨(st [(K.SESSION_STATE 2, 3), (K.SESSION_COUNTER_GRANT, 4)]), 2, 1000000000000000, by decide +kernel⟩,
    ⟨(st [(K.SESSION_STATE 2, 3)]), 2, by decide +kernel⟩,
    ⟨(st [(K.SESSION_STATE 2, 3)]), 2, [], by decide +kernel⟩,
    ⟨(st [(K.SESSION_STATE 2, 3)]), 2, [1, 1, 7, 1, 8, 0, 0, 1, 2, 0, 0, 0, 5, 6], by decide +kernel⟩,
    ⟨{(st [(K.SESSION_STATE 2, 3)]) with sessions := [(2, {parts := [⟨7, 1, 8, 0, 0, 2, [], 5⟩]})]}, 2, 1000000005, ⟨7, 1, 8, 0, 0, 2, [], 5⟩, by decide +kernel⟩,
    ⟨(seS 2 [] [] {reqs := [rq 8 []]}), 2, 7, 1, (rq 8 []), by decide +kernel⟩,
    ⟨{(seS 2 [] [] {reqs := [{rq 7 [] with wait := .island 3 9 0}]}) with islands := [(3, {mbx := [mbx0]})]}, 2, 7, 1, {rq 7 [] with wait := .island 3 9 0}, 3, 9, 0, by decide +kernel⟩,
    ⟨(seS 2 [] [] {reqs := [{rq 2 [] with wait := .power}]}), 2, 7, 1, {rq 2 [] with wait := .power}, by decide +kernel⟩,
    ⟨{(seS 0 [] [] {}) with channels := [(0, {queue := [qd 40 0 1]})]}, 0, 1000000000, (qd 40 0 1), [], by decide +kernel⟩⟩

theorem witness_ToaServices :
    (∃ (s : State) (n : Fin 10) (r : Req), (s.due (↑n) 0 = some r) ∧ (r.body = [])) ∧
    (∃ (s : State) (n : Fin 10) (r : Req), (s.due (↑n) 0 = some r) ∧ (r.body ≠ [])) ∧
    (∃ (s : State) (n : Fin 10) (r : Req), (s.due (↑n) 8 = some r)) ∧
    (∃ (s : State) (n : Fin 10) (r : Req), (s.due (↑n) 6 = some r) ∧ (↑n < 8) ∧ (List.length r.body = 2)) ∧
    (∃ (s : State) (n : Fin 10) (r : Req), (s.due (↑n) 6 = some r) ∧ (8 ≤ ↑n ∨ List.length r.body ≠ 2)) ∧
    (∃ (s : State) (n : Fin 10) (r : Req), (s.due (↑n) 1 = some r) ∧ (List.length r.body ≠ 4)) ∧
    (∃ (s : State) (n : Fin 10) (r : Req), (s.due (↑n) 1 = some r) ∧ (List.length r.body = 4)) ∧
    (∃ (s : State) (n : Fin 10) (r : Req), (s.due (↑n) 3 = some r) ∧ (uAt r.body 0 1 = 0 ∨ 64 < uAt r.body 0 1 ∨ List.length r.body ≠ 4 + 4 * uAt r.body 0 1)) ∧
    (∃ (s : State) (n : Fin 10) (r : Req), (s.due (↑n) 3 = some r) ∧ (1 ≤ uAt r.body 0 1) ∧ (uAt r.body 0 1 ≤ 64) ∧ (List.length r.body = 4 + 4 * uAt r.body 0 1)) ∧
    (∃ (s : State) (n : Fin 10) (r : Req), (s.due (↑n) 5 = some r) ∧ (List.length r.body ≠ 8 ∨ uAt r.body 4 2 = 0 ∨ 4096 < uAt r.body 4 2)) ∧
    (∃ (s : State) (n : Fin 10) (r : Req), (s.due (↑n) 5 = some r) ∧ (List.length r.body = 8) ∧ (1 ≤ uAt r.body 4 2) ∧ (uAt r.body 4 2 ≤ 4096) ∧ (s.pointValues (uAt r.body 0 4) (uAt r.body 4 2) = none)) ∧
    (∃ (s : State) (n : Fin 10) (r : Req) (v : Bytes), (s.due (↑n) 5 = some r) ∧ (List.length r.body = 8) ∧ (1 ≤ uAt r.body 4 2) ∧ (uAt r.body 4 2 ≤ 4096) ∧ (s.pointValues (uAt r.body 0 4) (uAt r.body 4 2) = some v) ∧ (12 + List.length v ≤ 8192)) ∧
    (∃ (s : State) (n : Fin 10) (r : Req), (s.due (↑n) 2 = some r) ∧ (List.length r.body < 4)) ∧
    (∃ (s : State) (n : Fin 10) (now : Nat) (r : Req) (a : Ans), (s.due (↑n) 2 = some r) ∧ (4 ≤ List.length r.body) ∧ (((s.at now).write (s.who (↑n) r.pw) (uAt r.body 0 2) (uAt r.body 2 1) (List.drop 4 r.body)).snd = some a) ∧ ((((s.at now).write (s.who (↑n) r.pw) (uAt r.body 0 2) (uAt r.body 2 1) (List.drop 4 r.body)).fst.session ↑n).holds r.tag r.gen = true)) ∧
    (∃ (s : State) (n : Fin 10) (r : Req), (s.due (↑n) 4 = some r) ∧ (uAt r.body 0 1 = 0 ∨ 64 < uAt r.body 0 1 ∨ groupItems (uAt r.body 0 1) (List.drop 4 r.body) = none)) ∧
    (∃ (s : State) (n : Fin 10) (now : Nat) (r : Req) (items : List (Nat × Nat × Bytes)), (s.due (↑n) 4 = some r) ∧ (1 ≤ uAt r.body 0 1) ∧ (uAt r.body 0 1 ≤ 64) ∧ (groupItems (uAt r.body 0 1) (List.drop 4 r.body) = some items) ∧ ((((s.at now).groupCheck (s.who (↑n) r.pw) items).snd.all fun x => x == Ans.ok) = true) ∧ ((((s.at now).groupCheck (s.who (↑n) r.pw) items).fst.groupApply ((s.at now).groupCheck (s.who (↑n) r.pw) items).fst (s.who (↑n) r.pw) 0 false items).snd = (none, false)) ∧ (((((s.at now).groupCheck (s.who (↑n) r.pw) items).fst.groupApply ((s.at now).groupCheck (s.who (↑n) r.pw) items).fst (s.who (↑n) r.pw) 0 false items).fst.session ↑n).holds r.tag r.gen = true)) :=
  ⟨⟨(seS 2 [] [] {reqs := [rq 0 []]}), 2, (rq 0 []), by decide +kernel⟩,
    ⟨(seS 2 [] [] {reqs := [rq 0 [1]]}), 2, (rq 0 [1]), by decide +kernel⟩,
    ⟨(seS 2 [] [] {reqs := [rq 8 []]}), 2, (rq 8 []), by decide +kernel⟩,
    ⟨(seS 2 [] [] {reqs := [rq 6 [3, 1]]}), 2, (rq 6 [3, 1]), by decide +kernel⟩,
    ⟨(seS 2 [] [] {reqs := [rq 6 [3]]}), 2, (rq 6 [3]), by decide +kernel⟩,
    ⟨(seS 2 [] [] {reqs := [rq 1 [3]]}), 2, (rq 1 [3]), by decide +kernel⟩,
    ⟨(seS 2 [] ax0 {reqs := [rq 1 [15, 64, 13, 0]]}), 2, (rq 1 [15, 64, 13, 0]), by decide +kernel⟩,
    ⟨(seS 2 [] [] {reqs := [rq 3 [1]]}), 2, (rq 3 [1]), by decide +kernel⟩,
    ⟨(seS 2 [] ax0 {reqs := [rq 3 [1, 0, 0, 0, 15, 64, 13, 0]]}), 2, (rq 3 [1, 0, 0, 0, 15, 64, 13, 0]), by decide +kernel⟩,
    ⟨(seS 2 [] [] {reqs := [rq 5 [1]]}), 2, (rq 5 [1]), by decide +kernel⟩,
    ⟨(seS 2 [] [] {reqs := [rq 5 [1, 0, 0, 0, 1, 0, 0, 0]]}), 2, (rq 5 [1, 0, 0, 0, 1, 0, 0, 0]), by decide +kernel⟩,
    ⟨(seS 2 [] [(K.PRESENT 3, 1), (K.FIRST_POINT 3, 0), (K.RUN_COUNT 3, 1), (K.RUN 3 0, 4 + 65536 * 1)] {reqs := [rq 5 [1, 0, 0, 0, 1, 0, 0, 0]]}), 2, (rq 5 [1, 0, 0, 0, 1, 0, 0, 0]), [0], by decide +kernel⟩,
    ⟨(seS 2 [] [] {reqs := [rq 2 [1]]}), 2, (rq 2 [1]), by decide +kernel⟩,
    ⟨(seS 2 [] ax0 {reqs := [rq 2 [2, 64, 1, 0, 5]]}), 2, 9, (rq 2 [2, 64, 1, 0, 5]), .ok, by decide +kernel⟩,
    ⟨(seS 2 [] [] {reqs := [rq 4 [0]]}), 2, (rq 4 [0]), by decide +kernel⟩,
    ⟨(seS 2 [] ax0 {reqs := [rq 4 [1, 0, 0, 0, 2, 64, 1, 0, 1, 0, 0, 0, 5, 0, 0, 0]]}), 2, 9, (rq 4 [1, 0, 0, 0, 2, 64, 1, 0, 1, 0, 0, 0, 5, 0, 0, 0]), [(0x4002, 1, [5])], by decide +kernel⟩⟩

theorem witness_IslandMailboxes :
    (∃ (s : State) (n : Fin 10) (r : Req), (s.due (↑n) 7 = some r) ∧ (List.length r.body = 8 + if uAt r.body 1 1 = 2 then uAt r.body 6 2 else 0) ∧ (uAt r.body 6 2 ≤ 4096) ∧ (1 ≤ uAt r.body 1 1) ∧ (uAt r.body 1 1 ≤ 4) ∧ ((if uAt r.body 1 1 = 2 then 2 else 1) ≤ s.sessionRole ↑n) ∧ (24 ≤ uAt r.body 0 1 ∨ s.integrated (uAt r.body 0 1) = false)) ∧
    (∃ (s : State) (n : Fin 10) (r : Req), (s.due (↑n) 7 = some r) ∧ (List.length r.body = 8 + if uAt r.body 1 1 = 2 then uAt r.body 6 2 else 0) ∧ (uAt r.body 6 2 ≤ 4096) ∧ (1 ≤ uAt r.body 1 1) ∧ (uAt r.body 1 1 ≤ 4) ∧ ((if uAt r.body 1 1 = 2 then 2 else 1) ≤ s.sessionRole ↑n) ∧ (uAt r.body 0 1 < 24) ∧ (s.integrated (uAt r.body 0 1) = true) ∧ (s.cf K.MINISLOTS ≠ 0) ∧ ((s.island (uAt r.body 0 1)).mbx.length < s.rdN (K.MBX_OUTSTANDING (uAt r.body 0 1)))) ∧
    (∃ (s : State) (p : Fin 48) (mac : Nat) (f : Bytes) (pl : Place) (x : Mbx), (((s.at (s.clk.startNow + mac)).arrive (↑p) mac true f).snd = some pl) ∧ (Place.ty s.cf pl = 6) ∧ (26 + uAt f 20 2 ≤ List.length f) ∧ ((((s.at (s.clk.startNow + mac)).arrive (↑p) mac true f).fst.island (portIsland ↑p)).seen.contains pl.key = false) ∧ ((((s.at (s.clk.startNow + mac)).arrive (↑p) mac true f).fst.island (portIsland ↑p)).mbx = [x]) ∧ ((mailOf f).kind = 1) ∧ ((mailOf f).tag = x.tag) ∧ ((mailOf f).gen = x.gen) ∧ (x.resp = []) ∧ ((mailOf f).offset = 0) ∧ ((mailOf f).len ≤ 192) ∧ (bit (headerOf f).flags 6 = false)) :=
  ⟨⟨(seS 2 [] [] {reqs := [rq 7 [3, 1, 0, 32, 1, 0, 0, 0]]}), 2, (rq 7 [3, 1, 0, 32, 1, 0, 0, 0]), by decide +kernel⟩,
    ⟨(seS 2 [(K.POWER_STATE, 2), (K.NETWORK_STATE, 4), (K.GUARD_STATE 3, 3), (K.MBX_OUTSTANDING 3, 1)] [(K.MINISLOTS, 4)] {reqs := [rq 7 [3, 1, 0, 32, 1, 0, 0, 0]]}), 2, (rq 7 [3, 1, 0, 32, 1, 0, 0, 0]), by decide +kernel⟩,
    ⟨{(net3 [] [(K.SLOT_ROLE 0, 0x40), (K.SLOT_PORT_MASK 0, 32), (K.MINISLOT_OWNER 0, 259)]) with islands := [(3, {mbx := [mbx0]})], sessions := [(2, {reqs := [{rq 7 [] with wait := .island 3 9 0}]})]}, 3, 13816, (hdr 6 3 0 0 ++ [9, 4, 1, 0, 0, 32, 1, 0, 2, 0, 0, 0, 0, 0, 55, 66]), (.mini 0), mbx0, by decide +kernel⟩⟩

theorem witness_CanStatesAndReception :
    (∃ (s : State) (c : Fin 2), (s.canState ↑c ≠ 0)) ∧
    (∃ (s : State) (c : Fin 2) (v : Fin 3), (v ≠ 0) ∧ (s.canFault ↑c ≠ 0)) ∧
    (∃ (s : State) (c : Fin 2) (v : Fin 3), (v ≠ 0) ∧ (s.canFault ↑c = 0) ∧ (s.canState ↑c = 0) ∧ (s.domainOn Dom.IFC = true)) ∧
    (∃ (s : State) (c : Fin 2), (s.canState ↑c = 1) ∧ (s.ioClock = true)) ∧
    (∃ (s : State) (c : Fin 2), (s.canState ↑c = 5) ∧ (s.ioClock = true)) ∧
    (∃ (s : State) (c : Fin 2), (s.rd (K.BUSOFF_AUTO ↑c) = 0) ∧ (s.canState ↑c = 4)) ∧
    (∃ (s : State) (c : Fin 2) (error : Fin 7), (s.canOn ↑c = true) ∧ (error ≠ 0) ∧ ((s.can ↑c).active = none)) ∧
    (∃ (s : State) (c : Fin 2) (error : Fin 7), (s.canOn ↑c = true) ∧ (error ≠ 0) ∧ ((s.can ↑c).active = none)) ∧
    (∃ (s : State) (c : Fin 2) (id : BitVec 32) (rtr : Bool), (s.canOn ↑c = true) ∧ (bit id.toNat 30 = true → rtr = false ∧ s.rd (K.FD_ENABLE ↑c) ≠ 0) ∧ (¬(s.rd (K.TOA_ENABLE ↑c) = 1 ∧ sameId id.toNat (s.rdN (K.TOA_RX_ID ↑c)) = true))) ∧
    (∃ (s : State) (c : Fin 2) (id : BitVec 32) (rtr : Bool), (s.canOn ↑c = true) ∧ (bit id.toNat 30 = true → rtr = false ∧ s.rd (K.FD_ENABLE ↑c) ≠ 0) ∧ (¬(s.rd (K.TOA_ENABLE ↑c) = 1 ∧ sameId id.toNat (s.rdN (K.TOA_RX_ID ↑c)) = true))) ∧
    (∃ (s : State) (c : Fin 2) (id : BitVec 32) (rtr : Bool), (s.canOn ↑c = true) ∧ (bit id.toNat 30 = true → rtr = false ∧ s.rd (K.FD_ENABLE ↑c) ≠ 0) ∧ (¬(s.rd (K.TOA_ENABLE ↑c) = 1 ∧ sameId id.toNat (s.rdN (K.TOA_RX_ID ↑c)) = true))) ∧
    (∃ (s : State) (c : Fin 2) (id : BitVec 32) (dlc : Fin 16) (rtr : Bool) (data : Bytes), (s.canOn ↑c = true) ∧ (bit id.toNat 30 = true → rtr = false ∧ s.rd (K.FD_ENABLE ↑c) ≠ 0) ∧ (s.rd (K.TOA_ENABLE ↑c) = 1 ∧ sameId id.toNat (s.rdN (K.TOA_RX_ID ↑c)) = true) ∧ (bit (uAt (padTo (if rtr = true then 0 else dlcBytes (bit id.toNat 30) ↑dlc) data) 0 1) 7 = true) ∧ (bit (uAt (padTo (if rtr = true then 0 else dlcBytes (bit id.toNat 30) ↑dlc) data) 0 1) 6 = false) ∧ (uAt (padTo (if rtr = true then 0 else dlcBytes (bit id.toNat 30) ↑dlc) data) 0 1 % 64 = 0)) ∧
    (∃ (s : State) (c : Fin 2) (b : Bytes) (i : Nat) (start : Nat) (now : Nat), ((s.can ↑c).rx = some (b, i, start)) ∧ ((s.at now).elapsed start 100000000 = true)) ∧
    (∃ (s : State) (c : Fin 2) (f : CanFrame) (r : List CanFrame), ((s.can ↑c).fifo = f :: r)) ∧
    (∃ (s : State) (c : Fin 2), ((s.can ↑c).fifo = [])) ∧
    (∃ (s : State) (c : Fin 2) (f : CanFrame), ((s.can ↑c).hp = some f)) ∧
    (∃ (s : State) (c : Fin 2), ((s.can ↑c).hp = none)) :=
  ⟨⟨(cnS [] {fifo := [cf0], hp := some cf0}), 1, by decide +kernel⟩,
    ⟨(st [(K.NBRP 1, 1), (K.NTSEG1 1, 2), (K.NTSEG2 1, 2)]), 1, 1, by decide +kernel⟩,
    ⟨(st [(K.DOMAIN_STATE Dom.IFC, 2)]), 1, 2, by decide +kernel⟩,
    ⟨(cnS [(K.CAN_STATE 1, 1)] {}), 1, by decide +kernel⟩,
    ⟨(cnS [(K.CAN_STATE 1, 5), (K.TEC 1, 99), (K.REC 1, 5)] {}), 1, by decide +kernel⟩,
    ⟨(cnS [(K.CAN_STATE 1, 4), (K.BUSOFF_AUTO 1, 0)] {}), 1, by decide +kernel⟩,
    ⟨(cnS [(K.TEC 1, 250)] {}), 1, 3, by decide +kernel⟩,
    ⟨(cnS [(K.REC 1, 120)] {}), 1, 3, by decide +kernel⟩,
    ⟨(cnS [(K.NO_MATCH 1, 1), (K.REC 1, 128), (K.CAN_STATE 1, 3)] {}), 1, 5, false, by decide +kernel⟩,
    ⟨(cnS [(K.NO_MATCH 1, 2), (K.REC 1, 12)] {}), 1, (0x40000000), false, by decide +kernel⟩,
    ⟨(cnS [(K.NO_MATCH 1, 1)] {fifo := List.replicate 32 cf0}), 1, 5, true, by decide +kernel⟩,
    ⟨(cnS [(K.TOA_ENABLE 1, 1), (K.TOA_RX_ID 1, 5)] {}), 1, 5, 2, false, [128, 7], by decide +kernel⟩,
    ⟨(cnS [] {rx := some ([], 1, 5)}), 1, [], 1, 5, 100000005, by decide +kernel⟩,
    ⟨(cnS [] {fifo := [cf0, cf0]}), 1, cf0, [cf0], by decide +kernel⟩,
    ⟨(cnS [] {}), 1, by decide +kernel⟩,
    ⟨(cnS [] {hp := some cf0}), 1, cf0, by decide +kernel⟩,
    ⟨(cnS [] {}), 1, by decide +kernel⟩⟩

theorem witness_CanTransmission :
    (∃ (b : Bytes), (List.length b ≠ 80)) ∧
    (∃ (s : State) (c : Fin 2) (b : Bytes), (List.length b = 80) ∧ (s.txEntryOk (↑c) b = false)) ∧
    (∃ (s : State) (c : Fin 2) (b : Bytes), (List.length b = 80) ∧ (s.txEntryOk (↑c) b = true) ∧ (s.rd (K.CAN_MODE ↑c) = 1) ∧ ((s.can ↑c).buf2.busy = false)) ∧
    (∃ (s : State) (c : Fin 2) (b : Bytes), (List.length b = 80) ∧ (s.txEntryOk (↑c) b = true) ∧ (s.rd (K.CAN_MODE ↑c) ≠ 1 ∨ (s.can ↑c).buf2.busy = true)) ∧
    (∃ (s : State) (c : Fin 2), ((s.can ↑c).buf2.state = TxState.pending)) ∧
    (∃ (s : State) (c : Fin 2), ((s.can ↑c).buf2.state = TxState.active)) ∧
    (∃ (s : State) (c : Fin 2) (b : Nat) (f : CanFrame), (s.canOn ↑c = true) ∧ (s.rd (K.CAN_MODE ↑c) = 1) ∧ ((s.can ↑c).active = none) ∧ ((s.canLoad ↑c).canPick ↑c = some (b, f))) ∧
    (∃ (s : State) (c : Fin 2), (s.canOn ↑c = true) ∧ (s.rd (K.CAN_MODE ↑c) = 1) ∧ ((s.can ↑c).active = none) ∧ ((s.canLoad ↑c).canPick ↑c = none)) ∧
    (∃ (s : State) (c : Fin 2) (b : Nat), ((s.can ↑c).active = some b) ∧ (((s.can ↑c).buf b).cancel = true)) ∧
    (∃ (s : State) (c : Fin 2) (b : Nat), ((s.can ↑c).active = some b) ∧ (((s.can ↑c).buf b).cancel = false) ∧ (s.rd (K.ONE_SHOT (↑c) b) = 1)) ∧
    (∃ (s : State) (c : Fin 2) (b : Nat), ((s.can ↑c).active = some b) ∧ (((s.can ↑c).buf b).cancel = false) ∧ (s.rd (K.ONE_SHOT (↑c) b) ≠ 1)) ∧
    (∃ (s : State) (c : Fin 2) (b : Nat) (f : CanFrame), ((s.can ↑c).active = some b) ∧ (((s.can ↑c).buf b).frame = some f)) :=
  ⟨⟨[1], by decide +kernel⟩,
    ⟨(cnS [] {}), 1, ([0, 0, 0, 0, 16] ++ zeros 75), by decide +kernel⟩,
    ⟨(cnS [] {}), 1, ([5, 0, 0, 0, 2] ++ zeros 11 ++ [1, 2] ++ zeros 62), by decide +kernel⟩,
    ⟨(cnS [(K.CAN_MODE 1, 2)] {}), 1, ([5, 0, 0, 0, 2] ++ zeros 11 ++ [1, 2] ++ zeros 62), by decide +kernel⟩,
    ⟨(cnS [] {buf2 := {state := .pending}}), 1, by decide +kernel⟩,
    ⟨(cnS [] {buf2 := {state := .active, frame := some cf0}}), 1, by decide +kernel⟩,
    ⟨(cnS [] {buf2 := {state := .pending, frame := some cf0}}), 1, 2, cf0, by decide +kernel⟩,
    ⟨(cnS [] {}), 1, by decide +kernel⟩,
    ⟨(cnS [] {buf2 := {state := .active, frame := some cf0, cancel := true}}), 1, 2, by decide +kernel⟩,
    ⟨(cnS [(K.ONE_SHOT 1 2, 1)] {buf2 := {state := .active, frame := some cf0}}), 1, 2, by decide +kernel⟩,
    ⟨(cnS [] {buf2 := {state := .active, frame := some cf0}}), 1, 2, by decide +kernel⟩,
    ⟨(cnS [(K.TEC 1, 9)] {buf2 := {state := .active, frame := some cf0}}), 1, 2, cf0, by decide +kernel⟩⟩

theorem witness_AdcScansAndResults :
    (∃ (s : State) (m : Fin 2) (c : Nat) (r : List Nat), (s.domainOn Dom.IFC = true) ∧ (s.ioClock = true) ∧ (s.rdN (K.START_SOURCE ↑m) = 1) ∧ (s.modState ↑m = 0) ∧ (s.adcEnabled ↑m = c :: r)) ∧
    (∃ (s : State) (m : Fin 2), (s.domainOn Dom.IFC = true) ∧ (s.ioClock = true) ∧ (s.rdN (K.START_SOURCE ↑m) = 1) ∧ (s.modState ↑m = 0) ∧ (s.adcEnabled ↑m = [])) ∧
    (∃ (s : State) (m : Fin 2) (now : Nat), (s.domainOn Dom.IFC = true) ∧ (s.ioClock = true) ∧ (s.rdN (K.START_SOURCE ↑m) = 3) ∧ (s.power ≠ 0) ∧ (((s.at now).netNow - s.rdN (K.CYCLE_DELAY ↑m)) % s.ct = 0) ∧ (((s.at now).netNow - s.rdN (K.CYCLE_DELAY ↑m)) / s.ct % s.rdN (K.CYCLE_DIVIDER ↑m) = 0) ∧ (s.modState ↑m = 1)) ∧
    (∃ (s : State) (m : Fin 2) (now : Nat), (s.domainOn Dom.IFC = true) ∧ (s.ioClock = true) ∧ (s.rdN (K.START_SOURCE ↑m) = 3) ∧ (s.power ≠ 0) ∧ (((s.at now).netNow - s.rdN (K.CYCLE_DELAY ↑m)) % s.ct = 0) ∧ (((s.at now).netNow - s.rdN (K.CYCLE_DELAY ↑m)) / s.ct % s.rdN (K.CYCLE_DIVIDER ↑m) = 0) ∧ (s.modState ↑m = 2)) ∧
    (∃ (s : State) (m : Fin 2), (s.domainOn Dom.IFC = true) ∧ (s.ioClock = true) ∧ (s.rdN (K.START_SOURCE ↑m) = 5) ∧ (s.rd K.EXT_STATE ≠ 1) ∧ ((s.modl ↑m).unlocked = false)) ∧
    (∃ (s : State) (m : Fin 2), (s.domainOn Dom.IFC = true) ∧ (s.ioClock = true) ∧ (s.rd (K.INJ_SOURCE ↑m) = 2) ∧ (s.modState ↑m = 0)) ∧
    (∃ (s : State) (m : Fin 2) (edge : Fin 15626) (now : Nat), (s.domainOn Dom.IFC = true) ∧ (s.ioClock = true) ∧ (s.rd (K.INJ_SOURCE ↑m) = 2) ∧ (s.modState ↑m ≠ 0) ∧ (s.scanJustBegan (↑m) ((s.at now).edgeAt ↑edge) = false)) ∧
    (∃ (s : State) (m : Fin 2) (edge : Fin 15626) (now : Nat), (s.domainOn Dom.IFC = true) ∧ (s.ioClock = true) ∧ (s.rd (K.INJ_SOURCE ↑m) = 2) ∧ (s.scanJustBegan (↑m) ((s.at now).edgeAt ↑edge) = true)) ∧
    (∃ (s : State) (m : Fin 2) (c : Nat) (r : List Nat), (s.domainOn Dom.IFC = true) ∧ (s.ioClock = true) ∧ (s.modState ↑m = 1) ∧ ((s.modl ↑m).samples ≤ (s.modl ↑m).valid) ∧ ((s.modl ↑m).rest = c :: r)) ∧
    (∃ (s : State) (m : Fin 2), (s.domainOn Dom.IFC = true) ∧ (s.ioClock = true) ∧ (s.modState ↑m = 1) ∧ ((s.modl ↑m).samples ≤ (s.modl ↑m).valid) ∧ ((s.modl ↑m).rest = []) ∧ (s.rd (K.START_SOURCE ↑m) ≠ 1)) ∧
    (∃ (s : State) (m : Fin 2), (s.domainOn Dom.IFC = true) ∧ (s.ioClock = true) ∧ (s.modState ↑m = 2) ∧ ((s.modl ↑m).samples ≤ (s.modl ↑m).valid) ∧ ((s.modl ↑m).held = false)) ∧
    (∃ (s : State) (m : Fin 2), (s.modState ↑m ≠ 0) ∧ ((s.modl ↑m).valid < (s.modl ↑m).samples) ∧ (s.ioClock = true) ∧ ((s.modl ↑m).ext = false)) ∧
    (∃ (s : State) (m : Fin 2), (s.modState ↑m ≠ 0) ∧ ((s.modl ↑m).valid < (s.modl ↑m).samples) ∧ (s.ioClock = true) ∧ ((s.modl ↑m).ext = false)) ∧
    (∃ (s : State) (m : Fin 2), (s.modState ↑m ≠ 0) ∧ ((s.modl ↑m).valid < (s.modl ↑m).samples) ∧ (s.ioClock = true) ∧ ((s.modl ↑m).ext = false)) ∧
    (∃ (s : State) (m : Fin 2) (e : Bytes) (r : List Bytes), ((s.modl ↑m).fifo = e :: r)) ∧
    (∃ (s : State) (m : Fin 2), ((s.modl ↑m).fifo = [])) :=
  ⟨⟨(adS [(K.START_SOURCE 1, 1), (K.CH_ENABLE 3, 1), (K.MODULATOR 3, 1), (K.CH_ENABLE 5, 1), (K.MODULATOR 5, 1)] {}), 1, 3, [5], by decide +kernel⟩,
    ⟨(adS [(K.START_SOURCE 1, 1), (K.SCAN_COUNT 1, 4294967295)] {}), 1, by decide +kernel⟩,
    ⟨(adS [(K.START_SOURCE 1, 3), (K.MOD_STATE 1, 1)] {}), 1, 0, by decide +kernel⟩,
    ⟨(adS [(K.START_SOURCE 1, 3), (K.MOD_STATE 1, 2)] {}), 1, 0, by decide +kernel⟩,
    ⟨(adS [(K.START_SOURCE 1, 5), (K.MOD_STATE 1, 2)] {}), 1, by decide +kernel⟩,
    ⟨(adS [(K.INJ_SOURCE 1, 2), (K.INJ_CHANNEL 1, 9)] {}), 1, by decide +kernel⟩,
    ⟨(adS [(K.INJ_SOURCE 1, 2), (K.MOD_STATE 1, 1)] {}), 1, 100, 7, by decide +kernel⟩,
    ⟨(adS [(K.INJ_SOURCE 1, 2), (K.INJ_CHANNEL 1, 9), (K.MOD_STATE 1, 1)] {began := some (7 + 100 / 128), start := 7 + 100 / 128, rest := [5]}), 1, 100, 7, by decide +kernel⟩,
    ⟨(adS [(K.MOD_STATE 1, 1)] {samples := 1, valid := 1, rest := [4, 5], k := 3}), 1, 4, [5], by decide +kernel⟩,
    ⟨(adS [(K.MOD_STATE 1, 1), (K.START_SOURCE 1, 2)] {samples := 1, valid := 1}), 1, by decide +kernel⟩,
    ⟨(adS [(K.MOD_STATE 1, 2)] {samples := 1, valid := 1}), 1, by decide +kernel⟩,
    ⟨(adS [(K.MOD_STATE 1, 1), (K.FIFO_MODE 1, 2)] {samples := 2, valid := 0, order := 3, k := 2, gain := 7}), 1, by decide +kernel⟩,
    ⟨(adS [(K.MOD_STATE 1, 1), (K.FIFO_MODE 1, 2)] {samples := 2, valid := 0, order := 3, k := 1, gain := 7, fifo := List.replicate 256 [1]}), 1, by decide +kernel⟩,
    ⟨(adS [(K.MOD_STATE 1, 1), (K.FIFO_MODE 1, 0)] {samples := 2, valid := 0, order := 3, k := 1, gain := 7, fifo := List.replicate 256 [1]}), 1, by decide +kernel⟩,
    ⟨(adS [] {fifo := [[1], [2]]}), 1, [1], [[2]], by decide +kernel⟩,
    ⟨(adS [] {}), 1, by decide +kernel⟩⟩

theorem witness_AcquisitionLife :
    (∃ (s : State), (s.domainOn Dom.ACQ = true) ∧ (s.acqRefuse = 0)) ∧
    (∃ (s : State), (s.domainOn Dom.ACQ = true) ∧ (s.acqRefuse = 0)) ∧
    (∃ (s : State), (s.domainOn Dom.ACQ = true) ∧ (s.acqRefuse ≠ 0)) ∧
    (∃ (s : State), (s.acqBusy = true)) ∧
    (∃ (s : State), (s.rd K.ACQ_STATE = 1)) ∧
    (∃ (s : State), (s.rd K.ACQ_STATE = 2)) ∧
    (∃ (s : State), (s.rd K.ACQ_STATE = 2)) ∧
    (∃ (s : State), (s.rd K.ACQ_STATE = 1) ∧ (s.rdN K.PRETRIGGER ≤ s.acq.count)) ∧
    (∃ (s : State) (now : Nat), (s.rd K.ACQ_STATE = 2) ∧ (s.rd K.AUTO_TIMEOUT ≠ 0) ∧ ((s.at now).elapsed s.acq.armedAt (1000000 * s.rdN K.AUTO_TIMEOUT) = true)) ∧
    (∃ (s : State) (pin : Fin 4), (s.rd (K.TRIG_IO_MODE ↑pin) = 1) ∧ (s.rd K.ACQ_STATE = 2) ∧ (s.rd K.TRIG_KIND = 6) ∧ (s.rdN K.TRIG_REF = ↑pin)) ∧
    (∃ (s : State), (s.rd K.ACQ_STATE = 3) ∧ (s.acqKept = true) ∧ (((List.take (s.rdN K.LENGTH) (List.drop (s.acq.first - s.acq.dropped) s.acq.rows)).all fun x => x.processed) = true)) ∧
    (∃ (s : State), (s.acqBusy = true) ∧ (s.acq.overrun = true)) ∧
    (∃ (s : State) (pin : Fin 4) (now : Nat) (e : Nat × Nat), (List.find? (fun e => e.fst == ↑pin && e.snd.ble (s.at now).netNow) s.acq.pulses = some e)) ∧
    (∃ (s : State), (s.domainOn Dom.ACQ = true) ∧ (s.acqBusy = true)) :=
  ⟨⟨(aqS [(K.SOURCE_KIND 1, 4), (K.PRETRIGGER, 3)] {rows := [ar0]}), by decide +kernel⟩,
    ⟨(aqS [(K.SOURCE_KIND 1, 4), (K.PRETRIGGER, 0)] {rows := [ar0]}), by decide +kernel⟩,
    ⟨(aqS [(K.ACQ_STATE, 1)] {}), by decide +kernel⟩,
    ⟨(aqS [(K.ACQ_STATE, 3)] {}), by decide +kernel⟩,
    ⟨(aqS [(K.ACQ_STATE, 1)] {}), by decide +kernel⟩,
    ⟨(aqS [(K.ACQ_STATE, 2), (K.TRIG_IO_MODE 2, 2)] {rows := [ar0]}), by decide +kernel⟩,
    ⟨(aqS [(K.ACQ_STATE, 2)] {rows := [ar0]}), by decide +kernel⟩,
    ⟨(aqS [(K.ACQ_STATE, 1), (K.PRETRIGGER, 1)] {rows := [ar0]}), by decide +kernel⟩,
    ⟨(aqS [(K.ACQ_STATE, 2), (K.AUTO_TIMEOUT, 1)] {rows := [ar0]}), 1000000, by decide +kernel⟩,
    ⟨(aqS [(K.ACQ_STATE, 2), (K.TRIG_IO_MODE 2, 1), (K.TRIG_KIND, 6), (K.TRIG_REF, 2)] {rows := [ar0]}), 2, by decide +kernel⟩,
    ⟨(aqS [(K.ACQ_STATE, 3), (K.LENGTH, 2)] {rows := [ar0, ar0, ar0], trigRow := some 2, first := 1}), by decide +kernel⟩,
    ⟨(aqS [(K.ACQ_STATE, 2)] {overrun := true}), by decide +kernel⟩,
    ⟨(aqS [(K.ACQ_STATE, 2)] {pulses := [(2, 700), (1, 5), (2, 600)]}), 2, 650, (2, 600), by decide +kernel⟩,
    ⟨(aqS [(K.ACQ_STATE, 2), (K.SOURCE_KIND 1, 4)] {rows := [ar0, {ar0 with processed := false}]}), by decide +kernel⟩⟩

theorem witness_TracesAndCounters :
    (∃ (s : State) (a : Fin 128), (s.traceState ↑a = 1) ∧ (s.domainOn Dom.ACQ = true) ∧ (s.axState ↑a ≠ 0) ∧ (s.clk.cyc % max 1 (s.rdN (K.TRACE_DIV ↑a)) = 0)) ∧
    (∃ (s : State) (a : Fin 128) (c : Fin 4), (c ≠ 0) ∧ (bit (s.rdN (K.FREEZE_ON ↑a)) (↑c - 1) = true) ∧ (s.freezeHolds ↑a ↑c = true) ∧ (s.traceState ↑a = 1)) ∧
    (∃ (s : State) (a : Fin 128), (s.traceState ↑a = 2) ∧ ((s.trace ↑a).remaining = 0)) ∧
    (∃ (s : State) (a : Fin 128), (s.traceState ↑a = 1)) ∧
    (∃ (s : State), (s.domainOn Dom.ACQ = true)) ∧
    (∃ (s : State), (s.domainOn Dom.ACQ = false)) ∧
    (∃ (s : State) (c : Fin 64), (↑c ∈ s.counters.wrapped)) ∧
    (∃ (s : State) (now : Nat), (s.domainOn Dom.ACQ = true) ∧ (s.power ≠ 0) ∧ ((s.counters.windowStart / s.windowNs + 1) * s.windowNs ≤ (s.at now).netNow)) ∧
    (∃ (s : State) (now : Nat), (s.domainOn Dom.ACQ = true) ∧ (s.power ≠ 0) ∧ ((s.counters.windowStart / s.windowNs + 1) * s.windowNs ≤ (s.at now).netNow)) :=
  ⟨⟨(aqS [(K.TRACE_STATE 3, 1), (K.AXIS_STATE 3, 1)] {}), 3, by decide +kernel⟩,
    ⟨{(aqS [(K.TRACE_STATE 3, 1), (K.AXIS_STATE 3, 8), (K.FAULT_CODE 3, 32), (K.FREEZE_ON 3, 7)] {}) with axes := [(3, {})]}, 3, 1, by decide +kernel⟩,
    ⟨(aqS [(K.TRACE_STATE 3, 2)] {}), 3, by decide +kernel⟩,
    ⟨(aqS [(K.TRACE_STATE 3, 1)] {}), 3, by decide +kernel⟩,
    ⟨(aqS [] {}), by decide +kernel⟩,
    ⟨(st []), by decide +kernel⟩,
    ⟨{(aqS [(K.COUNTERS_RUNNING, 1), (K.PEAK_UTIL 7, 5)] {}) with counters := {live := [(2, 5)], wrapped := [4, 2]}}, 2, by decide +kernel⟩,
    ⟨{(aqS [] {}) with counters := {rxBytes := [(2, 5)], rxWire := [(2, 900000000)]}}, 5000000000, by decide +kernel⟩,
    ⟨{(aqS [] {}) with counters := {windowStart := 5, rxBytes := [(2, 5)], rxWire := [(2, 900000000)]}}, 5000000000, by decide +kernel⟩⟩

theorem witness_ChainedCounters :
    (∃ (s : State) (k : Fin 32), (s.rd (K.CHAIN ↑k) = 1)) ∧
    (∃ (s : State) (k : Fin 32) (code : Nat), (s.rd (K.CHAIN ↑k) = 1) ∧ (s.rdN (K.COUNTER_EVENT (2 * ↑k + 1)) = code) ∧ (s.rdN (K.COUNTER_SELECT (2 * ↑k + 1)) = 65535)) ∧
    (∃ (s : State) (k : Fin 32), (s.rd (K.CHAIN ↑k) = 1) ∧ (s.counters.live.get 0 (2 * ↑k) < 2 ^ 32)) ∧
    (∃ (s : State) (k : Fin 32), (s.rd (K.CHAIN ↑k) = 1)) :=
  ⟨⟨{(aqS [(K.CHAIN 3, 1), (K.COUNTER_EVENT 7, 5), (K.COUNTER_SELECT 7, 65535)] {}) with counters := {live := [(6, 4294967295), (7, 4294967290)]}}, 3, by decide +kernel⟩,
    ⟨{(aqS [(K.CHAIN 3, 1), (K.COUNTER_EVENT 7, 5), (K.COUNTER_SELECT 7, 65535)] {}) with counters := {live := [(6, 4294967295), (7, 4294967290)]}}, 3, 5, by decide +kernel⟩,
    ⟨{(aqS [(K.CHAIN 3, 1), (K.COUNTER_EVENT 7, 5), (K.COUNTER_SELECT 7, 65535)] {}) with counters := {live := [(6, 4294967295), (7, 4294967290)]}}, 3, by decide +kernel⟩,
    ⟨{(aqS [(K.CHAIN 3, 1), (K.COUNTER_EVENT 7, 5), (K.COUNTER_SELECT 7, 65535)] {}) with counters := {live := [(6, 4294967295), (7, 4294967290)], latched := [(6, 1), (7, 2)]}}, 3, by decide +kernel⟩⟩

theorem witness_SafeInputsAndOutputs :
    (∃ (s : State) (k : Fin 16), (s.lhAlive = true) ∧ (s.cf (K.SI_MODE ↑k) ≠ 0)) ∧
    (∃ (s : State) (k : Fin 16), (s.lhAlive = true) ∧ (s.cf (K.SI_MODE ↑k) ≠ 0)) ∧
    (∃ (s : State) (k : Fin 16), (s.lhAlive = true) ∧ (s.cf (K.SI_MODE ↑k) ≠ 0) ∧ (s.cf (K.SI_TEST_PULSE ↑k) ≠ 0)) ∧
    (∃ (s : State) (k : Fin 16), (s.lhAlive = true) ∧ (s.cf (K.SI_MODE ↑k) ≠ 0) ∧ (s.cf (K.SI_TEST_PULSE ↑k) ≠ 0) ∧ ((s.si ↑k).stayA = 0)) ∧
    (∃ (s : State) (k : Fin 16), (s.lhAlive = true) ∧ (s.cf (K.SI_MODE ↑k) ≠ 0) ∧ (s.cf (K.SI_TEST_PULSE ↑k) ≠ 0) ∧ (1 ≤ (s.si ↑k).stayA) ∧ ((s.si ↑k).faultA = false)) ∧
    (∃ (s : State) (k : Fin 16), (s.lhAlive = true) ∧ (s.cf (K.SI_MODE ↑k) ≠ 0) ∧ (s.cf (K.SI_TEST_PULSE ↑k) ≠ 0) ∧ (1 ≤ (s.si ↑k).stayB) ∧ ((s.si ↑k).faultB = false)) ∧
    (∃ (s : State) (k : Fin 16) (now : Nat) (t0 : Nat), (s.lhAlive = true) ∧ (s.cf (K.SI_MODE ↑k) ≠ 0) ∧ ((s.si ↑k).disSince = some t0) ∧ ((s.si ↑k).dis = false) ∧ ((s.si ↑k).faultA = false) ∧ ((s.si ↑k).faultB = false) ∧ ((s.at now).elapsed t0 (1000000 * s.cfN (K.SI_DISCREPANCY ↑k)) = true)) ∧
    (∃ (s : State) (o : Fin 8), (s.lhState = LH.RUN) ∧ (s.cf (K.SO_SOURCE ↑o) ≠ 0) ∧ (s.cf (K.SO_TEST_PULSE ↑o) ≠ 0) ∧ (s.rd (K.SO_STATE ↑o) = 1)) ∧
    (∃ (s : State) (o : Fin 8) (low : Bool) (r : Fin 4), (s.lhState = LH.RUN) ∧ (s.cf (K.SO_SOURCE ↑o) ≠ 0) ∧ (s.cf (K.SO_TEST_PULSE ↑o) ≠ 0) ∧ (s.rd (K.SO_STATE ↑o) = 1) ∧ (r = 1 ∨ r = 2) ∧ ((s.lh.scopes.any fun c => c.cause == 2 && c.ref == ↑o && c.failed.contains (b2n low)) = false)) ∧
    (∃ (s : State) (o : Fin 8), (s.lhState = LH.RUN) ∧ (s.cf (K.SO_SOURCE ↑o) ≠ 0) ∧ (s.rd (K.SO_FAULT ↑o) ≠ 3)) :=
  ⟨⟨(lhS [] [(K.SI_MODE 3, 1)] {}), 3, by decide +kernel⟩,
    ⟨(lhS [] [(K.SI_MODE 3, 2)] {si := [(3, {a := true})]}), 3, by decide +kernel⟩,
    ⟨(lhS [] [(K.SI_MODE 3, 1), (K.SI_TEST_PULSE 3, 1)] {}), 3, by decide +kernel⟩,
    ⟨(lhS [] [(K.SI_MODE 3, 1), (K.SI_TEST_PULSE 3, 1)] {}), 3, by decide +kernel⟩,
    ⟨(lhS [] [(K.SI_MODE 3, 1), (K.SI_TEST_PULSE 3, 1)] {si := [(3, {stayA := 1})]}), 3, by decide +kernel⟩,
    ⟨(lhS [] [(K.SI_MODE 3, 1), (K.SI_TEST_PULSE 3, 1)] {si := [(3, {stayB := 1})], scopes := [⟨1, 3, [0], false⟩]}), 3, by decide +kernel⟩,
    ⟨(lhS [] [(K.SI_MODE 3, 1)] {si := [(3, {a := true, disSince := some 0})]}), 3, 100000000000, 0, by decide +kernel⟩,
    ⟨(lhS [(K.SO_STATE 3, 1)] [(K.SO_SOURCE 3, 1), (K.SO_TEST_PULSE 3, 1)] {}), 3, by decide +kernel⟩,
    ⟨(lhS [(K.SO_STATE 3, 1)] [(K.SO_SOURCE 3, 1), (K.SO_TEST_PULSE 3, 1)] {scopes := [⟨2, 3, [0], false⟩]}), 3, true, 2, by decide +kernel⟩,
    ⟨(lhS [(K.SO_STATE 3, 1), (K.AXIS_SAFETY_STATE 5, 0)] [(K.SO_SOURCE 3, 2), (K.SO_REF 3, 5), (K.SO_TEST_PULSE 3, 1)] {}), 3, by decide +kernel⟩⟩

theorem witness_LighthouseCycleMeetsDemands :
    (∃ (s : State), (s.lhState = LH.RUN)) ∧
    (∃ (s : State), (s.lhState = LH.RUN)) :=
  ⟨⟨(lhS [(K.AXIS_SAFETY_STATE 5, 0)] ([(K.SI_MODE 3, 1), (K.SI_FUNCTION 3, 1), (K.SI_GROUPS 3, 5), (K.GROUP_AXES 2 0, 32)] ++ ax0) {}), by decide +kernel⟩,
    ⟨(lhS [(K.AXIS_SAFETY_STATE 5, 1)] ([(K.SI_MODE 3, 1), (K.SI_FUNCTION 3, 2), (K.SI_GROUPS 3, 5), (K.GROUP_AXES 2 0, 33)] ++ ax0) {scopes := [⟨4, 0, [0], true⟩]}), by decide +kernel⟩⟩

theorem witness_SafetyMonitors :
    (∃ (s : State) (a : Fin 128) (now : Nat), (s.lhState = LH.RUN) ∧ (s.safety ↑a = SS.SLS) ∧ ((s.at now).elapsed (s.lhAxis ↑a).since (1000000 * s.cfN (K.SLS_RAMP_TIME (s.lhAxis ↑a).group)) = true)) ∧
    (∃ (s : State) (a : Fin 128) (now : Nat), (s.lhState = LH.RUN) ∧ (s.safety ↑a = SS.SS1) ∧ ((s.lhAxis ↑a).timed = true) ∧ ((s.at now).elapsed (s.lhAxis ↑a).since (1000000 * s.cfN (K.SS1_TIME (s.lhAxis ↑a).group)) = true)) ∧
    (∃ (s : State) (now : Nat) (n : Fin 24), (s.lhState = LH.RUN) ∧ ((s.at now).scLost ↑n = true) ∧ (s.lh.lost.contains ↑n = false) ∧ ((s.axesOf ↑n).isEmpty = false)) ∧
    (∃ (s : State) (a : Fin 128), (s.lhState = LH.RUN) ∧ (s.cfN (K.XCHK_CYCLES ↑a) ≤ (s.lhAxis ↑a).xrun) ∧ ((s.lhAxis ↑a).latched.contains 6 = false)) ∧
    (∃ (s : State) (a : Fin 128), (s.lhState = LH.RUN) ∧ (s.cfN K.XCHK_MISS_MAX < (s.lhAxis ↑a).xmiss)) ∧
    (∃ (s : State) (p : Fin 48), ((s.port ↑p).lost = false) ∧ (s.rdN K.CHANNEL_LOSS_CYCLES ≤ (s.port ↑p).missRun) ∧ (0 < (s.port ↑p).missRun)) ∧
    (∃ (s : State) (a : Fin 128) (now : Nat), ((s.lhAxis ↑a).sbcHold = true) ∧ ((s.at now).elapsed (s.lhAxis ↑a).stoAt (1000000 * s.cfN (K.SBC_DELAY ↑a)) = true)) ∧
    (∃ (s : State) (a : Fin 128) (now : Nat) (c : ScIn) (j : Nat), (s.scOf ↑a = some (c, j)) ∧ (s.lhState = LH.RUN) ∧ (SS.STO ≤ s.safety ↑a) ∧ ((s.lhAxis ↑a).readback = false) ∧ (bit c.axes j = false) ∧ ((s.at now).elapsed (max (s.lhAxis ↑a).stoAt s.lh.startedAt) 10000000 = true)) :=
  ⟨⟨(lhS [(K.AXIS_SAFETY_STATE 5, 1)] ax0 {axes := [(5, {group := 2})]}), 5, 1000000000000, by decide +kernel⟩,
    ⟨(lhS [(K.AXIS_SAFETY_STATE 5, 2)] ax0 {axes := [(5, {group := 2, timed := true})]}), 5, 1000000000000, by decide +kernel⟩,
    ⟨(lhS [(K.AXIS_SAFETY_STATE 5, 2)] ax0 {}), 1000000000000, 3, by decide +kernel⟩,
    ⟨(lhS [(K.AXIS_SAFETY_STATE 5, 2)] ax0 {axes := [(5, {xrun := 255})]}), 5, by decide +kernel⟩,
    ⟨(lhS [(K.AXIS_SAFETY_STATE 5, 2)] ax0 {axes := [(5, {xmiss := 65535})]}), 5, by decide +kernel⟩,
    ⟨{(lhS [(K.AXIS_SAFETY_STATE 5, 2)] ax0 {}) with ports := [(3, {missRun := 255})]}, 3, by decide +kernel⟩,
    ⟨(lhS [(K.AXIS_SAFETY_STATE 5, 3)] ax0 {axes := [(5, {sbcHold := true})]}), 5, 1000000000000, by decide +kernel⟩,
    ⟨{(lhS [(K.AXIS_SAFETY_STATE 0, 3)] ax0 {}) with islands := [(3, {scIn := some ⟨0, 0, []⟩})]}, 0, 1000000000000, ⟨0, 0, []⟩, 0, by decide +kernel⟩⟩

theorem witness_LighthouseStatesAndResets :
    (∃ (s : State), (s.lhState = LH.OFF) ∧ (s.domainOn Dom.LH = true)) ∧
    (∃ (s : State), (s.lhState = LH.STARTUP)) ∧
    (∃ (s : State) (now : Nat), (s.lhState = LH.STARTUP) ∧ (∀ (k : Nat), k < 16 → s.cf (K.SI_MODE k) = 0 ∨ (s.at now).elapsed s.lh.startedAt (100000 * s.cfN (K.SI_FILTER k)) = true)) ∧
    (∃ (s : State) (now : Nat), (s.lhState = LH.STARTUP) ∧ (∃ k, k < 16 ∧ s.cf (K.SI_MODE k) ≠ 0 ∧ (s.at now).elapsed s.lh.startedAt (100000 * s.cfN (K.SI_FILTER k)) = false)) ∧
    (∃ (s : State) (c : Fin 4), (s.lhState = LH.RUN) ∧ (c ≠ 0)) ∧
    (∃ (s : State), (s.lhState = LH.RUN)) ∧
    (∃ (s : State) (k : Fin 16), (s.lhState = LH.RUN) ∧ ((s.si ↑k).press = true)) ∧
    (∃ (s : State) (now : Nat), (s.rd K.DEGRADED_STATE = 1) ∧ ((s.at now).elapsed s.lh.degradedAt (1000000000 * s.cfN K.DEGRADED_TIME) = true)) ∧
    (∃ (s : State), (s.rd K.DEGRADED_STATE ≠ 0) ∧ (s.lh.scopes.all s.scopeGone = true)) ∧
    (∃ (s : State), (s.rd K.DEGRADED_STATE = 0 ∨ s.lh.scopes.all s.scopeGone = false)) :=
  ⟨⟨(lhS [(K.LH_STATE, 0), (K.DEGRADED_STATE, 1), (K.AXIS_SAFETY_STATE 0, 1)] ax0 {scopes := [⟨4, 0, [0], true⟩]}), by decide +kernel⟩,
    ⟨(lhS [(K.LH_STATE, 1), (K.AXIS_SAFETY_STATE 0, 1)] ax0 {scopes := [⟨4, 0, [0], true⟩]}), by decide +kernel⟩,
    ⟨(lhS [(K.LH_STATE, 1), (K.AXIS_SAFETY_STATE 0, 1)] ([(K.SI_MODE 2, 1)] ++ ax0) {}), 70000000000, by decide +kernel⟩,
    ⟨(lhS [(K.LH_STATE, 1), (K.AXIS_SAFETY_STATE 0, 1)] ([(K.SI_MODE 2, 1)] ++ ax0) {}), 7, by decide +kernel⟩,
    ⟨(lhS [(K.AXIS_SAFETY_STATE 0, 1)] ([(K.SI_MODE 2, 1)] ++ ax0) {}), 2, by decide +kernel⟩,
    ⟨(lhS [(K.AXIS_SAFETY_STATE 0, 1), (K.AXIS_SAFETY_STATE 5, 4)] ([(K.SI_MODE 2, 1)] ++ ax0) {}), by decide +kernel⟩,
    ⟨(lhS [(K.AXIS_SAFETY_STATE 0, 1), (K.AXIS_SAFETY_STATE 5, 4)] ([(K.SI_GROUPS 2, 4), (K.GROUP_AXES 2 0, 33)] ++ ax0) {si := [(2, {press := true})]}), 2, by decide +kernel⟩,
    ⟨(lhS [(K.DEGRADED_STATE, 1)] ax0 {}), 1000000000000000, by decide +kernel⟩,
    ⟨(lhS [(K.DEGRADED_STATE, 1), (K.DEGRADED_REF, 4)] ax0 {scopes := [⟨1, 3, [0], false⟩], si := [(3, {passA := 2})]}), by decide +kernel⟩,
    ⟨(lhS [(K.DEGRADED_STATE, 1), (K.DEGRADED_REF, 4)] ax0 {scopes := [⟨1, 3, [0], false⟩], si := [(3, {passA := 1})]}), by decide +kernel⟩⟩

theorem witness_SafetyParameters :
    (∃ (s : State), (s.dual.on = true) ∧ (s.straitUp = true)) ∧
    (∃ (s : State) (w : Who) (new : Bytes), (passwordOk new = true) ∧ (s.rd K.PASSWORD_STATE = 0) ∧ (↑w.role < 4)) ∧
    (∃ (s : State) (w : Who) (new : Bytes), (passwordOk new = true) ∧ (s.rd K.PASSWORD_STATE = 0) ∧ (4 ≤ ↑w.role)) ∧
    (∃ (s : State) (w : Who) (new : Bytes) (p : Bytes) (q : Bytes), (passwordOk new = true) ∧ (s.rd K.PASSWORD_STATE = 1) ∧ (3 ≤ ↑w.role) ∧ (s.lh.password = some p) ∧ (w.pw = some q) ∧ (p = q)) ∧
    (∃ (s : State) (w : Who) (new : Bytes) (p : Bytes) (q : Bytes), (passwordOk new = true) ∧ (s.rd K.PASSWORD_STATE = 1) ∧ (3 ≤ ↑w.role) ∧ (s.lh.password = some p) ∧ (w.pw = some q) ∧ (p ≠ q)) ∧
    (∃ (s : State) (w : Who) (new : Bytes) (p : Bytes) (q : Bytes), (passwordOk new = true) ∧ (s.rd K.PASSWORD_STATE = 1) ∧ (3 ≤ ↑w.role) ∧ (s.lh.password = some p) ∧ (w.pw = some q) ∧ (p ≠ q)) ∧
    (∃ (s : State) (w : Who) (new : Bytes), (passwordOk new = true) ∧ (s.rd K.PASSWORD_STATE = 2) ∧ (3 ≤ ↑w.role)) ∧
    (∃ (s : State) (now : Nat), (s.rd K.PASSWORD_STATE = 2) ∧ (s.lh.lockUntil ≤ max s.clk.now now)) ∧
    (∃ (s : State) (w : Who) (v : BitVec 32), (3 ≤ w.role.val) ∧ (s.lockBar w = false) ∧ (v.toNat = safetySig s.pend) ∧ (s.safetyQuiet = true)) ∧
    (∃ (s : State) (w : Who) (v : BitVec 32), (3 ≤ w.role.val) ∧ (s.lockBar w = false) ∧ (v.toNat ≠ safetySig s.pend ∨ s.safetyQuiet = false)) ∧
    (∃ (s : State) (w : Who), (3 ≤ ↑w.role) ∧ (s.lockBar w = false) ∧ (DictWf s.od) ∧ (DictWf s.act)) ∧
    (∃ (s : State) (w : Who), (4 ≤ ↑w.role) ∧ (s.lockBar w = false) ∧ (s.safetyQuiet = true) ∧ (DictWf s.od) ∧ (DictWf s.act)) :=
  ⟨⟨{(lhS [(K.STRAIT_STATE, 2)] ax0 {}) with dual := {on := true}}, by decide +kernel⟩,
    ⟨(lhS [(K.PASSWORD_STATE, 0)] ax0 {}), ⟨3, 3, 7, none⟩, pw0, by decide +kernel⟩,
    ⟨(lhS [(K.PASSWORD_STATE, 0)] ax0 {}), ⟨4, 3, 7, none⟩, pw0, by decide +kernel⟩,
    ⟨(lhS [] ax0 {password := some pw1}), ⟨3, 3, 7, some pw1⟩, pw0, pw1, pw1, by decide +kernel⟩,
    ⟨(lhS [] ax0 {password := some pw1}), ⟨3, 3, 7, some pw0⟩, pw0, pw1, pw0, by decide +kernel⟩,
    ⟨(lhS [] ax0 {password := some pw1, wrong := [1, 2, 3, 4]}), ⟨3, 3, 7, some pw0⟩, pw0, pw1, pw0, by decide +kernel⟩,
    ⟨(lhS [(K.PASSWORD_STATE, 2)] ax0 {password := some pw1}), ⟨3, 3, 7, some pw1⟩, pw0, by decide +kernel⟩,
    ⟨(lhS [(K.PASSWORD_STATE, 2)] ax0 {lockUntil := 5}), 5, by decide +kernel⟩,
    (sigWord (lhS [] [] {})).elim fun v hv =>
     ⟨lhS [] [] {}, ⟨3, 3, 7, none⟩, v, by decide +kernel, by decide +kernel, hv, by decide +kernel⟩,
    ⟨lhS [(K.AXIS_SAFETY_STATE 0, 0)] ax0 {}, ⟨3, 3, 7, none⟩, 1, by decide +kernel, by decide +kernel, .inr (by decide +kernel)⟩,
    ⟨(lhS [(K.SI_MODE 3, 1)] [(K.SI_MODE 4, 1)] {}), ⟨3, 3, 7, none⟩, (by decide +kernel), (by decide +kernel), (by unfold DictWf SMap.Wf; decide +kernel), (by unfold DictWf SMap.Wf; decide +kernel)⟩,
    ⟨(lhS [(K.SI_MODE 3, 1)] [(K.SI_MODE 4, 1)] {}), ⟨4, 3, 7, none⟩, (by decide +kernel), (by decide +kernel), (by decide +kernel), (by unfold DictWf SMap.Wf; decide +kernel), (by unfold DictWf SMap.Wf; decide +kernel)⟩⟩

theorem witness_PowerTransitions :
    (∃ (s : State), (s.inTransition = true)) ∧
    (∃ (s : State), (s.inTransition = false) ∧ (s.draining = false) ∧ (s.power = 0)) ∧
    (∃ (s : State), (s.inTransition = false) ∧ (s.draining = false) ∧ (s.power = 1)) ∧
    (∃ (s : State), (s.inTransition = false) ∧ (s.draining = false) ∧ (s.power = 2)) ∧
    (∃ (s : State), (s.inTransition = false) ∧ (s.draining = false) ∧ (s.power = 0) ∧ (s.rd K.TRIP_LATCHED = 1)) ∧
    (∃ (s : State), (s.inTransition = false) ∧ (s.draining = false) ∧ (s.power = 0) ∧ (s.rd K.TRIP_LATCHED ≠ 1)) ∧
    (∃ (s : State), (s.inTransition = false) ∧ (s.draining = false) ∧ (s.power = 1) ∧ (s.enough (s.rdN K.CLUSTER_SELECT) = false)) ∧
    (∃ (s : State) (d : Nat) (r : List PowerStep), (s.inTransition = false) ∧ (s.draining = false) ∧ (s.power = 1) ∧ (s.enough (s.rdN K.CLUSTER_SELECT) = true) ∧ (d < 16) ∧ (s.runUp = PowerStep.up d :: r)) ∧
    (∃ (s : State), (s.inTransition = false) ∧ (s.draining = false) ∧ (s.power = 1) ∧ (s.netState = N.OFF)) ∧
    (∃ (s : State), (s.inTransition = false) ∧ (s.draining = false) ∧ (s.power = 2) ∧ (s.axesQuiet = false)) ∧
    (∃ (s : State), (s.inTransition = false) ∧ (s.power ≠ 2)) ∧
    (∃ (s : State) (v : Fin 256), (s.inTransition = false) ∧ (s.power = 2) ∧ (∃ j, j < 8 ∧ s.cluster j = 1 ∧ bit (↑v) j = false) ∧ (s.enough ↑v = false)) ∧
    (∃ (s : State), (s.inTransition = false) ∧ (s.power = 2) ∧ (s.rd (K.DOMAIN_STATE Dom.ACQ) = 0)) ∧
    (∃ (s : State), (s.power = 0) ∧ (1200 < s.rd K.TJ_NOW)) ∧
    (∃ (s : State), (s.power = 0) ∧ (s.rd K.TJ_NOW ≤ 1200)) ∧
    (∃ (s : State) (x : Transition) (d : Nat) (r : List PowerStep), (s.power_.trans = some x) ∧ (x.steps = PowerStep.up Dom.CORE :: PowerStep.up d :: r) ∧ (d < 16) ∧ (d ≠ Dom.CORE)) ∧
    (∃ (s : State) (x : Transition), (s.power_.trans = some x) ∧ (x.steps = [PowerStep.up Dom.CORE]) ∧ (x.later = []) ∧ (s.draining = false) ∧ (∀ (n : Nat), n < 10 → (s.session n).reqs = []) ∧ (x.own = true) ∧ (x.target ≠ x.from_) ∧ (x.from_ ≠ 2)) ∧
    (∃ (s : State) (j : Fin 8), (s.rd (K.DOMAIN_STATE (3 + ↑j)) = 3) ∧ (s.power_.trans = none) ∧ (∀ (u : Machine.Task), u ∈ s.ferry.tasks → ∀ (k : Nat), u.phase.skerry = some k → k / 8 ≠ ↑j)) :=
  ⟨⟨(trS [] ⟨0, 1, [.up Dom.CORE], [], true⟩), by decide +kernel⟩,
    ⟨(st []), by decide +kernel⟩,
    ⟨(st [(K.POWER_STATE, 1)]), by decide +kernel⟩,
    ⟨(st [(K.POWER_STATE, 2)]), by decide +kernel⟩,
    ⟨(st [(K.TRIP_LATCHED, 1)]), by decide +kernel⟩,
    ⟨(st []), by decide +kernel⟩,
    ⟨(st [(K.POWER_STATE, 1), (K.CLUSTER_SELECT, 3), (K.CLUSTERS_MIN, 3)]), by decide +kernel⟩,
    ⟨(st [(K.POWER_STATE, 1), (K.CLUSTER_SELECT, 7), (K.CLUSTERS_MIN, 3)]), 3, ((State.runUp (st [(K.POWER_STATE, 1), (K.CLUSTER_SELECT, 7), (K.CLUSTERS_MIN, 3)])).drop 1), by decide +kernel⟩,
    ⟨(st [(K.POWER_STATE, 1)]), by decide +kernel⟩,
    ⟨(st [(K.POWER_STATE, 2), (K.AXIS_STATE 7, 3)]), by decide +kernel⟩,
    ⟨(st [(K.POWER_STATE, 1)]), by decide +kernel⟩,
    ⟨(st [(K.POWER_STATE, 2), (K.CLUSTER_STATE 3, 1), (K.CLUSTERS_MIN, 3)]), 3, by decide +kernel⟩,
    ⟨(st [(K.POWER_STATE, 2)]), by decide +kernel⟩,
    ⟨(st [(K.TJ_NOW, 1201), (K.TRIP_LATCHED, 1)]), by decide +kernel⟩,
    ⟨(st [(K.TJ_NOW, 1200), (K.TRIP_LATCHED, 1)]), by decide +kernel⟩,
    ⟨(trS [(K.DOMAIN_STATE Dom.CORE, 1)] ⟨0, 1, [.up Dom.CORE, .up 3], [], true⟩), ⟨0, 1, [.up Dom.CORE, .up 3], [], true⟩, 3, [], by decide +kernel⟩,
    ⟨(trS [(K.DOMAIN_STATE Dom.CORE, 1)] ⟨0, 1, [.up Dom.CORE], [], true⟩), ⟨0, 1, [.up Dom.CORE], [], true⟩, by decide +kernel⟩,
    ⟨(st [(K.DOMAIN_STATE 5, 3), (K.CLUSTER_STATE 2, 2)]), 2, by decide +kernel⟩⟩

theorem witness_PowerFeedsAndThermal :
    (∃ (s : State) (tj : BitVec 16), (tj.toInt < 1400) ∧ (s.power_.warned = false) ∧ (tj.toInt < s.rd K.THERMAL_WARN)) ∧
    (∃ (s : State) (tj : BitVec 16), (tj.toInt < 1400) ∧ (s.power_.warned = false) ∧ (s.rd K.THERMAL_WARN ≤ tj.toInt)) ∧
    (∃ (s : State) (tj : BitVec 16), (1400 ≤ tj.toInt) ∧ (s.power ≠ 0)) ∧
    (∃ (s : State) (tj : BitVec 16), (s.power_.warned = false) ∧ (s.rd K.THERMAL_WARN ≤ tj.toInt)) ∧
    (∃ (s : State), (s.power_.warned = true)) :=
  ⟨⟨(st [(K.THERMAL_WARN, 1000)]), 999, by decide +kernel⟩,
    ⟨(st [(K.THERMAL_WARN, 1000)]), 1000, by decide +kernel⟩,
    ⟨(st [(K.THERMAL_WARN, 1000), (K.POWER_STATE, 2), (K.DOMAIN_STATE 2, 2), (K.DOMAIN_STATE 5, 2)]), 1400, by decide +kernel⟩,
    ⟨(st [(K.THERMAL_WARN, 1000)]), 1000, by decide +kernel⟩,
    ⟨{(st [(K.THERMAL_WARN, 1000)]) with power_ := {warned := true}}, by decide +kernel⟩⟩

theorem witness_ClocksAndResets :
    (∃ (s : State), (s.boot.state ≠ BootState.inReset) ∧ (∀ (x : Raised), x ∈ s.raised → x.source < 256)) ∧
    (∃ (s : State), (s.boot.state ≠ BootState.inReset) ∧ (∀ (x : Raised), x ∈ s.raised → x.source < 256) ∧ (s.supOn = true)) ∧
    (∃ (s : State), (s.boot.state ≠ BootState.inReset) ∧ (∀ (x : Raised), x ∈ s.raised → x.source < 256) ∧ (s.supOn = false)) ∧
    (∃ (s : State), (s.boot.state ≠ BootState.inReset) ∧ (∀ (x : Raised), x ∈ s.raised → x.source < 256) ∧ (s.boot.tapHolds = true)) ∧
    (∃ (s : State), (s.boot.state ≠ BootState.inReset) ∧ (∀ (x : Raised), x ∈ s.raised → x.source < 256) ∧ (s.boot.tapHolds = false) ∧ (s.axesQuiet = true)) ∧
    (∃ (s : State), (s.boot.state ≠ BootState.inReset) ∧ (∀ (x : Raised), x ∈ s.raised → x.source < 256) ∧ (s.boot.tapHolds = false) ∧ (s.axesQuiet = false)) ∧
    (∃ (s : State) (pll : Fin 6), (s.boot.state ≠ BootState.inReset) ∧ (∀ (x : Raised), x ∈ s.raised → x.source < 256) ∧ (bit (s.rdN K.PLL_LOCKED) ↑pll = true) ∧ (↑pll ≤ 1)) ∧
    (∃ (s : State) (pll : Fin 6), (s.boot.state ≠ BootState.inReset) ∧ (∀ (x : Raised), x ∈ s.raised → x.source < 256) ∧ (bit (s.rdN K.PLL_LOCKED) ↑pll = true) ∧ (↑pll = 5)) ∧
    (∃ (s : State) (i : Fin 7), (s.boot.state ≠ BootState.inReset) ∧ (∀ (x : Raised), x ∈ s.raised → x.source < 256) ∧ (3 ≤ ↑i) ∧ (↑i ≤ 5) ∧ (s.boot.tapHolds = false)) ∧
    (∃ (s : State) (i : Fin 7), (s.boot.state ≠ BootState.inReset) ∧ (∀ (x : Raised), x ∈ s.raised → x.source < 256) ∧ (3 ≤ ↑i) ∧ (↑i ≤ 5) ∧ (s.boot.tapHolds = true)) ∧
    (∃ (s : State) (i : Fin 7), (s.boot.state ≠ BootState.inReset) ∧ (∀ (x : Raised), x ∈ s.raised → x.source < 256) ∧ (↑i = 1)) ∧
    (∃ (s : State) (i : Fin 7), (s.boot.state ≠ BootState.inReset) ∧ (∀ (x : Raised), x ∈ s.raised → x.source < 256) ∧ (↑i = 0 ∨ ↑i = 2 ∨ ↑i = 6)) :=
  ⟨⟨bs, by decide +kernel⟩,
    ⟨bs, by decide +kernel⟩,
    ⟨{bs with boot := {state := .image}, od := SMap.insert bs.od (K.DOMAIN_STATE 1) 0}, by decide +kernel⟩,
    ⟨bq, by decide +kernel⟩,
    ⟨bs, by decide +kernel⟩,
    ⟨{bs with od := SMap.insert bs.od (K.AXIS_STATE 3) 3}, by decide +kernel⟩,
    ⟨bs, 1, by decide +kernel⟩,
    ⟨bs, 5, by decide +kernel⟩,
    ⟨bs, 3, by decide +kernel⟩,
    ⟨bq, 5, by decide +kernel⟩,
    ⟨bs, 1, by decide +kernel⟩,
    ⟨bs, 6, by decide +kernel⟩⟩

theorem witness_BootSequence :
    (∃ (s : State), (s.boot.state = BootState.inReset) ∧ (s.boot.tapHolds = false) ∧ (s.canPower 1 = false)) ∧
    (∃ (s : State), (s.boot.state = BootState.inReset) ∧ (s.boot.tapHolds = false) ∧ (s.canPower 1 = true)) ∧
    (∃ (s : State), (s.boot.state = BootState.loading) ∧ (s.boot.trying < 2)) ∧
    (∃ (s : State), (s.boot.state = BootState.loading) ∧ (s.boot.trying < 2)) ∧
    (∃ (s : State), (s.boot.state = BootState.image) ∧ (s.mram.pointer = none)) ∧
    (∃ (s : State) (aOk : Bool) (i : Image) (n : Nat), (s.boot.state = BootState.image) ∧ (s.mram.pointer = some (0, n)) ∧ (s.mram.slotA = some i) ∧ (aOk = true) ∧ (i.seq = n)) :=
  ⟨⟨(br [(K.RESET_CAUSE, 3), (K.RESET_CAUSE_BITS, 8), (K.FEED_A_STATUS 0, 2), (K.FEED_B_STATUS 0, 2)] {state := .inReset}), by decide +kernel⟩,
    ⟨(br [(K.RESET_CAUSE, 3), (K.RESET_CAUSE_BITS, 8)] {state := .inReset}), by decide +kernel⟩,
    ⟨(br [(K.SLOT_STATUS 0, 0), (K.SLOT_STATUS 1, 0)] {state := .loading, headers := [hdrE, hdrE], tried := [0]}), by decide +kernel⟩,
    ⟨(br [(K.SLOT_STATUS 0, 0), (K.SLOT_STATUS 1, 0)] {state := .loading, headers := [hdrE, hdrE], trying := 1, tried := [0, 1]}), by decide +kernel⟩,
    ⟨(br [] {state := .image}), by decide +kernel⟩,
    ⟨{(br [] {state := .image}) with mram := {slotA := some ⟨3, 4, [(K.PRESENT 3, 1)], []⟩, ring := [(0, (0, 3))], last := 0}}, true, ⟨3, 4, [(K.PRESENT 3, 1)], []⟩, 3, by decide +kernel⟩⟩

theorem witness_FirmwareAndFuses :
    (∃ (s : State) (n : Fin 256), (↑n < s.rdN K.FUSED_SV ∨ 64 < ↑n)) ∧
    (∃ (s : State) (n : Fin 256), (s.rdN K.FUSED_SV ≤ ↑n) ∧ (↑n ≤ 64) ∧ (hdrSecurity s.runningHeader < ↑n)) ∧
    (∃ (s : State) (n : Fin 256), (s.rdN K.FUSED_SV ≤ ↑n) ∧ (↑n ≤ 64) ∧ (↑n ≤ hdrSecurity s.runningHeader)) ∧
    (∃ (keys : Fin 256), (16 ≤ ↑keys)) ∧
    (∃ (s : State) (keys : Fin 256), (↑keys < 16) ∧ (bit (↑keys) (uAt s.runningHeader 6 1) = true)) ∧
    (∃ (s : State) (keys : Fin 256), (↑keys < 16) ∧ (bit (↑keys) (uAt s.runningHeader 6 1) = false)) ∧
    (∃ (s : State), (s.fwState = 0 ∨ s.fwState = 4 ∨ s.fwState = 5)) ∧
    (∃ (s : State), (s.fwState = 1 ∨ s.fwState = 3)) ∧
    (∃ (s : State), (s.fwState = 1)) ∧
    (∃ (s : State) (b : Bytes), (s.fwState = 2) ∧ (uAt b 0 4 = s.rdN K.RECEIVED) ∧ (4 < List.length b) ∧ (List.length b ≤ 4100) ∧ (uAt b 0 4 + (List.length b - 4) ≤ 8388608)) ∧
    (∃ (s : State) (b : Bytes), (s.fwState ≠ 2 ∨ uAt b 0 4 ≠ s.rdN K.RECEIVED)) ∧
    (∃ (s : State), (s.fwState = 2)) ∧
    (∃ (s : State), (s.fwState = 3)) ∧
    (∃ (s : State), (s.fwState = 1 ∨ s.fwState = 2)) ∧
    (∃ (s : State), (s.fwState ≠ 1) ∧ (s.fwState ≠ 2)) ∧
    (∃ (der : Bytes), (1024 < List.length der)) ∧
    (∃ (der : Bytes), (List.length der ≤ 1024)) ∧
    (∃ (der : Bytes), (List.length der ≤ 1024)) :=
  ⟨⟨(fw [(K.FUSED_SV, 3)]), 2, by decide +kernel⟩,
    ⟨(fw [(K.FUSED_SV, 3)]), 6, by decide +kernel⟩,
    ⟨(fw [(K.FUSED_SV, 3)]), 5, by decide +kernel⟩,
    ⟨16, by decide +kernel⟩,
    ⟨(fw [(K.FUSED_SV, 3)]), 4, by decide +kernel⟩,
    ⟨(fw [(K.KEY_REVOKED, 1)]), 8, by decide +kernel⟩,
    ⟨(fw [(K.RECEIVED, 6)]), by decide +kernel⟩,
    ⟨(fw [(K.FW_UPDATE_STATE, 3)]), by decide +kernel⟩,
    ⟨(fw [(K.FW_UPDATE_STATE, 1)]), by decide +kernel⟩,
    ⟨(fw [(K.FW_UPDATE_STATE, 2), (K.RECEIVED, 6)]), [6, 0, 0, 0, 9], by decide +kernel⟩,
    ⟨(fw [(K.FW_UPDATE_STATE, 2), (K.RECEIVED, 6)]), [7, 0, 0, 0, 9], by decide +kernel⟩,
    ⟨(fw [(K.FW_UPDATE_STATE, 2)]), by decide +kernel⟩,
    ⟨(fw [(K.FW_UPDATE_STATE, 3)]), by decide +kernel⟩,
    ⟨(fw [(K.FW_UPDATE_STATE, 2)]), by decide +kernel⟩,
    ⟨(fw [(K.FW_UPDATE_STATE, 5)]), by decide +kernel⟩,
    ⟨(zeros 1025), by decide +kernel⟩,
    ⟨[9], by decide +kernel⟩,
    ⟨[], by decide +kernel⟩⟩

theorem witness_AgeingAndPlans :
    (∃ (s : State) (d : Fin 16), (↑d = 0 ∨ s.domainOn ↑d = true)) ∧
    (∃ (s : State) (p : Fin 49), (↑p < 48) ∧ ((s.port ↑p).linkUp = true)) ∧
    (∃ (s : State), (s.ptpLocked = true)) ∧
    (∃ (s : State) (now : Nat), (s.ageing.computedAt + 86400000000000 * s.rdN K.PLAN_INTERVAL ≤ max s.clk.now now)) ∧
    (∃ (s : State) (now : Nat), (max s.clk.now now < s.ageing.computedAt + 86400000000000 * s.rdN K.PLAN_INTERVAL)) ∧
    (∃ (s : State) (now : Nat), (s.boot.state = BootState.running) ∧ (s.ageing.vid ≠ s.rdN K.TRIM_ACTIVE / 5) ∧ (∀ (w : Nat), w ∈ s.ageing.vidAt → w + 1000000 ≤ max s.clk.now now)) ∧
    (∃ (s : State), (s.planNew = s.planActive)) ∧
    (∃ (s : State), (s.planNew ≠ s.planActive) ∧ (s.rd K.AUTO_ACCEPT ≠ 1)) ∧
    (∃ (s : State) (n : BitVec 32) (p : Plan), (s.ageing.proposal = some (n.toNat, p))) ∧
    (∃ (s : State) (n : BitVec 32), (∀ (x : Nat × Plan), x ∈ s.ageing.proposal → x.fst ≠ n.toNat)) ∧
    (∃ (s : State), (s.ageing.sparesDue ≠ 0)) :=
  ⟨⟨(ag [] {}), 0, by decide +kernel⟩,
    ⟨{(ag [] {}) with ports := [(3, {linkUp := true})]}, 3, by decide +kernel⟩,
    ⟨(ag [(K.PTP_PORT_STATE, 3)] {}), by decide +kernel⟩,
    ⟨(ag [] {}), 9000000000000000000, by decide +kernel⟩,
    ⟨(ag [] {}), 9, by decide +kernel⟩,
    ⟨(ag [(K.TRIM_ACTIVE, 25)] {vid := 2}), 9, by decide +kernel⟩,
    ⟨(ag [] {}), by decide +kernel⟩,
    ⟨(ag [(K.DEGRADATION 13, 320)] {}), by decide +kernel⟩,
    ⟨(ag [] {proposal := some (4, p0)}), 4, p0, by decide +kernel⟩,
    ⟨(ag [] {proposal := some (4, p0)}), 5, by decide +kernel⟩,
    ⟨(ag [] {sparesDue := 2}), by decide +kernel⟩⟩

end Sys2Proof.Tests
end

section
/-! Performance counters (R415, R416): which counters an event hits, what a count adds to a counter and to the pair of a
chained one, and what the chained pair reads as. Settles O48. -/

namespace Sys2Proof.Machine

variable (s : State)

/-! ### Which counters count -/

/-- The even counter of a chained pair counts no event of its own (R416). -/
theorem State.perfHits_even_of_chained {k : Nat} (hchain : s.rd (K.CHAIN k) = 1) (code sel : Nat) :
    s.perfHits code sel (2 * k) = false := by
  have hpair : 2 * k / 2 = k := by omega
  simp [State.perfHits, hpair, hchain]

/-- An odd counter that COUNTER_SELECT does not restrict counts its event, whether it is chained or not (R415). -/
theorem State.perfHits_odd_of_unrestricted {k : Nat} (hsel : s.rdN (K.COUNTER_SELECT (2 * k + 1)) = 0xFFFF) (sel : Nat) :
    s.perfHits (s.rdN (K.COUNTER_EVENT (2 * k + 1))) sel (2 * k + 1) = true := by
  have hodd : (2 * k + 1) % 2 = 1 := by omega
  simp only [State.perfHits, hsel, hodd]
  simp

/-! ### What a count adds -/

/-- A count that does not overflow changes its own counter alone. -/
theorem State.perfAdd_live_of_no_overflow {c n : Nat} (h : (SMap.get s.counters.live 0 c + n) / 2 ^ 32 = 0) :
    (s.perfAdd c n).counters.live = SMap.put s.counters.live 0 c ((SMap.get s.counters.live 0 c + n) % 2 ^ 32) := by
  unfold State.perfAdd
  rw [if_pos h]

/-- The overflows of the odd counter of a chained pair are added to the even one. -/
theorem State.perfAdd_live_of_carry {k n : Nat} (hchain : s.rd (K.CHAIN k) = 1)
    (h : (SMap.get s.counters.live 0 (2 * k + 1) + n) / 2 ^ 32 ≠ 0) :
    (s.perfAdd (2 * k + 1) n).counters.live =
      SMap.put (SMap.put s.counters.live 0 (2 * k + 1) ((SMap.get s.counters.live 0 (2 * k + 1) + n) % 2 ^ 32)) 0 (2 * k)
        ((SMap.get s.counters.live 0 (2 * k) + (SMap.get s.counters.live 0 (2 * k + 1) + n) / 2 ^ 32) % 2 ^ 32) := by
  have hpair : (2 * k + 1) / 2 = k := by omega
  have hodd : (2 * k + 1) % 2 = 1 ∧ s.rd (K.CHAIN ((2 * k + 1) / 2)) = 1 := ⟨by omega, hpair.symm ▸ hchain⟩
  have hother : 2 * k ≠ 2 * k + 1 := by omega
  unfold State.perfAdd
  rw [if_neg h, if_pos hodd, Nat.add_sub_cancel]
  simp only [SMap.get_put_other _ _ _ _ hother]

/-- The odd counter of a chained pair counts modulo 2^32. -/
theorem State.perfAdd_get_odd_of_chained {k : Nat} (hchain : s.rd (K.CHAIN k) = 1) (n : Nat) :
    SMap.get (s.perfAdd (2 * k + 1) n).counters.live 0 (2 * k + 1) =
      (SMap.get s.counters.live 0 (2 * k + 1) + n) % 2 ^ 32 := by
  by_cases hup : (SMap.get s.counters.live 0 (2 * k + 1) + n) / 2 ^ 32 = 0
  · rw [s.perfAdd_live_of_no_overflow hup, SMap.get_put_same]
  · rw [s.perfAdd_live_of_carry hchain hup, SMap.get_put_other _ _ _ _ (by omega), SMap.get_put_same]

/-- The even counter of a chained pair gains one for each overflow of the odd one. -/
theorem State.perfAdd_get_even_of_chained {k : Nat} (hchain : s.rd (K.CHAIN k) = 1)
    (hfits : SMap.get s.counters.live 0 (2 * k) < 2 ^ 32) (n : Nat) :
    SMap.get (s.perfAdd (2 * k + 1) n).counters.live 0 (2 * k) =
      (SMap.get s.counters.live 0 (2 * k) + (SMap.get s.counters.live 0 (2 * k + 1) + n) / 2 ^ 32) % 2 ^ 32 := by
  by_cases hup : (SMap.get s.counters.live 0 (2 * k + 1) + n) / 2 ^ 32 = 0
  · rw [s.perfAdd_live_of_no_overflow hup, SMap.get_put_other _ _ _ _ (by omega), hup, Nat.add_zero,
      Nat.mod_eq_of_lt hfits]
  · rw [s.perfAdd_live_of_carry hchain hup, SMap.get_put_same]

/-! ### What the objects read -/

/-- The cycle start latches the live counters and their overflow flags (R415). -/
theorem State.nextStart_counters :
    s.nextStart.counters = { s.counters with latched := s.counters.live, latchedFlags := s.counters.flags } := rfl

/-- COUNTER64 of pair `k` joins the latched values of its two counters (R416). -/
theorem State.entryValue_counter64 (k : Nat) :
    s.entryValue 0x7605 (k + 1) =
      (SMap.get s.counters.latched 0 (2 * k) * 2 ^ 32 + SMap.get s.counters.latched 0 (2 * k + 1) : Nat) := by
  simp [State.entryValue, State.ifcValue]

/-- Settles O48: by the chained pair's rules for a count, for the even counter without and with an overflow. -/
theorem chainedCounters : Obligations.ChainedCounters := by
  unfold Obligations.ChainedCounters
  intro s k hchain
  refine ⟨s.perfHits_even_of_chained hchain, ?_, fun n hfits => ?_, ?_, s.entryValue_counter64 k⟩
  · rintro _ rfl hsel sel
    exact s.perfHits_odd_of_unrestricted hsel sel
  · exact ⟨s.perfAdd_get_odd_of_chained hchain n, s.perfAdd_get_even_of_chained hchain hfits n⟩
  · rw [s.nextStart_counters]

end Sys2Proof.Machine
end

section
/-! The recorder's rate limits (R457): what a write of a plain live entry answers and changes once it has passed the checks
before its range, and the range of RATE and BURST of a source. Settles O33. -/

namespace Sys2Proof.Machine

/-! ### Numbers that octets stand for (R324) -/

theorem leNat_lt_pow_length (b : Bytes) : leNat b < 256 ^ b.length := by
  induction b with
  | nil => simp [leNat]
  | cons x r ih =>
    have hx : x.toNat < 256 := x.isLt
    simp only [leNat, List.length_cons, Nat.pow_succ]
    omega

theorem uAt_lt_pow (b : Bytes) (off len : Nat) : uAt b off len < 256 ^ len :=
  calc uAt b off len < 256 ^ (slice b off len).length := leNat_lt_pow_length _
    _ ≤ 256 ^ len := Nat.pow_le_pow_right (by decide) (List.length_take_le ..)

/-- Any two octets are a value of a U16 entry. -/
theorem OdType.holds_u16 (b : Bytes) : (OdType.u 16).holds (uAt b 0 2) = true := by
  have hlt := uAt_lt_pow b 0 2
  simp only [OdType.holds, decide_eq_true_eq]
  omega

/-! ### Writes that reach check 9 (R325, R326) -/

section
variable {s : State} {w : Who} {i u : Nat} {b : Bytes} {r : OdRow}

/-- The write of an entry with row `r` passes checks 1 to 8 without a password: there is the entry, it is no read-only
one, the role suffices, no password is asked for or barred, and the length fits. -/
structure State.ReachesRange (s : State) (w : Who) (i u : Nat) (b : Bytes) (r : OdRow) : Prop where
  entry : s.entry i u = .ok r
  writable : r.access ≠ .ro
  role : s.mayWrite w r i u = true
  unbarred : s.lockBar w = false
  noPassword : s.needsPassword r (odKey i u) = false
  fits : r.ty.fits b = true

/-- After checks 1 to 8 the range alone decides. -/
theorem State.ReachesRange.writeCheck_eq (h : s.ReachesRange w i u b r) :
    s.writeCheck w i u b = (s, if s.rangeOk r (odKey i u) b then .ok else .range) := by
  cases hok : s.rangeOk r (odKey i u) b <;>
    simp [State.writeCheck, h.entry, h.writable, h.role, h.unbarred, h.noPassword, h.fits, hok]

theorem State.ReachesRange.write_of_not_rangeOk (h : s.ReachesRange w i u b r)
    (hbad : s.rangeOk r (odKey i u) b = false) : s.write w i u b = (s, some .range) := by
  simp [State.write, h.writeCheck_eq, hbad, State.denied]

theorem State.ReachesRange.write_of_rangeOk (h : s.ReachesRange w i u b r)
    (hgood : s.rangeOk r (odKey i u) b = true) {t : State}
    (heff : s.writeEffect w (odKey i u) b = (t, some .ok)) : s.write w i u b = (t, some .ok) := by
  simp [State.write, h.writeCheck_eq, hgood, heff, State.denied]

end

/-- Time passing and an answer given out touch the clock and the outputs alone. -/
theorem onlyParts_at_emit (s : State) (now : Nat) (o : Out) :
    OnlyParts [.clock, .outputs] s ((s.at now).emit o) := by
  intro p hp
  cases p with
  | clock => exact absurd (by simp) hp
  | outputs => exact absurd (by simp) hp
  | _ => rfl

/-- A write that is answered runs to the state it leaves with the answer given out. -/
theorem runs_odWrite_of_write_eq {s t : State} {w : Who} {index : Fin 65536} {sub : Fin 256} {b : Bytes} {now : Nat}
    {a : Ans} {q : State → Prop} (hwrite : (s.at now).write w index.val sub.val b = (t, some a))
    (hq : q (t.emit (.answer a))) : Runs (.odWrite w index sub b now) s q :=
  ⟨t.emit (.answer a), by simp only [exec, execOdWrite, hwrite, powerAnswered], hq⟩

section
variable {s : State} {w : Who} {index : Fin 65536} {sub : Fin 256} {b : Bytes} {now : Nat} {r : OdRow}
  (h : (s.at now).ReachesRange w index.val sub.val b r)
include h

/-- A value outside the entry's range is answered RANGE and changes nothing. -/
theorem State.ReachesRange.runs_of_not_rangeOk (hbad : (s.at now).rangeOk r (odKey index.val sub.val) b = false) :
    Runs (.odWrite w index sub b now) s (fun t => AnsweredJust .range s t ∧ OnlyParts [.clock, .outputs] s t) :=
  runs_odWrite_of_write_eq (h.write_of_not_rangeOk hbad) ⟨rfl, onlyParts_at_emit s now _⟩

/-- A value inside the range, of an entry that holds it and does no more, is answered OK and changes that entry alone. -/
theorem State.ReachesRange.runs_of_rangeOk (hgood : (s.at now).rangeOk r (odKey index.val sub.val) b = true) {v : Int}
    (heff : (s.at now).writeEffect w (odKey index.val sub.val) b =
      ((s.at now).wr (odKey index.val sub.val) v, some .ok)) :
    Runs (.odWrite w index sub b now) s (fun t => AnsweredJust .ok s t ∧ t.rd (odKey index.val sub.val) = v ∧
      OnlyEntries [odKey index.val sub.val] s t) := by
  refine runs_odWrite_of_write_eq (h.write_of_rangeOk hgood heff) ⟨rfl, State.rd_wr_same .., fun k hk => ?_⟩
  exact State.rd_wr_other _ _ (List.ne_of_not_mem_cons hk)

end

/-! ### Writes without an effect beyond their value -/

theorem odKey_div (i : Nat) {u : Nat} (hu : u < 256) : odKey i u / 256 = i := by
  simp only [odKey]
  omega

theorem odKey_mod (i : Nat) {u : Nat} (hu : u < 256) : odKey i u % 256 = u := by
  simp only [odKey]
  omega

/-- The acquisition and recorder objects have no COUNTER_RESET. -/
theorem resetKeys_of_ge {i : Nat} (hi : 0x7000 ≤ i) (u : Nat) : resetKeys i u = none := by
  unfold resetKeys
  simp (disch := omega) only [if_neg]

theorem acqGuarded_of_gt {i : Nat} (hi : 0x701F < i) (u : Nat) : acqGuarded i u = false := by
  have hfirst : i ≠ 0x7000 := by omega
  have hlast : i.ble 0x701F = false := Bool.eq_false_iff.2 (by simpa using hi)
  simp [acqGuarded, hfirst, hlast]

/-- Between CLEAR and the points, a write acts by its value alone. -/
theorem State.acqEffect_of_recorder (s : State) (w : Who) {k : Nat} (hlo : 0x7800 < k / 256) (hhi : k / 256 < 0x8000)
    (v : Int) : s.acqEffect w k v = none := by
  have hne : ∀ i u, i ≤ 0x7800 → u < 256 → k ≠ odKey i u := by
    rintro i u hi hu rfl
    rw [odKey_div i hu] at hlo
    omega
  have hpoint : ¬ 0x8000 ≤ k / 256 := by omega
  simp [State.acqEffect, hne, acqGuarded_of_gt (show 0x701F < k / 256 by omega), hpoint]

/-! ### RATE and BURST (R457, R464) -/

/-- The row of one of the two limits: U16 of an Administrator, in force as soon as written, with a range of its own. -/
def limitRow (i : Nat) (dflt : Int) (x : SpecialRange) : OdRow :=
  ⟨i, 1, 1, 0, 256, .u 16, .rw, dflt, .special x, true, 4, 0, .live⟩

/-- Only the last block of the tables lists the indices from 0x7810. -/
theorem odFindIn_recorderLimits (p : OdRow → Bool) {i : Nat} (hi : i = 0x7810 ∨ i = 0x7811) :
    odFindIn p i odBlocks = odRows7810_0.find? p := by
  rcases hi with rfl | rfl <;> cases h : odRows7810_0.find? p <;> simp [odFindIn, odBlocks, h]

theorem odRow_rate (c : Fin 256) : odRow (odKey 0x7810 c.val) = some (limitRow 0x7810 1000 .recorderRate) := by
  unfold odRow
  rw [odKey_div _ c.isLt, show odPage 0x7810 = 0x7810 from rfl, odFindIn_recorderLimits _ (.inl rfl)]
  simp [odRows7810_0, OdRow.has, OdRow.hasIndex, odKey_div _ c.isLt, odKey_mod _ c.isLt, limitRow]

theorem odRow_burst (c : Fin 256) : odRow (odKey 0x7811 c.val) = some (limitRow 0x7811 16 .recorderBurst) := by
  unfold odRow
  rw [odKey_div _ c.isLt, show odPage 0x7811 = 0x7811 from rfl, odFindIn_recorderLimits _ (.inr rfl)]
  simp [odRows7810_0, OdRow.has, OdRow.hasIndex, odKey_div _ c.isLt, odKey_mod _ c.isLt, limitRow]

section
variable {s : State} {w : Who} {c : Fin 256} {value : Bytes} {i : Nat} {dflt : Int} {x : SpecialRange}

theorem State.entry_limit (s : State) (hi : i = 0x7810 ∨ i = 0x7811)
    (hrow : odRow (odKey i c.val) = some (limitRow i dflt x)) : s.entry i c.val = .ok (limitRow i dflt x) := by
  have hpoint : ¬ (0x8000 ≤ i ∧ i < 0x8400) := by omega
  have hlisted : odListed i = true := by rcases hi with rfl | rfl <;> rfl
  have haxis : s.axisReserved i = false := by
    have hnone : axisObject i = none := if_neg (by omega)
    simp [State.axisReserved, hnone]
  simp [State.entry, hpoint, hlisted, haxis, hrow]

/-- An Administrator's write of two octets to a limit is decided by the limit's range. -/
theorem State.reachesRange_limit (hi : i = 0x7810 ∨ i = 0x7811)
    (hrow : odRow (odKey i c.val) = some (limitRow i dflt x)) (hrole : 4 ≤ w.role.val)
    (hcomm : (s.session w.session.val).commissioning = false) (hbar : s.lockBar w = false) (hlen : value.length = 2) :
    s.ReachesRange w i c.val value (limitRow i dflt x) := by
  have hkey : odKey i c.val ≠ K.PASSWORD_NEW := by
    simp only [odKey, K.PASSWORD_NEW]
    omega
  exact {
    entry := s.entry_limit hi hrow
    writable := by simp [limitRow]
    role := by simp [State.mayWrite, hcomm, hkey, limitRow, hrole]
    unbarred := hbar
    noPassword := by simp [State.needsPassword, hkey, limitRow]
    fits := by simp [limitRow, OdType.fits, OdType.size, hlen] }

/-- An accepted write of a limit stores its number and does nothing else. -/
theorem State.writeEffect_limit (s : State) (w : Who) (value : Bytes) (hi : i = 0x7810 ∨ i = 0x7811)
    (hrow : odRow (odKey i c.val) = some (limitRow i dflt x)) :
    s.writeEffect w (odKey i c.val) value = (s.wr (odKey i c.val) (uAt value 0 2), some .ok) := by
  have hdiv := odKey_div i c.isLt
  have heff : s.acqEffect w (odKey i c.val) (uAt value 0 2) = none :=
    s.acqEffect_of_recorder w (by omega) (by omega) _
  have hpage : ¬ i < 0x2000 ∧ ¬ i < 0x4000 ∧ ¬ i < 0x5000 ∧ ¬ i < 0x7000 := by omega
  simp [State.writeEffect, hdiv, odKey_mod i c.isLt, s.entry_limit hi hrow, resetKeys_of_ge (show 0x7000 ≤ i by omega),
    limitRow, OdType.number, OdType.size, OdRow.isBytes, hpage, heff]

theorem State.rangeOk_limit (s : State) (k : Nat) (value : Bytes) :
    s.rangeOk (limitRow i dflt x) k value = (specialOk s k (uAt value 0 2) x && s.moreOk k (uAt value 0 2) x) := by
  simp [State.rangeOk, limitRow, OdType.number, OdType.size, OdType.holds_u16]

end

theorem recFloor_of_group {c : Nat} (hc : c / 16 = 2 ∨ c / 16 = 12) : recFloor c = true := by
  simpa [recFloor] using hc

/-- Of these groups RATE takes the values from 1.00 record/s. -/
theorem State.rangeOk_rate (s : State) {c : Fin 256} (hc : recFloor c.val = true) (value : Bytes) :
    s.rangeOk (limitRow 0x7810 1000 .recorderRate) (odKey 0x7810 c.val) value = decide (100 ≤ uAt value 0 2) := by
  have hspecial (k : Nat) (v : Int) : specialOk s k v .recorderRate = true := rfl
  rw [State.rangeOk_limit, hspecial, State.moreOk, odKey_mod _ c.isLt, if_pos hc, Bool.true_and]
  exact decide_eq_decide.2 (by omega)

/-- Of these groups BURST takes the values 1 to 1,024. -/
theorem State.rangeOk_burst (s : State) {c : Fin 256} (hc : recFloor c.val = true) (value : Bytes) :
    s.rangeOk (limitRow 0x7811 16 .recorderBurst) (odKey 0x7811 c.val) value =
      decide (uAt value 0 2 ≤ 1024 ∧ 1 ≤ uAt value 0 2) := by
  have hspecial (k : Nat) (v : Int) : specialOk s k v .recorderBurst = true := rfl
  rw [State.rangeOk_limit, hspecial, State.moreOk, odKey_mod _ c.isLt, if_pos hc, Bool.true_and, ← Bool.decide_and]
  exact decide_eq_decide.2 (by omega)

/-- Settles O33: each write reaches the range check, and the range of RATE and of BURST has the floor for these groups. -/
theorem recorderFloors : Obligations.RecorderFloors := by
  unfold Obligations.RecorderFloors
  simp only [K.RATE, K.BURST, Nat.zero_add]
  intro s w c value now hc
  refine ⟨by simp [odDefault, odRow_rate, limitRow], by simp [odDefault, odRow_burst, limitRow],
    fun hrole hcomm hbar hlen => ?_⟩
  have hrate := State.reachesRange_limit (s := s.at now) (.inl rfl) (odRow_rate c) hrole hcomm hbar hlen
  have hburst := State.reachesRange_limit (s := s.at now) (.inr rfl) (odRow_burst c) hrole hcomm hbar hlen
  have hrateOk := (s.at now).rangeOk_rate (recFloor_of_group hc) value
  have hburstOk := (s.at now).rangeOk_burst (recFloor_of_group hc) value
  refine ⟨fun hlow => ?_, fun henough => ?_, fun hlow => ?_, fun henough hmax => ?_⟩
  · exact hrate.runs_of_not_rangeOk (index := 0x7810) (hrateOk.trans (decide_eq_false (by omega)))
  · exact hrate.runs_of_rangeOk (index := 0x7810) (hrateOk.trans (decide_eq_true henough))
      (State.writeEffect_limit _ w value (.inl rfl) (odRow_rate c))
  · exact hburst.runs_of_not_rangeOk (index := 0x7811) (hburstOk.trans (decide_eq_false (by omega)))
  · exact hburst.runs_of_rangeOk (index := 0x7811) (hburstOk.trans (decide_eq_true ⟨hmax, henough⟩))
      (State.writeEffect_limit _ w value (.inr rfl) (odRow_burst c))

end Sys2Proof.Machine
end

section
/-! AGEING_ALARM (R502, log 63): which causes a plan's computation raises, and what it leaves of the quantities they are
judged by. Refutes O60, whose states may list as scanned a number that is no port. -/

namespace Sys2Proof.Machine

/-! ### The AGEING_ALARM events between two states -/

/-- The AGEING_ALARM events raised between the two states carry these causes, in order. -/
def AlarmsRaised (l : List Nat) (s t : State) : Prop :=
  ∃ r, t.raised = s.raised ++ r ∧ (r.filter (·.source = Ev.AGEING_ALARM)).map (·.data0) = l

theorem AlarmsRaised.trans {l m : List Nat} {s t u : State} (hst : AlarmsRaised l s t) (htu : AlarmsRaised m t u) :
    AlarmsRaised (l ++ m) s u := by
  obtain ⟨r, hr, rfl⟩ := hst
  obtain ⟨q, hq, rfl⟩ := htu
  exact ⟨r ++ q, by rw [hq, hr, List.append_assoc], by rw [List.filter_append, List.map_append]⟩

theorem AlarmsRaised.of_raised_eq {s t : State} (h : t.raised = s.raised) : AlarmsRaised [] s t :=
  ⟨[], by rw [h, List.append_nil], rfl⟩

theorem alarmsRaised_raiseU_ageing (s : State) {c : Nat} (hc : c < 2 ^ 32) :
    AlarmsRaised [c] s (s.raiseU Ev.AGEING_ALARM (some c) none []) :=
  ⟨_, rfl, by simpa [State.word] using hc⟩

theorem alarmsRaised_raiseU_other (s : State) {source : Nat} (h : source ≠ Ev.AGEING_ALARM) (n : Nat) :
    AlarmsRaised [] s (s.raiseU source (some n) none []) :=
  ⟨_, rfl, by simpa using h⟩

/-- Whatever suffix the events raised are, a cause is among its AGEING_ALARM events just when it is listed. -/
theorem AlarmsRaised.exists_iff {l : List Nat} {s t : State} (h : AlarmsRaised l s t) {r : List Raised}
    (hr : t.raised = s.raised ++ r) (c : Nat) :
    (∃ e ∈ r, e.source = Ev.AGEING_ALARM ∧ e.data0 = c) ↔ c ∈ l := by
  obtain ⟨q, hq, rfl⟩ := h
  obtain rfl : r = q := List.append_cancel_left (hr.symm.trans hq)
  simp [and_assoc]

/-! ### What a plan leaves once HEADROOM stands -/

/-- The entries a plan writes after HEADROOM (R500 to R503). -/
def planEntries : List Nat :=
  [K.ALARM_CAUSES, K.PLAN_NUMBER, K.PLAN_STATE, K.TRIM_PROPOSED, K.CLOCK_PROPOSED, K.SPARES_PROPOSED, K.TRIM_ACTIVE]

/-- From `s` to `t` a plan raised AGEING_ALARM for these causes, and of what R502 judges it wrote none but the entries of a
plan. -/
structure PlanStep (l : List Nat) (s t : State) : Prop where
  alarms : AlarmsRaised l s t
  entries : OnlyEntries planEntries s t
  clk : t.clk = s.clk
  scanned : t.ageing.scanned = s.ageing.scanned
  poweredAt : t.ageing.poweredAt = s.ageing.poweredAt
  lastPlan : t.ageing.lastPlan = s.ageing.lastPlan

namespace PlanStep

variable {l m : List Nat} {s t u : State}

theorem trans (hst : PlanStep l s t) (htu : PlanStep m t u) : PlanStep (l ++ m) s u where
  alarms := hst.alarms.trans htu.alarms
  entries k hk := (htu.entries k hk).trans (hst.entries k hk)
  clk := htu.clk.trans hst.clk
  scanned := htu.scanned.trans hst.scanned
  poweredAt := htu.poweredAt.trans hst.poweredAt
  lastPlan := htu.lastPlan.trans hst.lastPlan

/-- A further part of the plan that raises no AGEING_ALARM. -/
theorem quiet (hst : PlanStep l s t) (htu : PlanStep [] t u) : PlanStep l s u :=
  List.append_nil l ▸ hst.trans htu

theorem wr (s : State) {k : Nat} (hk : k ∈ planEntries) (v : Int) : PlanStep [] s (s.wr k v) where
  alarms := .of_raised_eq rfl
  entries _ hj := s.rd_wr_other v (fun h => hj (h ▸ hk))
  clk := rfl
  scanned := rfl
  poweredAt := rfl
  lastPlan := rfl

theorem updAgeing (s : State) (f : Ageing → Ageing) (hscanned : (f s.ageing).scanned = s.ageing.scanned)
    (hpowered : (f s.ageing).poweredAt = s.ageing.poweredAt) (hlast : (f s.ageing).lastPlan = s.ageing.lastPlan) :
    PlanStep [] s (s.updAgeing f) where
  alarms := .of_raised_eq rfl
  entries _ _ := rfl
  clk := rfl
  scanned := hscanned
  poweredAt := hpowered
  lastPlan := hlast

/-- An event raised is judged by the causes it adds alone. -/
theorem raiseU (s : State) (source n : Nat) (h : AlarmsRaised l s (s.raiseU source (some n) none [])) :
    PlanStep l s (s.raiseU source (some n) none []) where
  alarms := h
  entries _ _ := rfl
  clk := rfl
  scanned := rfl
  poweredAt := rfl
  lastPlan := rfl

theorem emit (s : State) (o : Out) : PlanStep [] s (s.emit o) :=
  ⟨.of_raised_eq rfl, fun _ _ => rfl, rfl, rfl, rfl, rfl⟩

theorem foldS_raiseU (s : State) (l : List Nat) (hl : ∀ c ∈ l, c < 2 ^ 32) :
    PlanStep l s (foldS (fun s c => s.raiseU Ev.AGEING_ALARM (some c) none []) s l) := by
  induction l generalizing s with
  | nil => exact ⟨.of_raised_eq rfl, fun _ _ => rfl, rfl, rfl, rfl, rfl⟩
  | cons c l ih =>
    obtain ⟨hc, hl⟩ := List.forall_mem_cons.1 hl
    exact (raiseU s _ c (alarmsRaised_raiseU_ageing s hc)).trans (ih _ hl)

theorem showPlan (s : State) : PlanStep [] s s.showPlan := wr s (by decide) _

theorem planApply (s : State) (n : Nat) (p : Plan) : PlanStep [] s (s.planApply n p) :=
  ((wr s (k := K.TRIM_ACTIVE) (by decide) _).quiet (wr _ (k := K.PLAN_STATE) (by decide) _)).quiet
    (updAgeing _ _ rfl rfl rfl) |>.quiet (raiseU _ _ n (alarmsRaised_raiseU_other _ (by decide) n))

end PlanStep

/-! ### The causes -/

theorem State.mem_alarms (s : State) (c : Nat) : c ∈ s.alarms ↔
    (c = 1 ∧ 1200 < s.worstAgeing) ∨ (c = 2 ∧ s.rd K.HEADROOM < 0) ∨ (c = 3 ∧ 56 < s.rdN K.SPARES_USED) ∨
    (c = 4 ∧ ∃ p ∈ s.ageing.scanned, s.rdN (K.EYE_OPENING p) < 20 ∧ s.rdN (K.EQ_PRESET p) = 7) ∨
    (c = 5 ∧ (s.rd K.REF_DRIFT < -5000 ∨ 5000 < s.rd K.REF_DRIFT)) := by
  simp only [State.alarms, List.mem_filter, List.mem_cons, List.not_mem_nil, or_false]
  constructor
  · rintro ⟨rfl | rfl | rfl | rfl | rfl, h⟩ <;> simpa using h
  · rintro (⟨rfl, h⟩ | ⟨rfl, h⟩ | ⟨rfl, h⟩ | ⟨rfl, h⟩ | ⟨rfl, h⟩) <;> simpa using h

theorem State.alarms_lt {s : State} {c : Nat} (hc : c ∈ s.alarms) : c < 2 ^ 32 := by
  have hle : c ≤ 5 := by rcases s.mem_alarms c |>.1 hc with h | h | h | h | h <;> omega
  omega

/-- The state in which a plan's computation judges the causes: numbered, with HEADROOM of the plan's clock (R501). -/
def State.judged (s : State) (u : Rat) : State :=
  (s.wr K.HEADROOM (s.headroom s.planNew.clock u)).updAgeing (fun x => { x with lastPlan := s.ageing.lastPlan + 1 })

/-- A plan's computation raises the causes that hold where HEADROOM was written. -/
theorem State.planStep_planCompute (s : State) (u : Rat) : PlanStep (s.judged u).alarms (s.judged u) (s.planCompute u) := by
  unfold State.planCompute
  extract_lets p n s₁ l s₂ s₃ s₄
  have halarm : PlanStep l s₁ s₂ :=
    (PlanStep.wr s₁ (k := K.ALARM_CAUSES) (by decide) _).trans (.foldS_raiseU _ l fun _ => State.alarms_lt)
  have hproposed : PlanStep l s₁ s₄ := by
    refine PlanStep.quiet ?_ (.raiseU _ _ n (alarmsRaised_raiseU_other _ (by decide) n))
    refine PlanStep.quiet ?_ (.showPlan _)
    refine PlanStep.quiet ?_ (.updAgeing _ _ rfl rfl rfl)
    refine PlanStep.quiet ?_ (.wr _ (by decide) _)
    exact ((halarm.quiet (.wr _ (by decide) _)).quiet (.wr _ (by decide) _)).quiet (.wr _ (by decide) _)
  split
  · exact halarm.quiet (.showPlan _)
  · split
    · exact hproposed.quiet (.planApply _ n p)
    · exact hproposed

theorem runs_planCompute_iff (s : State) (busy : Rat) (q : State → Prop) :
    Runs (.planCompute busy) s q ↔ q ((s.planCompute busy).emit (.answer .ok)) := by
  have hexec : exec (.planCompute busy) s = .next ((s.planCompute busy).emit (.answer .ok)) := rfl
  simp [Runs, hexec]

/-- The answer is no part of the plan. -/
theorem State.planStep_planCompute_emit (s : State) (u : Rat) (o : Out) :
    PlanStep (s.judged u).alarms (s.judged u) ((s.planCompute u).emit o) :=
  (s.planStep_planCompute u).quiet (.emit _ o)

/-! ### The statement fails: a scanned number that is no port -/

/-- A state that lists 514 as scanned. EYE_OPENING and EQ_PRESET of 514 lie outside their objects: the one is the key of
SPARES_PROPOSED, which holds 0 here, and the other holds 7. The 20 worn rows make a plan propose 20 spare rows. -/
def scannedBeyondPorts : State :=
  { State.reset with od := [(K.EQ_PRESET 514, 7)], ageing := { scanned := [514], wornRows := 20 } }

/-- Cause 4 holds when it is judged. -/
theorem eyeCause_judged : 4 ∈ (scannedBeyondPorts.judged 0).alarms := by decide +kernel

/-- The proposal of 20 spare rows has overwritten the eye, and cause 4 holds no more. -/
theorem eyeCause_gone : 4 ∉ ((scannedBeyondPorts.planCompute 0).emit (.answer .ok)).alarms := by decide +kernel

/-- Refutes O60: it quantifies over every state and reads the causes after the plan, and from `scannedBeyondPorts` the plan
overwrites what cause 4 was judged by. Steps list as scanned the ports 0 to 48 alone (AGEING_MEASUREMENT), and for those
R502 holds: `ageingAlarms_of_scanned_ports`. -/
theorem not_ageingAlarms : ¬ Obligations.AgeingAlarms := by
  unfold Obligations.AgeingAlarms
  intro h
  obtain ⟨-, r, hr, hcauses⟩ := (runs_planCompute_iff _ _ _).1 (h scannedBeyondPorts 0)
  have hstep := scannedBeyondPorts.planStep_planCompute_emit 0 (.answer .ok)
  have hraised := (hstep.alarms.exists_iff hr 4).2 eyeCause_judged
  exact eyeCause_gone ((State.mem_alarms _ 4).2 ((hcauses 4).1 hraised))

/-! ### R502 where the scanned numbers are ports -/

/-- The worst degradation is the maximum of those of SUP, CORE and the recent clusters (R500). -/
theorem State.worstAgeing_eq_foldl_max (s : State) : s.worstAgeing =
    (([1, 13] ++ ((List.range 8).filter s.clusterRecent).map (3 + ·)).map (fun d => s.rdN (K.DEGRADATION d))).foldl max 0 :=
  List.foldl_map.symm

theorem PlanStep.worstAgeing_eq {l : List Nat} {s t : State} (h : PlanStep l s t) : t.worstAgeing = s.worstAgeing := by
  have hcluster : ∀ j < 8, K.CLUSTER_STATE j ∉ planEntries := by decide
  have hdegradation : ∀ d < 14, K.DEGRADATION d ∉ planEntries := by decide
  have hrecent : (List.range 8).filter t.clusterRecent = (List.range 8).filter s.clusterRecent :=
    List.filter_congr fun j hj => by
      simp only [State.clusterRecent, State.cluster, State.rdN_eq, h.entries _ (hcluster j (List.mem_range.1 hj)),
        h.clk, h.poweredAt]
  rw [State.worstAgeing_eq_foldl_max, State.worstAgeing_eq_foldl_max, hrecent]
  refine congrArg (List.foldl max 0) (List.map_congr_left fun d hd => ?_)
  have hlt : d < 14 := by
    simp only [List.mem_append, List.mem_cons, List.mem_map, List.mem_filter, List.mem_range,
      List.not_mem_nil, or_false] at hd
    obtain (rfl | rfl) | ⟨j, ⟨hj, -⟩, rfl⟩ := hd <;> omega
  simp only [State.rdN_eq, h.entries _ (hdegradation d hlt)]

/-- A plan leaves the causes as it judged them. -/
theorem PlanStep.alarms_eq {l : List Nat} {s t : State} (h : PlanStep l s t) (hports : ∀ p ∈ s.ageing.scanned, p < 49) :
    t.alarms = s.alarms := by
  have hport : ∀ p < 49, K.EYE_OPENING p ∉ planEntries ∧ K.EQ_PRESET p ∉ planEntries := by decide
  have heye : t.ageing.scanned.any (fun p => Nat.blt (t.rdN (K.EYE_OPENING p)) 20 && t.rdN (K.EQ_PRESET p) == 7) =
      s.ageing.scanned.any (fun p => Nat.blt (s.rdN (K.EYE_OPENING p)) 20 && s.rdN (K.EQ_PRESET p) == 7) := by
    rw [h.scanned, Bool.eq_iff_iff, List.any_eq_true, List.any_eq_true]
    refine exists_congr fun p => and_congr_right fun hp => ?_
    obtain ⟨heye, hpreset⟩ := hport p (hports p hp)
    simp only [State.rdN_eq, h.entries _ heye, h.entries _ hpreset]
  simp only [State.rdN_eq] at heye
  simp only [State.alarms, State.rdN_eq, h.worstAgeing_eq, heye, h.entries K.HEADROOM (by decide),
    h.entries K.SPARES_USED (by decide), h.entries K.REF_DRIFT (by decide)]

/-- R502 and log 63, for scanned numbers that are ports (R505): a plan raises AGEING_ALARM once for each cause that holds
after it and for no other, and is computed all the same. -/
theorem ageingAlarms_of_scanned_ports (s : State) (busy : Rat) (hports : ∀ p ∈ s.ageing.scanned, p < 49) :
    Runs (.planCompute busy) s (fun t => t.ageing.lastPlan = s.ageing.lastPlan + 1 ∧ AlarmsRaised t.alarms s t) := by
  have hstep := s.planStep_planCompute_emit busy (.answer .ok)
  refine (runs_planCompute_iff _ _ _).2 ⟨hstep.lastPlan, ?_⟩
  rw [hstep.alarms_eq hports]
  exact hstep.alarms

/-- A reset state with an eye of 0.19 UI at preset 7 scanned on port 3. -/
def weakEye : State :=
  { State.reset with od := [(K.EYE_OPENING 3, 19), (K.EQ_PRESET 3, 7)], ageing := { scanned := [3] } }

theorem witness_ageingAlarms_of_scanned_ports :
    Runs (.planCompute 0) weakEye (fun t => t.ageing.lastPlan = 1 ∧ AlarmsRaised [4] weakEye t) := by
  obtain ⟨hlast, hraised⟩ := (runs_planCompute_iff _ _ _).1 (ageingAlarms_of_scanned_ports weakEye 0 (by decide))
  have halarms : ((weakEye.planCompute 0).emit (.answer .ok)).alarms = [4] := by decide +kernel
  exact (runs_planCompute_iff _ _ _).2 ⟨hlast, halarms ▸ hraised⟩

end Sys2Proof.Machine
end
